-- ==== Sys2Proof/Word.lean ====
section
/-! DEFINITION. The byte and the register word. -/

namespace Sys2Proof

/-- One byte of a packet, a segment or a memory. -/
abbrev Byte := BitVec 8

/-- A 32-bit register value (00_scope.md R3). -/
abbrev Word := BitVec 32

end Sys2Proof
end

