-- ==== Sys2Proof/Syntax.lean ====
section
/-! DEFINITION. The commands of the block: one constructor of `Instr` for each row of the opcode table, with the
operands the row's rule gives it. A command opcode (15_command_set.md R406 to R412) carries its path and its payload
bytes; an event carries the instant `t` on the 1 GHz timebase where a rule measures time (04_position_scheduler.md R94),
and what the device samples there (received bytes, levels, measured values). -/

namespace Sys2Proof

/-- An access path (21_register_map.md R527): a session S0 to S7, the board management port, or firmware. -/
inductive Path where
  | sess (k : Nat)
  | bmp
  | fw
  deriving DecidableEq, Repr

/-- The encapsulation of a Moevo segment (14_host_network.md R363). -/
inductive Encap where
  | udp4
  | udp6
  | raw
  deriving DecidableEq, Repr

/-- The host end of a path (R364): encapsulation, source MAC address, source IP address and source UDP port. -/
structure HostAddr where
  enc : Encap
  mac : Nat
  ip : Nat
  port : Nat
  deriving DecidableEq, Repr

/-- A frame that carries a segment (14_host_network.md R360, R363): the host end it comes from, its length from destination address
to FCS, whether its FCS is bad, it is an IPv4 fragment or has IPv6 extension headers, its destination UDP port and whether its
checksum is wrong, and the codewords that the FEC decoder corrected and could not correct since the last one. -/
structure Frame where
  src : HostAddr
  octets : Nat := 64
  fcs : Bool := false
  frag : Bool := false
  ext : Bool := false
  dstPort : Nat := 51260
  sum : Bool := false
  fecCe : Nat := 0
  fecUe : Nat := 0
  deriving DecidableEq, Repr

/-- A 64b/66b block as received (03_triry_link.md R56): the 2-bit sync header and the 64 scrambled block bits. -/
structure LaneBlock where
  sync : BitVec 2
  bits : BitVec 64
  deriving DecidableEq, Repr

/-- A BCB command frame as a tile receives it (R68): its segment, its two type bits, whether its CRC-16 checks, its
sequence number, its address, its data bytes, and the longest idle gap between two of its bytes in bit times (R67). The
opcode is the command's own. -/
structure TileCmd where
  seg : Nat
  ftype : BitVec 2
  crcOk : Bool
  seq : Nat
  addr : Nat
  data : List Byte
  gap : Nat := 0
  deriving DecidableEq, Repr

/-- What a tile integrates over one window (R33, R59, R61): per row RED, GRN, BLU and NIR its 8 optical-black photosites and
then its PHOTOSITES imaging photosites, the lamp-monitor sample, and the tile's own conditions DATA_INVALID, TEMP_WARN and
SUPPLY_WARN. `idle` is the number of idle blocks that its lane has carried since its last frame (R57). -/
structure WindowIn where
  samples : List Nat
  lamp : Nat
  invalid : Bool
  tempWarn : Bool
  supplyWarn : Bool
  idle : Nat := 0
  deriving DecidableEq, Repr

/-- A direct register access through BMP pointer 0x20 (16_management_buses.md R428): the bytes written after the
pointer (address bytes and, for a write, data bytes), or a read of `n` bytes; or a write transaction of a pointer alone, from
which the reads after it read (R423). -/
inductive BmpReg where
  | write (bytes : List Byte)
  | read (n : Nat)
  | point (v : Nat)
  deriving DecidableEq, Repr

/-- What a broken byte of the BMP interrupts (R426). -/
inductive BmpByte where
  | mbox
  | reg
  | other
  deriving DecidableEq, Repr

/-- A PRBS checker: that of a tile lane, or that of lane `k` of a host port (R89, 14_host_network.md R388). -/
inductive PrbsUnit where
  | lane (i : Nat)
  | port (q k : Nat)
  deriving DecidableEq, Repr

/-- A lane that loses lock, and whether a frame was being received on it (R54). -/
structure LaneLoss where
  lane : Nat
  inFrame : Bool := false
  deriving DecidableEq, Repr

/-- An error in an engine's SRAM: the engine, and the wrong bits of the word, 1 or more (06_engines_shading.md R153). -/
structure SramErr where
  engine : Nat
  bits : Nat := 2
  deriving DecidableEq, Repr

/-- A BCB reply as it arrives (R67, R70): its bytes from the SOF on, and the longest idle gap between two of them in bit
times. -/
structure BcbAnswer where
  bytes : List Byte
  gap : Nat := 0
  deriving DecidableEq, Repr

/-- The bits that arrive at a PRBS checker (R89). -/
structure PrbsIn where
  unit : PrbsUnit
  bits : List Bool
  deriving DecidableEq, Repr

/-- How an addressed device answers on the BMB (16_management_buses.md R416): it acknowledges every byte and returns
`data`, or it does not acknowledge byte `idx`. -/
inductive BmbAnswer where
  | ok (data : List Byte)
  | nack (idx : Nat)
  deriving DecidableEq, Repr

/-- What one lane measures in a training round (R84): EYE_H and EYE_W. -/
structure Eye where
  lane : Nat
  h : Nat
  w : Nat
  deriving DecidableEq, Repr

/-- What one QDR channel measures of its deskew (13_memory_block_mover.md R335): the channel, its smallest and largest read
and write delays in taps, and whether a delay has reached the end of its range. -/
structure Deskew where
  ch : Nat
  rdMin : Nat
  rdMax : Nat
  wrMin : Nat
  wrMax : Nat
  limit : Bool
  deriving DecidableEq, Repr

/-- The access of the block mover that an error response answers (R353, R354): a read of the source, an access to the
destination, or a write that had been issued last. -/
inductive BmvAccess where
  | source
  | dest
  | tail
  deriving DecidableEq, Repr

/-- A ring refresh (05_illumination.md R132): its chain and the bits of its frame that arrive inverted at the drivers. -/
structure RingStart where
  chain : Nat
  flips : List Nat := []
  deriving DecidableEq, Repr

/-- What a section driver senses since its last status slot (R134, R145): its lowest string headroom in 10 mV units, its open and
its shorted strings as bits FRONT, REAR, NIR, and whether it is over its temperature limit. -/
structure DriverSense where
  headroom : Nat := 255
  opens : Nat := 0
  shorts : Nat := 0
  hot : Bool := false
  deriving DecidableEq, Repr

/-- What comes back on LUM_RET after a refresh (R132, R136): the status slots of the drivers, by what each senses, or any bits, of a
ring that is disturbed or broken. -/
inductive RingReturn where
  | slots (l : List DriverSense)
  | raw (bits : List Bool)
  deriving DecidableEq, Repr

/-- How a commit mark comes back (R136): its width in ns, 0 for none, and how many drivers it reaches where it does not come back. -/
structure MarkReturn where
  ns : Nat
  reach : Nat := 64
  deriving DecidableEq, Repr

/-- What START_UP finds outside the device (18_power_startup.md R465): whether the timebase PLL locks, how each QDR channel's
training ends, as its FAIL_CAUSE, 0 for success (13_memory_block_mover.md R334), and for a chain whose ring is broken the bits that
its counting frame returns (05_illumination.md R137). -/
structure StartIn where
  tbLocked : Bool
  qdr : List Nat
  rings : List (Option Nat) := []
  deriving DecidableEq, Repr

/-- A command of the block. -/
inductive Instr where
  -- sessions and registers (15_command_set.md R406)
  | sessionOpenPhase1 (port : Nat) (src : HostAddr) (pl : List Byte)
  | sessionOpenPhase2 (k : Nat) (port : Nat) (src : HostAddr) (pl : List Byte)
  | sessionClose (p : Path) (pl : List Byte)
  | attest (p : Path) (pl : List Byte)
  | reserveBw (p : Path) (pl : List Byte)
  | regRead (p : Path) (pl : List Byte)
  | regWrite (p : Path) (pl : List Byte)
  | regModify (p : Path) (pl : List Byte)
  | tileBroadcast (p : Path) (pl : List Byte)
  -- jobs and calibration (R408)
  | jobDefine (p : Path) (pl : List Byte)
  | jobArm (p : Path) (pl : List Byte)
  | jobStart (p : Path) (pl : List Byte)
  | jobStop (p : Path) (pl : List Byte)
  | jobAbort (p : Path) (pl : List Byte)
  | calEquinox (p : Path) (pl : List Byte)
  | calAlign (p : Path) (pl : List Byte)
  | calThermal (p : Path) (pl : List Byte)
  | coefLoad (p : Path) (pl : List Byte)
  | coefSave (p : Path) (pl : List Byte)
  -- motion and illumination (R411)
  | moveQueue (p : Path) (pl : List Byte)
  | moveHalt (p : Path) (pl : List Byte)
  | home (p : Path) (pl : List Byte)
  | axisEnable (p : Path) (pl : List Byte)
  | lumSet (p : Path) (pl : List Byte)
  | lumDiag (p : Path) (pl : List Byte)
  -- analytics, maintenance and power (R412)
  | refRasterPut (p : Path) (pl : List Byte)
  | verdictConfig (p : Path) (pl : List Byte)
  | statsRead (p : Path) (pl : List Byte)
  | configStore (p : Path) (pl : List Byte)
  | fwBegin (p : Path) (pl : List Byte)
  | fwChunk (p : Path) (pl : List Byte)
  | fwCommit (p : Path) (pl : List Byte)
  | dumpRead (p : Path) (pl : List Byte)
  | faultLogRead (p : Path) (pl : List Byte)
  | bmvSubmit (p : Path) (pl : List Byte)
  | serviceBegin (p : Path) (pl : List Byte)
  | serviceEnd (p : Path) (pl : List Byte)
  | seasonSet (p : Path) (pl : List Byte)
  -- single register accesses (21_register_map.md)
  | selWrite (p : Path) (sel v : Nat)
  | registerWrite (p : Path) (addr v : Nat)
  | loReadLatch (p : Path) (addr : Nat)
  | readClear (p : Path) (addr : Nat)
  | train (p : Path)
  | loopback (p : Path) (code : Nat)
  | prbs (p : Path) (code : Nat)
  | inject (p : Path)
  | laneEqWrite (p : Path) (v : Nat)
  | arm (p : Path) (v : Nat)
  | disarm (p : Path) (v : Nat)
  | verify (p : Path) (v : Nat)
  | lutDataWrite (p : Path) (v : Nat)
  | go (ch v : Nat)
  | abort (ch : Nat)
  | holdupRequest
  | headroomRequest (chain : Nat)
  | monDataRead (k : Nat)
  | forcedRead (p : Path) (k : Nat)
  | encPosWrite (p : Path) (k v : Nat)
  | axisPosWrite (p : Path) (v : Nat)
  | clkCfgWrite (p : Path) (v : Nat)
  | lumSecDutyWrite (p : Path) (which v : Nat)
  | exCfgWrite (p : Path) (x v : Nat)
  | portLoopback (p : Path) (code : Nat)
  | portPrbs (p : Path) (code : Nat)
  | portInject (p : Path)
  -- the board management port (16_management_buses.md)
  | bmpMboxIn (bytes : List Byte) (stop : Bool)
  | bmpMboxOut (n : Nat)
  | bmpRegAccess (a : BmpReg)
  | bmpReset
  | bmpBrokenByte (what : BmpByte)
  | pktTimeout (t : Nat)
  | bmpSclTimeout (t : Nat)
  -- transport (14_host_network.md)
  | cmdSegment (t port : Nat) (f : Frame) (bytes : List Byte)
  | ack (t port : Nat) (f : Frame) (bytes : List Byte)
  | credit (t port : Nat) (f : Frame) (bytes : List Byte)
  | rtoExpiry (t k : Nat) (isEvt : Bool) (seq : Nat)
  | idleTimeout (t k : Nat)
  | openHoldExpiry (t k : Nat)
  | authBusyExpiry (t role : Nat)
  | failback (t k : Nat)
  | thinEpisodeClear (k : Nat)
  | portDown (t port : Nat)
  | portUp (t port : Nat)
  | arpRequest (port senderMac senderIp targetIp : Nat)
  | neighbourSolicitation (port srcMac srcIp target : Nat)
  | sendSegment (t port : Nat)
  -- the tile link (03_triry_link.md)
  | laneLock (t i : Nat)
  | lossOfLock (t : Nat) (x : LaneLoss)
  | relockTimeout (t i : Nat)
  | frameReceived (t i : Nat) (prev : BitVec 58) (blocks : List LaneBlock)
  | frameSlotEnd (t i : Nat)
  | trainingRound (seg : Nat) (meas : List Eye)
  | bcbAttempt (t seg : Nat)
  | bcbReply (t seg : Nat) (r : BcbAnswer)
  | bcbTimeout (t seg : Nat)
  | discoveryPass (t : Nat)
  -- a tile's own commands (R74)
  | ping (c : TileCmd)
  | identRead (c : TileCmd)
  | modeSet (c : TileCmd)
  | cfgWrite (c : TileCmd)
  | cfgRead (c : TileCmd)
  | txTap (c : TileCmd)
  | txTapAll (c : TileCmd)
  | txTapSet (c : TileCmd)
  | txTapGet (c : TileCmd)
  | lineSet (c : TileCmd)
  | statusRead (c : TileCmd)
  | reset (c : TileCmd)
  | tileWindow (t i : Nat) (w : WindowIn)
  -- position and strobe (04_position_scheduler.md)
  | encoderEdge (t k : Nat) (a b : Bool)
  | indexEdge (t k : Nat) (z : Bool)
  | stillTimeout (t : Nat)
  | lineCommit (t : Nat)
  | lumGate (t : Nat)
  | bstbRise (t : Nat)
  | bstbFall (t : Nat)
  | keepWarmGate (t : Nat)
  | serviceGate (t c : Nat)
  -- illumination (05_illumination.md)
  | refreshStart (t : Nat) (r : RingStart)
  | refreshReturn (t c : Nat) (r : RingReturn)
  | commitMark (t c : Nat) (ret : MarkReturn)
  | driverTimeout (t d : Nat)
  -- lines, analytics and engines (06, 07, 09)
  | lineProduced (t : Nat)
  | verdictUnitLine (t : Nat)
  | evtPulseEnd (t k : Nat)
  | kernelBudget (i : Nat)
  | statsTimeout (t : Nat)
  | engineWatchdog (t i : Nat)
  | sramUe (t : Nat) (x : SramErr)
  | engineRestartDone (t i : Nat)
  | bankVerifyDone (i : Nat)
  -- calibration (08_calibration.md)
  | equinoxCaptureDone (t : Nat)
  | alignCaptureDone (t : Nat)
  | alignTimeout (t : Nat)
  | thermalPoint (t : Nat)
  | thermalTimeout (t : Nat)
  -- motion and pacing (10_motion.md, 11_reseam.md)
  | profileTick (t g : Nat)
  | estop (t : Nat) (low : Bool)
  | homeSwitch (t ax : Nat) (level : Bool)
  | holdDelayExpiry (t ax : Nat)
  | axisEnableDelay (t ax : Nat)
  | servoTick (t : Nat)
  | brakingDone (t : Nat)
  | backingDone (t : Nat)
  | waitRelease (t : Nat)
  -- the bar monitor (12_bar_monitor.md)
  | leadExpiry (t k : Nat)
  | conversionEnd (t k : Nat) (code : Int) (brk clip : Bool)
  | urgentDone (t k : Nat) (code : Int) (brk clip : Bool)
  | excitationShort (t x : Nat)
  | wireBreak (t ain : Nat)
  -- memory and the block mover (13_memory_block_mover.md)
  | deskewTrack (t : Nat) (moves : List Deskew)
  | scrubRead (t : Nat) (flips : List Nat) (flags : Nat)
  | bmvChannelStart (t : Nat)
  | bmvBusError (t c blk again : Nat) (what : BmvAccess)
  | bmvComplete (t c : Nat)
  -- the bar management bus (16_management_buses.md)
  | bmbTransaction (t addr : Nat) (wr : List Byte) (rd : Nat) (ans : BmbAnswer)
  | bmbNackRetry (t : Nat) (ans : BmbAnswer)
  | bmbSclTimeout (t : Nat)
  | busClear (t : Nat) (pulses : Option Nat)
  | arbLost (t byte bit : Nat)
  | alert (t : Nat) (low : Bool)
  | alertResponseRead (t : Nat) (ans : BmbAnswer) (stillLow : Bool)
  | alertIgnoreEnd (t : Nat) (low : Bool)
  -- power, reset and start-up (18_power_startup.md)
  | powerOn
  | pwrGoodLow
  | resetN
  | wakeN
  | bmpWake (a7 : Nat)
  | pwrFail (t : Nat) (low : Bool)
  | testMode (high : Bool)
  | startUp (t : Nat) (st : StartIn)
  -- faults (19_faults_recovery.md)
  | lockstepMismatch (t pair : Nat)
  | pairWatchdog (t pair : Nat)
  | checkpoint (pair : Nat)
  | recoveryTimeout (t : Nat)
  | tbLockLoss (t : Nat)
  | fatalError (t cause : Nat)
  | dumpCopyDone (t : Nat)
  | autoRestart (t : Nat)
  | suppressionWindowClose (t key : Nat)
  | logCopy (t : Nat)
  | logDeferredRetry (t : Nat)
  | prbsLock (u : PrbsIn)
  | prbsLockDrop (u : PrbsIn)
  | lumDiagTimeout (t : Nat)
  deriving DecidableEq, Repr

end Sys2Proof
end

