-- ==== Sys2Proof/Decode.lean ====
section
/-! DEFINITION. Words of the command table. No row of the table gives an encoding in bits: a command reaches the block
as a packet on a path (15_command_set.md R393), as a register access, or as an event on a pin, and none of these is an
instruction word. -/

namespace Sys2Proof

/-- The command that a table word spells: none, since no row of the table gives its command any bits. -/
def decodeTableWord (_nbits _w : Nat) : Option Instr := none

end Sys2Proof
end

