-- ==== Sys2Proof/Config.lean ====
section
/-! DEFINITION. What the manual leaves open, and the cryptographic standards it names without defining:
uninterpreted constants, so that every statement holds whatever they are (assumption log 1, 2, 3). -/

namespace Sys2Proof.Config

/-- A value the manual leaves open. `freeValue k` is the `k`-th such value drawn in a run: SESSION_ID and N_D
(14_host_network.md R371), a reading that still settles (12_bar_monitor.md R319), what three flipped bits read as
(13_memory_block_mover.md R337), and what the log names. Assumption log 2. -/
opaque freeValue : Nat → Nat

/-- SHA-384 (17_security.md R431, R434, R442, R445), a named standard. Assumption log 3. -/
opaque sha384Word : List Byte → BitVec 384

/-- The 48 bytes of a SHA-384, most significant first. -/
def sha384 (m : List Byte) : List Byte := (List.range 48).map (fun i => (sha384Word m).extractLsb' (376 - 8 * i) 8)

/-- HMAC-SHA-256 of a key and a message (14_host_network.md R371, R372, R537). Assumption log 3. -/
opaque hmacWord : List Byte → List Byte → BitVec 256

/-- The 32 bytes of an HMAC-SHA-256, most significant first. -/
def hmacSha256 (key m : List Byte) : List Byte := (List.range 32).map (fun i => (hmacWord key m).extractLsb' (248 - 8 * i) 8)

/-- RSA-3072 RSA-PSS verification: modulus, exponent, message, signature (17_security.md R431). Assumption log 3. -/
opaque rsaVerify : List Byte → Nat → List Byte → List Byte → Bool

/-- SLH-DSA-SHA2-192s verification: public key, message, signature (17_security.md R431). Assumption log 3. -/
opaque slhVerify : List Byte → List Byte → List Byte → Bool

/-- The device's RSA identity signature over a message (17_security.md R441, R442). Assumption log 3. -/
opaque rsaSign : List Byte → List Byte

/-- The device's SLH-DSA identity signature over a message (17_security.md R441, R442). Assumption log 3. -/
opaque slhSign : List Byte → List Byte

/-- RSA_KEY_HASHk and SLH_KEY_HASHk, programmed at manufacture (17_security.md R432). Assumption log 9. -/
opaque vendorRsaHash : Nat → List Byte
opaque vendorSlhHash : Nat → List Byte

/-- The check of the identity area, DEVICE_ID and the two certificates, from the area's bytes (17_security.md R441): its layout
is not in the manual. Assumption log 3. -/
opaque identityOk : List Byte → Bool
opaque deviceId : List Byte → List Byte
opaque certRsa : List Byte → List Byte
opaque certSlh : List Byte → List Byte

/-- AES-256 key unwrap of RFC 3394: the wrapping key and the 40 wrapped bytes give the key, or none when the
integrity check fails (17_security.md R444). Assumption log 3. -/
opaque keyUnwrap : List Byte → List Byte → Option (List Byte)

/-- The role-key store sealed under HUK, and its opening (17_security.md R443, 18_power_startup.md R461). Its layout
belongs to the security core. Assumption log 3. -/
opaque sealKeys : List (Option (List Byte)) → List Byte

/-- Opening of a sealed role-key store (17_security.md R443). Assumption log 3. -/
opaque openKeys : List Byte → List (Option (List Byte))

/-- The initial SERVICE key that Krylis sets at manufacture (17_security.md R443). Assumption log 3. -/
opaque initialServiceKey : List Byte

/-- A word that a customer kernel writes for one line (06_engines_shading.md R158): from its code, its data region, the line's
corrected samples and rendition columns, the line number, the engine and the word's index. The kernel's instruction set is not in
the manual. Assumption log 4. -/
opaque kernelWord : List Byte → List Byte → List (List Nat) → List (List Nat) → Nat → Nat → Nat → Nat

/-- What a customer kernel leaves in its data region, from the same and whether it was stopped at its budget. Assumption log 4. -/
opaque kernelData : List Byte → List Byte → List (List Nat) → List (List Nat) → Nat → Nat → Bool → List Byte

/-- The root word of the operation "minimum with index" (06_engines_shading.md R155), from the minimum and the engines that hold it:
the manual gives its layout and the choice on a tie nowhere. Assumption log 46. -/
opaque minWithIndex : Int → List Nat → Nat

/-- A byte of a line record's or row record's tag, from its number and, row by row, exposure number, INVALID and SAT
(07_alignment_seams.md R188, R190): the manual gives the layout nowhere. Assumption log 168. -/
opaque recordTag : List Nat → Nat → BitVec 8

/-- The gain of a photosite whose white signal S is 0, which PIPE_EQX_MIN.MIN_SIGNAL 0 lets through (08_calibration.md R222), by
its target value. The manual states no result there. Assumption log 73. -/
opaque gainAtZero : Nat → Nat

/-- Whether a programming of the flash reads back as written (08_calibration.md R216, 18_power_startup.md R464), by the number of the
draw. Assumption log 95. -/
opaque progOk : Nat → Bool

/-- The OTP bits that read back as blown after a programming operation (17_security.md R433), by the number of the draw: bit k for the
operation's k-th bit. Assumption log 171. -/
opaque otpBlew : Nat → Nat

/-- The 7-bit addresses of the configured devices of the bar management bus (16_management_buses.md R416, R421). They are
configuration data of the config block whose place there the manual does not give. Assumption log 75. -/
opaque bmbDevice : Nat → Bool

end Sys2Proof.Config
end

