-- ==== Sys2Proof/Machine/Fixed.lean ====
section
/-! DEFINITION. Fixed-point arithmetic: narrowing half to even with clamping (00_scope.md R4, R5), two's complement
readings, and the small list helpers every table of the block uses. -/

namespace Sys2Proof.Machine

/-- Round half to even of `a / b` (00_scope.md R5); `b = 0` gives 0. -/
def rheDiv (a : Int) (b : Nat) : Int :=
  if b = 0 then 0
  else
    let q := a.fdiv b
    let r := (a - q * b).toNat
    if 2 * r < b then q
    else if 2 * r > b then q + 1
    else if q % 2 = 0 then q else q + 1

/-- The value clamped to `lo .. hi` (R5). -/
def clampI (lo hi x : Int) : Int := if x < lo then lo else if hi < x then hi else x

/-- Clamp to the range of an unsigned field of `w` bits. -/
def clampU (w : Nat) (x : Int) : Nat := (clampI 0 (2 ^ w - 1) x).toNat

/-- Clamp to the range of a signed field of `w` bits. -/
def clampS (w : Nat) (x : Int) : Int := clampI (-(2 ^ (w - 1))) (2 ^ (w - 1) - 1) x

/-- Round half to even after a right shift by `k` bits. -/
def rheShift (a : Int) (k : Nat) : Int := rheDiv a (2 ^ k)

/-- The signed value of the low `w` bits of `n` (R4). -/
def toSigned (w n : Nat) : Int :=
  let m := n % 2 ^ w
  if m < 2 ^ (w - 1) then (m : Int) else (m : Int) - 2 ^ w

/-- The low `w` bits of a signed value. -/
def ofSigned (w : Nat) (x : Int) : Nat := (x % (2 ^ w : Int)).toNat

/-- A signed value wrapped to `w` bits. -/
def wrapS (w : Nat) (x : Int) : Int := toSigned w (ofSigned w x)

/-- Bits `[lo + w - 1 : lo]` of `n`. -/
def bitsOf (n lo w : Nat) : Nat := n / 2 ^ lo % 2 ^ w

/-- Bit `k` of `n`. -/
def bitAt (n k : Nat) : Bool := n / 2 ^ k % 2 = 1

/-- 1 for true, 0 for false. -/
def b2n (b : Bool) : Nat := if b then 1 else 0

/-- `n + 1`, saturating at the top of a `w`-bit counter. -/
def satInc (w n : Nat) : Nat := if n + 1 < 2 ^ w then n + 1 else 2 ^ w - 1

/-- `n + k`, saturating at the top of a `w`-bit counter. -/
def satAdd (w n k : Nat) : Nat := if n + k < 2 ^ w then n + k else 2 ^ w - 1

/-- `x` lies in `lo .. hi`. -/
def within (x lo hi : Nat) : Bool := decide (lo ≤ x) && decide (x ≤ hi)

/-- Quotient rounded up; `b = 0` gives 0. -/
def ceilDiv (a b : Nat) : Nat := if b = 0 then 0 else (a + b - 1) / b

/-- The larger and the smaller of two integers. -/
def maxI (a b : Int) : Int := if a < b then b else a
def minI (a b : Int) : Int := if b < a then b else a

/-- One bisection round of the integer square root, from bit `k` down. -/
def isqrtGo (n : Nat) : Nat → Nat → Nat
  | 0, r => r
  | k + 1, r => let c := r + 2 ^ k; isqrtGo n k (if c * c ≤ n then c else r)

/-- ⌊√n⌋ for `n < 2^160`. -/
def isqrt (n : Nat) : Nat := isqrtGo n 80 0

/-- √n rounded half to even (a tie cannot occur for an integer n). -/
def isqrtNear (n : Nat) : Nat := let r := isqrt n; if n ≤ r * r + r then r else r + 1

/-- Entry `i` of a table, with a default beyond its end. -/
def nthD {α : Type} (d : α) (l : List α) (i : Nat) : α := (l[i]?).getD d

/-- The table with entry `i` replaced by `f` of it. -/
def modifyNth {α : Type} (f : α → α) : Nat → List α → List α
  | _, [] => []
  | 0, a :: l => f a :: l
  | i + 1, a :: l => a :: modifyNth f i l

/-- The indices of a table at which `f` holds, in ascending order, from `k`. -/
def indicesWhere {α : Type} (f : α → Bool) : Nat → List α → List Nat
  | _, [] => []
  | k, a :: l => if f a then k :: indicesWhere f (k + 1) l else indicesWhere f (k + 1) l

/-- The table with entry `i` replaced by `f i a`. -/
def mapIdxFrom {α β : Type} (f : Nat → α → β) : Nat → List α → List β
  | _, [] => []
  | k, a :: l => f k a :: mapIdxFrom f (k + 1) l

/-- Keys looked up in an association list. -/
def assocGet {β : Type} (k : Nat) : List (Nat × β) → Option β
  | [] => none
  | (a, b) :: l => if a = k then some b else assocGet k l

/-- The association list with `k` bound to `v`, first in the list. -/
def assocSet {β : Type} (k : Nat) (v : β) (l : List (Nat × β)) : List (Nat × β) :=
  (k, v) :: l.filter (fun x => x.1 ≠ k)

/-- The association list without `k`. -/
def assocDel {β : Type} (k : Nat) (l : List (Nat × β)) : List (Nat × β) := l.filter (fun x => x.1 ≠ k)

/-- Sum of a list of integers. -/
def sumI (l : List Int) : Int := l.foldl (· + ·) 0

/-- Sum of a list of naturals. -/
def sumN (l : List Nat) : Nat := l.foldl (· + ·) 0

/-- The largest entry of a list of naturals, 0 for none. -/
def maxN (l : List Nat) : Nat := l.foldl max 0

/-- The smallest entry of a list of naturals, or `d` for none. -/
def minND (d : Nat) (l : List Nat) : Nat := l.foldl min d

/-- Median of three. -/
def median3 (a b c : Int) : Int := maxI (minI a b) (minI (maxI a b) c)

/-- Insertion of `x` into an ascending list. -/
def insAsc (x : Int) : List Int → List Int
  | [] => [x]
  | a :: l => if x ≤ a then x :: a :: l else a :: insAsc x l

/-- The list in ascending order. -/
def sortAsc (l : List Int) : List Int := l.foldr insAsc []

end Sys2Proof.Machine
end

