-- ==== Sys2Proof/Machine/Bytes.lean ====
section
/-! DEFINITION. Byte strings: big-endian and little-endian numbers (00_scope.md R3), CRC-32C (03_triry_link.md R62) and
the CRC-16 of the bar control bus (R68). -/

namespace Sys2Proof.Machine

/-- The `n` bytes of `v`, most significant first (R3). -/
def be : Nat → Nat → List Byte
  | 0, _ => []
  | n + 1, v => BitVec.ofNat 8 (v / 256 ^ n) :: be n v

/-- The `n` bytes of `v`, least significant first. -/
def le : Nat → Nat → List Byte
  | 0, _ => []
  | n + 1, v => BitVec.ofNat 8 v :: le n (v / 256)

/-- The number whose bytes are `l`, most significant first. -/
def ofBe (l : List Byte) : Nat := l.foldl (fun a b => a * 256 + b.toNat) 0

/-- The number whose bytes are `l`, least significant first. -/
def ofLe : List Byte → Nat
  | [] => 0
  | b :: l => b.toNat + 256 * ofLe l

/-- `n` bytes of `l` from offset `o`, as a big-endian number; bytes beyond the end read as absent. -/
def beAt (l : List Byte) (o n : Nat) : Nat := ofBe ((l.drop o).take n)

/-- Byte `o` of `l`, 0 beyond its end. -/
def byteAt (l : List Byte) (o : Nat) : Nat := (nthD 0 l o).toNat

/-- `n` bytes of `l` from offset `o`. -/
def slice (l : List Byte) (o n : Nat) : List Byte := (l.drop o).take n

/-- `n` zero bytes. -/
def zeros (n : Nat) : List Byte := List.replicate n 0

/-- The first `n` bytes of `l`, padded with zero bytes. -/
def padTo (n : Nat) (l : List Byte) : List Byte := (l ++ zeros n).take n

/-- The ASCII bytes of a label (14_host_network.md R537). -/
def ascii (s : String) : List Byte := s.toList.map (fun c => BitVec.ofNat 8 c.toNat)

/-- One reflected CRC-32C bit step: shift right, polynomial 0x82F6_3B78 (0x1EDC_6F41 reflected). -/
def crc32Bit (c : Nat) : Nat := if c % 2 = 1 then Nat.xor (c / 2) 0x82F63B78 else c / 2

/-- One CRC-32C byte step. -/
def crc32Byte (c : Nat) (b : Byte) : Nat :=
  crc32Bit (crc32Bit (crc32Bit (crc32Bit (crc32Bit (crc32Bit (crc32Bit (crc32Bit (Nat.xor c b.toNat))))))))

/-- CRC-32C: initial value and final XOR 0xFFFF_FFFF, reflected (R62). -/
def crc32c (l : List Byte) : Nat := Nat.xor (l.foldl crc32Byte 0xFFFFFFFF) 0xFFFFFFFF

/-- One CRC-16 bit step, polynomial 0x1021, most significant bit first (R68). -/
def crc16Bit (c : Nat) : Nat := if 0x8000 ≤ c then Nat.xor (c * 2 % 0x10000) 0x1021 else c * 2

/-- One CRC-16 byte step. -/
def crc16Byte (c : Nat) (b : Byte) : Nat :=
  crc16Bit (crc16Bit (crc16Bit (crc16Bit (crc16Bit (crc16Bit (crc16Bit (crc16Bit (Nat.xor c (b.toNat * 256)))))))))

/-- The CRC-16 of the bar control bus: initial value 0xFFFF, no reflection (R68). -/
def crc16 (l : List Byte) : Nat := l.foldl crc16Byte 0xFFFF

/-- The byte string followed by its CRC-32C, most significant byte first. -/
def withCrc32 (l : List Byte) : List Byte := l ++ be 4 (crc32c l)

/-- The string's last four bytes are the CRC-32C of the bytes before them. -/
def crc32Ok (l : List Byte) : Bool :=
  4 ≤ l.length && l.drop (l.length - 4) == be 4 (crc32c (l.take (l.length - 4)))

/-- Every byte of the string is zero. -/
def allZero (l : List Byte) : Bool := l.all (· == 0)

/-- The string cut into pieces of `n` bytes, with `fuel` pieces at most. -/
def chunksOf (n : Nat) : Nat → List Byte → List (List Byte)
  | 0, _ => []
  | _, [] => []
  | fuel + 1, l => l.take n :: chunksOf n fuel (l.drop n)

end Sys2Proof.Machine
end

