-- ==== Sys2Proof/Machine/RegTable.lean ====
section
/-! DEFINITION. The register table of the block, one row for each register of the index (21_register_map.md R530), with
its fields as the subject chapters give them: address, place, access code and Reset value. `F.REG_FIELD` names each
field. -/

namespace Sys2Proof.Machine

/-- The access codes of 00_scope.md R6. -/
inductive Acc where
  | rw
  | ro
  | wo
  | w1c
  | rc
  deriving DecidableEq, Repr

/-- The seven windows of 21_register_map.md R522. -/
inductive Win where
  | tile
  | sect
  | axis
  | mseq
  | qch
  | port
  | session
  deriving DecidableEq, Repr

/-- A register field: address of instance 0, byte stride between the instances of a register array (0 for none), lowest
bit, width, access code and Reset value. -/
structure Fld where
  addr : Nat
  stride : Nat
  lo : Nat
  width : Nat
  acc : Acc
  reset : Nat
  deriving DecidableEq, Repr

/-- A register of the index: its name, address, array stride and count, window, whether it is config-loadable (R529,
R530), and its named fields; every other bit is reserved. -/
structure Reg where
  name : String
  addr : Nat
  stride : Nat
  count : Nat
  win : Option Win
  cfg : Bool
  flds : List Fld
  deriving DecidableEq, Repr

namespace F

/-- SYS_ID.PART (R532). -/
def SYS_ID_PART : Fld := ⟨0x0, 0, 0, 16, .ro, 20768⟩
/-- SYS_ID.VENDOR (R532). -/
def SYS_ID_VENDOR : Fld := ⟨0x0, 0, 16, 16, .ro, 19282⟩
/-- SYS_REV.DIGIT (R532). -/
def SYS_REV_DIGIT : Fld := ⟨0x4, 0, 0, 4, .ro, 1⟩
/-- SYS_REV.LETTER (R532). -/
def SYS_REV_LETTER : Fld := ⟨0x4, 0, 4, 4, .ro, 2⟩
/-- SYS_REV.MAP (R532). -/
def SYS_REV_MAP : Fld := ⟨0x4, 0, 8, 8, .ro, 1⟩
/-- SYS_DEVICE_IDj.ID (R532). -/
def SYS_DEVICE_IDj_ID : Fld := ⟨0x8, 4, 0, 32, .ro, 0⟩
/-- SYS_STATUS.STATE (R532). -/
def SYS_STATUS_STATE : Fld := ⟨0x18, 0, 0, 4, .ro, 0⟩
/-- SYS_STATUS.JOB_DEFINED (R532). -/
def SYS_STATUS_JOB_DEFINED : Fld := ⟨0x18, 0, 4, 1, .ro, 0⟩
/-- SYS_STATUS.MODE (R532). -/
def SYS_STATUS_MODE : Fld := ⟨0x18, 0, 5, 1, .ro, 0⟩
/-- SYS_STATUS.CONFIG_DEFAULTED (R532). -/
def SYS_STATUS_CONFIG_DEFAULTED : Fld := ⟨0x18, 0, 6, 1, .ro, 0⟩
/-- SYS_STATUS.QDR_USABLE (R532). -/
def SYS_STATUS_QDR_USABLE : Fld := ⟨0x18, 0, 7, 1, .ro, 0⟩
/-- SYS_STATUS.UNSAVED (R532). -/
def SYS_STATUS_UNSAVED : Fld := ⟨0x18, 0, 8, 1, .ro, 0⟩
/-- SYS_STATUS.RECOVERING (R532). -/
def SYS_STATUS_RECOVERING : Fld := ⟨0x18, 0, 9, 1, .ro, 0⟩
/-- SYS_STATUS.RECOVERY (R532). -/
def SYS_STATUS_RECOVERY : Fld := ⟨0x18, 0, 10, 1, .ro, 0⟩
/-- SYS_ERR.SEL_RANGE (R532). -/
def SYS_ERR_SEL_RANGE : Fld := ⟨0x1C, 0, 0, 1, .w1c, 0⟩
/-- SYS_ERR.SEL_BCAST_READ (R532). -/
def SYS_ERR_SEL_BCAST_READ : Fld := ⟨0x1C, 0, 1, 1, .w1c, 0⟩
/-- SYS_ERR.SEL_WHICH (R532). -/
def SYS_ERR_SEL_WHICH : Fld := ⟨0x1C, 0, 2, 3, .ro, 0⟩
/-- SYS_OP_STATUS.BUSY (R532). -/
def SYS_OP_STATUS_BUSY : Fld := ⟨0x20, 0, 0, 1, .ro, 0⟩
/-- SYS_OP_STATUS.OP (R532). -/
def SYS_OP_STATUS_OP : Fld := ⟨0x20, 0, 1, 2, .ro, 0⟩
/-- SYS_OP_STATUS.RESULT (R532). -/
def SYS_OP_STATUS_RESULT : Fld := ⟨0x20, 0, 3, 2, .ro, 0⟩
/-- SYS_OP_STATUS.REASON (R532). -/
def SYS_OP_STATUS_REASON : Fld := ⟨0x20, 0, 8, 8, .ro, 0⟩
/-- SYS_OP_STATUS.PROGRESS (R532). -/
def SYS_OP_STATUS_PROGRESS : Fld := ⟨0x20, 0, 16, 16, .ro, 0⟩
/-- SYS_PAD_SLEW.AX_STEP (R510). -/
def SYS_PAD_SLEW_AX_STEP : Fld := ⟨0x40, 0, 0, 2, .rw, 1⟩
/-- SYS_PAD_SLEW.AX_DRV (R510). -/
def SYS_PAD_SLEW_AX_DRV : Fld := ⟨0x40, 0, 2, 2, .rw, 1⟩
/-- SYS_PAD_SLEW.LUM_DAT (R510). -/
def SYS_PAD_SLEW_LUM_DAT : Fld := ⟨0x40, 0, 4, 2, .rw, 1⟩
/-- SYS_PAD_SLEW.LUM_GATE (R510). -/
def SYS_PAD_SLEW_LUM_GATE : Fld := ⟨0x40, 0, 6, 2, .rw, 1⟩
/-- SYS_PAD_SLEW.LUM_VREF (R510). -/
def SYS_PAD_SLEW_LUM_VREF : Fld := ⟨0x40, 0, 8, 2, .rw, 1⟩
/-- SYS_PAD_SLEW.EVT (R510). -/
def SYS_PAD_SLEW_EVT : Fld := ⟨0x40, 0, 10, 2, .rw, 1⟩
/-- SYS_EV_CNTk.COUNT (R534). -/
def SYS_EV_CNTk_COUNT : Fld := ⟨0x100, 4, 0, 16, .ro, 0⟩
/-- SYS_EV_LASTk.NS (R534). -/
def SYS_EV_LASTk_NS : Fld := ⟨0x200, 4, 0, 32, .ro, 0⟩
/-- SYS_SECTION_MAPs.HEADROOM (R535). -/
def SYS_SECTION_MAPs_HEADROOM : Fld := ⟨0x400, 4, 0, 8, .ro, 255⟩
/-- SYS_SECTION_MAPs.OPEN (R535). -/
def SYS_SECTION_MAPs_OPEN : Fld := ⟨0x400, 4, 8, 3, .ro, 0⟩
/-- SYS_SECTION_MAPs.SHORT (R535). -/
def SYS_SECTION_MAPs_SHORT : Fld := ⟨0x400, 4, 11, 3, .ro, 0⟩
/-- SYS_SECTION_MAPs.UNVERIFIED (R535). -/
def SYS_SECTION_MAPs_UNVERIFIED : Fld := ⟨0x400, 4, 14, 3, .ro, 0⟩
/-- SYS_SECTION_MAPs.TEMP_FLAG (R535). -/
def SYS_SECTION_MAPs_TEMP_FLAG : Fld := ⟨0x400, 4, 17, 1, .ro, 0⟩
/-- SYS_SECTION_MAPs.ABSENT (R535). -/
def SYS_SECTION_MAPs_ABSENT : Fld := ⟨0x400, 4, 18, 1, .ro, 1⟩
/-- SYS_SECTION_MAPs.IN_SPAN (R535). -/
def SYS_SECTION_MAPs_IN_SPAN : Fld := ⟨0x400, 4, 19, 1, .ro, 0⟩
/-- SYS_SECTION_MAPs.DERATE_PCT (R535). -/
def SYS_SECTION_MAPs_DERATE_PCT : Fld := ⟨0x400, 4, 20, 7, .ro, 100⟩
/-- SYS_TILE_MAPi.PRESENT (R536). -/
def SYS_TILE_MAPi_PRESENT : Fld := ⟨0x800, 4, 0, 1, .ro, 0⟩
/-- SYS_TILE_MAPi.USABLE (R536). -/
def SYS_TILE_MAPi_USABLE : Fld := ⟨0x800, 4, 1, 1, .ro, 0⟩
/-- SYS_TILE_MAPi.IN_SPAN (R536). -/
def SYS_TILE_MAPi_IN_SPAN : Fld := ⟨0x800, 4, 2, 1, .ro, 0⟩
/-- SYS_TILE_MAPi.BLOCK_LOCK (R536). -/
def SYS_TILE_MAPi_BLOCK_LOCK : Fld := ⟨0x800, 4, 3, 1, .ro, 0⟩
/-- SYS_TILE_MAPi.TRAIN_FAIL (R536). -/
def SYS_TILE_MAPi_TRAIN_FAIL : Fld := ⟨0x800, 4, 4, 1, .ro, 0⟩
/-- SYS_TILE_MAPi.ENG_RUNNING (R536). -/
def SYS_TILE_MAPi_ENG_RUNNING : Fld := ⟨0x800, 4, 5, 1, .ro, 0⟩
/-- SYS_TILE_MAPi.ACTIVE (R536). -/
def SYS_TILE_MAPi_ACTIVE : Fld := ⟨0x800, 4, 6, 1, .ro, 0⟩
/-- SYS_TILE_MAPi.DRIFT_HOLD (R536). -/
def SYS_TILE_MAPi_DRIFT_HOLD : Fld := ⟨0x800, 4, 7, 1, .ro, 0⟩
/-- SYS_TILE_MAPi.INVALID_LAST (R536). -/
def SYS_TILE_MAPi_INVALID_LAST : Fld := ⟨0x800, 4, 8, 1, .ro, 0⟩
/-- SYS_TILE_MAPi.LAMP_FAULT_LAST (R536). -/
def SYS_TILE_MAPi_LAMP_FAULT_LAST : Fld := ⟨0x800, 4, 9, 1, .ro, 0⟩
/-- SYS_TILE_MAPi.JOINT_RANGE_RIGHT (R536). -/
def SYS_TILE_MAPi_JOINT_RANGE_RIGHT : Fld := ⟨0x800, 4, 10, 1, .ro, 0⟩
/-- SYS_TILE_MAPi.UNSAVED (R536). -/
def SYS_TILE_MAPi_UNSAVED : Fld := ⟨0x800, 4, 11, 1, .ro, 0⟩
/-- SYS_TILE_MAPi.RESTARTS (R536). -/
def SYS_TILE_MAPi_RESTARTS : Fld := ⟨0x800, 4, 16, 8, .ro, 0⟩
/-- SYS_TILE_SERIALi.SERIAL (R536). -/
def SYS_TILE_SERIALi_SERIAL : Fld := ⟨0x1000, 4, 0, 32, .ro, 0⟩
/-- SYS_TILE_ERRi.COUNT (R536). -/
def SYS_TILE_ERRi_COUNT : Fld := ⟨0x1800, 4, 0, 32, .rc, 0⟩
/-- PWR_RESET_CAUSE.POR (R469). -/
def PWR_RESET_CAUSE_POR : Fld := ⟨0x10000, 0, 0, 1, .ro, 1⟩
/-- PWR_RESET_CAUSE.PWR_GOOD (R469). -/
def PWR_RESET_CAUSE_PWR_GOOD : Fld := ⟨0x10000, 0, 1, 1, .ro, 0⟩
/-- PWR_RESET_CAUSE.RESET_N (R469). -/
def PWR_RESET_CAUSE_RESET_N : Fld := ⟨0x10000, 0, 2, 1, .ro, 0⟩
/-- PWR_RESET_CAUSE.WAKE_N (R469). -/
def PWR_RESET_CAUSE_WAKE_N : Fld := ⟨0x10000, 0, 3, 1, .ro, 0⟩
/-- PWR_RESET_CAUSE.WAKE_BMP (R469). -/
def PWR_RESET_CAUSE_WAKE_BMP : Fld := ⟨0x10000, 0, 4, 1, .ro, 0⟩
/-- PWR_STATUS.PWR_FAIL (R469). -/
def PWR_STATUS_PWR_FAIL : Fld := ⟨0x10004, 0, 0, 1, .ro, 0⟩
/-- PWR_STATUS.PWR_FAIL_SEEN (R469). -/
def PWR_STATUS_PWR_FAIL_SEEN : Fld := ⟨0x10004, 0, 1, 1, .w1c, 0⟩
/-- PWR_WAKE_CFG.WAKE_N_EN (R469). -/
def PWR_WAKE_CFG_WAKE_N_EN : Fld := ⟨0x10008, 0, 0, 1, .rw, 1⟩
/-- PWR_WAKE_CFG.BMP_EN (R469). -/
def PWR_WAKE_CFG_BMP_EN : Fld := ⟨0x10008, 0, 1, 1, .rw, 1⟩
/-- PWR_HOLDUP_C.UF (R469). -/
def PWR_HOLDUP_C_UF : Fld := ⟨0x1000C, 0, 0, 32, .rw, 0⟩
/-- PWR_HOLDUP_V.VMIN_MV (R469). -/
def PWR_HOLDUP_V_VMIN_MV : Fld := ⟨0x10010, 0, 0, 16, .rw, 0⟩
/-- PWR_HOLDUP_V.DIV (R469). -/
def PWR_HOLDUP_V_DIV : Fld := ⟨0x10010, 0, 16, 16, .rw, 256⟩
/-- PWR_STORE_P.P_MW (R469). -/
def PWR_STORE_P_P_MW : Fld := ⟨0x10014, 0, 0, 16, .rw, 5000⟩
/-- PWR_FLASH_T.T_ER32_MS (R469). -/
def PWR_FLASH_T_T_ER32_MS : Fld := ⟨0x10018, 0, 0, 12, .rw, 400⟩
/-- PWR_FLASH_T.T_PP_US (R469). -/
def PWR_FLASH_T_T_PP_US : Fld := ⟨0x10018, 0, 16, 16, .rw, 1000⟩
/-- PWR_HOLDUP_LAST.V_MV (R469). -/
def PWR_HOLDUP_LAST_V_MV : Fld := ⟨0x1001C, 0, 0, 16, .ro, 0⟩
/-- PWR_HOLDUP_LAST.RESULT (R469). -/
def PWR_HOLDUP_LAST_RESULT : Fld := ⟨0x1001C, 0, 16, 2, .ro, 0⟩
/-- PWR_HOLDUP_E.AVAIL_MJ (R469). -/
def PWR_HOLDUP_E_AVAIL_MJ : Fld := ⟨0x10020, 0, 0, 32, .ro, 0⟩
/-- PWR_HOLDUP_NEED.NEED_MJ (R469). -/
def PWR_HOLDUP_NEED_NEED_MJ : Fld := ⟨0x10024, 0, 0, 32, .ro, 0⟩
/-- PWR_DOMk.SEASONS (R469). -/
def PWR_DOMk_SEASONS : Fld := ⟨0x10100, 4, 0, 32, .ro, 0⟩
/-- TILE_SEL.SEL (R523). -/
def TILE_SEL_SEL : Fld := ⟨0x20000, 0, 0, 16, .rw, 0⟩
/-- TILE_IDENTj.WORD (R48). -/
def TILE_IDENTj_WORD : Fld := ⟨0x20100, 4, 0, 32, .ro, 0⟩
/-- TILE_STATUS.PRESENT (R49). -/
def TILE_STATUS_PRESENT : Fld := ⟨0x20120, 0, 0, 1, .ro, 0⟩
/-- TILE_STATUS.IDENT_OK (R49). -/
def TILE_STATUS_IDENT_OK : Fld := ⟨0x20120, 0, 1, 1, .ro, 0⟩
/-- TILE_STATUS.IDENT_IN_LIMITS (R49). -/
def TILE_STATUS_IDENT_IN_LIMITS : Fld := ⟨0x20120, 0, 2, 1, .ro, 0⟩
/-- TILE_STATUS.CAL_MATCH (R49). -/
def TILE_STATUS_CAL_MATCH : Fld := ⟨0x20120, 0, 3, 1, .ro, 0⟩
/-- TILE_STATUS.USABLE (R49). -/
def TILE_STATUS_USABLE : Fld := ⟨0x20120, 0, 4, 1, .ro, 0⟩
/-- TILE_STATUS.IN_SPAN (R49). -/
def TILE_STATUS_IN_SPAN : Fld := ⟨0x20120, 0, 5, 1, .ro, 0⟩
/-- TILE_STATUS.JOINT_RANGE_RIGHT (R49). -/
def TILE_STATUS_JOINT_RANGE_RIGHT : Fld := ⟨0x20120, 0, 6, 1, .ro, 0⟩
/-- TILE_STATUS.SERIAL_CHANGED (R49). -/
def TILE_STATUS_SERIAL_CHANGED : Fld := ⟨0x20120, 0, 7, 1, .w1c, 0⟩
/-- TILE_LANE_CTRL.TRAIN (R91). -/
def TILE_LANE_CTRL_TRAIN : Fld := ⟨0x20140, 0, 0, 1, .wo, 0⟩
/-- TILE_LANE_CTRL.LOOPBACK (R91). -/
def TILE_LANE_CTRL_LOOPBACK : Fld := ⟨0x20140, 0, 1, 2, .rw, 0⟩
/-- TILE_LANE_CTRL.PRBS (R91). -/
def TILE_LANE_CTRL_PRBS : Fld := ⟨0x20140, 0, 3, 2, .rw, 0⟩
/-- TILE_LANE_CTRL.INJECT (R91). -/
def TILE_LANE_CTRL_INJECT : Fld := ⟨0x20140, 0, 5, 1, .wo, 0⟩
/-- TILE_LANE_STATUS.PHASE_LOCK (R91). -/
def TILE_LANE_STATUS_PHASE_LOCK : Fld := ⟨0x20144, 0, 0, 1, .ro, 0⟩
/-- TILE_LANE_STATUS.BLOCK_LOCK (R91). -/
def TILE_LANE_STATUS_BLOCK_LOCK : Fld := ⟨0x20144, 0, 1, 1, .ro, 0⟩
/-- TILE_LANE_STATUS.TRAINING (R91). -/
def TILE_LANE_STATUS_TRAINING : Fld := ⟨0x20144, 0, 2, 1, .ro, 0⟩
/-- TILE_LANE_STATUS.TRAIN_FAIL (R91). -/
def TILE_LANE_STATUS_TRAIN_FAIL : Fld := ⟨0x20144, 0, 3, 1, .ro, 0⟩
/-- TILE_LANE_STATUS.PRBS_LOCK (R91). -/
def TILE_LANE_STATUS_PRBS_LOCK : Fld := ⟨0x20144, 0, 4, 1, .ro, 0⟩
/-- TILE_LANE_STATUS.ID_MISMATCH (R91). -/
def TILE_LANE_STATUS_ID_MISMATCH : Fld := ⟨0x20144, 0, 5, 1, .w1c, 0⟩
/-- TILE_LANE_STATUS.LOCK_LOST (R91). -/
def TILE_LANE_STATUS_LOCK_LOST : Fld := ⟨0x20144, 0, 6, 1, .w1c, 0⟩
/-- TILE_LANE_EQ.CTLE (R91). -/
def TILE_LANE_EQ_CTLE : Fld := ⟨0x20148, 0, 0, 3, .rw, 0⟩
/-- TILE_LANE_EQ.PRE (R91). -/
def TILE_LANE_EQ_PRE : Fld := ⟨0x20148, 0, 4, 4, .rw, 0⟩
/-- TILE_LANE_EQ.POST (R91). -/
def TILE_LANE_EQ_POST : Fld := ⟨0x20148, 0, 8, 4, .rw, 0⟩
/-- TILE_LANE_EYE.EYE_H (R91). -/
def TILE_LANE_EYE_EYE_H : Fld := ⟨0x2014C, 0, 0, 6, .ro, 0⟩
/-- TILE_LANE_EYE.EYE_W (R91). -/
def TILE_LANE_EYE_EYE_W : Fld := ⟨0x2014C, 0, 8, 6, .ro, 0⟩
/-- TILE_LANE_EYE.METRIC (R91). -/
def TILE_LANE_EYE_METRIC : Fld := ⟨0x2014C, 0, 16, 12, .ro, 0⟩
/-- TILE_PRBS_ERR.COUNT (R91). -/
def TILE_PRBS_ERR_COUNT : Fld := ⟨0x20150, 0, 0, 32, .rc, 0⟩
/-- TILE_FRAME_CRC_ERR.COUNT (R91). -/
def TILE_FRAME_CRC_ERR_COUNT : Fld := ⟨0x20154, 0, 0, 32, .rc, 0⟩
/-- TILE_FRAME_FMT_ERR.COUNT (R91). -/
def TILE_FRAME_FMT_ERR_COUNT : Fld := ⟨0x20158, 0, 0, 32, .rc, 0⟩
/-- TILE_FRAME_MISSING.COUNT (R91). -/
def TILE_FRAME_MISSING_COUNT : Fld := ⟨0x2015C, 0, 0, 32, .rc, 0⟩
/-- TILE_LOCK_LOSS.COUNT (R91). -/
def TILE_LOCK_LOSS_COUNT : Fld := ⟨0x20160, 0, 0, 32, .rc, 0⟩
/-- TILE_BCB_RETRY.COUNT (R91). -/
def TILE_BCB_RETRY_COUNT : Fld := ⟨0x20164, 0, 0, 32, .rc, 0⟩
/-- TILE_ENG_STATUS.RUNNING (R184). -/
def TILE_ENG_STATUS_RUNNING : Fld := ⟨0x20200, 0, 0, 1, .ro, 0⟩
/-- TILE_ENG_STATUS.BANK_A_VALID (R184). -/
def TILE_ENG_STATUS_BANK_A_VALID : Fld := ⟨0x20200, 0, 1, 1, .ro, 0⟩
/-- TILE_ENG_STATUS.BANK_B_VALID (R184). -/
def TILE_ENG_STATUS_BANK_B_VALID : Fld := ⟨0x20200, 0, 2, 1, .ro, 0⟩
/-- TILE_ENG_STATUS.BANK_A_FORM (R184). -/
def TILE_ENG_STATUS_BANK_A_FORM : Fld := ⟨0x20200, 0, 3, 1, .ro, 0⟩
/-- TILE_ENG_STATUS.BANK_B_FORM (R184). -/
def TILE_ENG_STATUS_BANK_B_FORM : Fld := ⟨0x20200, 0, 4, 1, .ro, 0⟩
/-- TILE_ENG_STATUS.ACTIVE (R184). -/
def TILE_ENG_STATUS_ACTIVE : Fld := ⟨0x20200, 0, 5, 1, .ro, 0⟩
/-- TILE_ENG_STATUS.VERIFY_ERR (R184). -/
def TILE_ENG_STATUS_VERIFY_ERR : Fld := ⟨0x20200, 0, 6, 1, .w1c, 0⟩
/-- TILE_ENG_STATUS.OB_HIGH (R184). -/
def TILE_ENG_STATUS_OB_HIGH : Fld := ⟨0x20200, 0, 7, 1, .w1c, 0⟩
/-- TILE_ENG_STATUS.SRAM_UE (R184). -/
def TILE_ENG_STATUS_SRAM_UE : Fld := ⟨0x20200, 0, 8, 1, .w1c, 0⟩
/-- TILE_ENG_STATUS.WDOG (R184). -/
def TILE_ENG_STATUS_WDOG : Fld := ⟨0x20200, 0, 9, 1, .w1c, 0⟩
/-- TILE_ENG_STATUS.DT_LIMITED (R184). -/
def TILE_ENG_STATUS_DT_LIMITED : Fld := ⟨0x20200, 0, 10, 1, .ro, 0⟩
/-- TILE_ENG_STATUS.RESTARTS (R184). -/
def TILE_ENG_STATUS_RESTARTS : Fld := ⟨0x20200, 0, 16, 8, .ro, 0⟩
/-- TILE_ENG_OB_RG.RED (R184). -/
def TILE_ENG_OB_RG_RED : Fld := ⟨0x20204, 0, 0, 16, .ro, 0⟩
/-- TILE_ENG_OB_RG.GRN (R184). -/
def TILE_ENG_OB_RG_GRN : Fld := ⟨0x20204, 0, 16, 16, .ro, 0⟩
/-- TILE_ENG_OB_BN.BLU (R184). -/
def TILE_ENG_OB_BN_BLU : Fld := ⟨0x20208, 0, 0, 16, .ro, 0⟩
/-- TILE_ENG_OB_BN.NIR (R184). -/
def TILE_ENG_OB_BN_NIR : Fld := ⟨0x20208, 0, 16, 16, .ro, 0⟩
/-- TILE_ENG_LAMP.LAMP (R184). -/
def TILE_ENG_LAMP_LAMP : Fld := ⟨0x2020C, 0, 0, 12, .ro, 0⟩
/-- TILE_ENG_LAMP.M (R184). -/
def TILE_ENG_LAMP_M : Fld := ⟨0x2020C, 0, 16, 16, .ro, 16384⟩
/-- TILE_ENG_DT.DT (R184). -/
def TILE_ENG_DT_DT : Fld := ⟨0x20210, 0, 0, 16, .ro, 0⟩
/-- TILE_ENG_DT.T_TILE (R184). -/
def TILE_ENG_DT_T_TILE : Fld := ⟨0x20210, 0, 16, 16, .ro, 0⟩
/-- TILE_ENG_GEN_A.GEN (R184). -/
def TILE_ENG_GEN_A_GEN : Fld := ⟨0x20214, 0, 0, 32, .ro, 0⟩
/-- TILE_ENG_GEN_B.GEN (R184). -/
def TILE_ENG_GEN_B_GEN : Fld := ⟨0x20218, 0, 0, 32, .ro, 0⟩
/-- TILE_ENG_SAT_CNT.COUNT (R184). -/
def TILE_ENG_SAT_CNT_COUNT : Fld := ⟨0x2021C, 0, 0, 32, .rc, 0⟩
/-- TILE_ENG_SRAM_CE_CNT.COUNT (R184). -/
def TILE_ENG_SRAM_CE_CNT_COUNT : Fld := ⟨0x20220, 0, 0, 32, .rc, 0⟩
/-- TILE_ALIGN_Y.Y_OFF (R210). -/
def TILE_ALIGN_Y_Y_OFF : Fld := ⟨0x20240, 0, 0, 16, .ro, 0⟩
/-- TILE_ALIGN_Y.SKEW (R210). -/
def TILE_ALIGN_Y_SKEW : Fld := ⟨0x20240, 0, 16, 16, .ro, 0⟩
/-- TILE_ALIGN_ROW0.D_RED (R210). -/
def TILE_ALIGN_ROW0_D_RED : Fld := ⟨0x20244, 0, 0, 16, .ro, 0⟩
/-- TILE_ALIGN_ROW0.D_GRN (R210). -/
def TILE_ALIGN_ROW0_D_GRN : Fld := ⟨0x20244, 0, 16, 16, .ro, 0⟩
/-- TILE_ALIGN_ROW1.D_BLU (R210). -/
def TILE_ALIGN_ROW1_D_BLU : Fld := ⟨0x20248, 0, 0, 16, .ro, 0⟩
/-- TILE_ALIGN_ROW1.ROW_RECS (R210). -/
def TILE_ALIGN_ROW1_ROW_RECS : Fld := ⟨0x20248, 0, 16, 8, .ro, 0⟩
/-- TILE_ALIGN_ROW1.NEED (R210). -/
def TILE_ALIGN_ROW1_NEED : Fld := ⟨0x20248, 0, 24, 8, .ro, 0⟩
/-- TILE_ALIGN_X.XO (R210). -/
def TILE_ALIGN_X_XO : Fld := ⟨0x2024C, 0, 0, 16, .ro, 0⟩
/-- TILE_ALIGN_X.SCALE (R210). -/
def TILE_ALIGN_X_SCALE : Fld := ⟨0x2024C, 0, 16, 16, .ro, 0⟩
/-- TILE_JOINT.GAP (R210). -/
def TILE_JOINT_GAP : Fld := ⟨0x20250, 0, 0, 16, .ro, 0⟩
/-- TILE_JOINT.YDIFF (R210). -/
def TILE_JOINT_YDIFF : Fld := ⟨0x20250, 0, 16, 16, .ro, 0⟩
/-- TILE_JOINT_CFG.CONF (R210). -/
def TILE_JOINT_CFG_CONF : Fld := ⟨0x20254, 0, 0, 8, .ro, 0⟩
/-- TILE_JOINT_CFG.G (R210). -/
def TILE_JOINT_CFG_G : Fld := ⟨0x20254, 0, 8, 3, .ro, 0⟩
/-- TILE_JOINT_CFG.SEAM (R210). -/
def TILE_JOINT_CFG_SEAM : Fld := ⟨0x20254, 0, 11, 1, .ro, 0⟩
/-- TILE_JOINT_CFG.CROSS (R210). -/
def TILE_JOINT_CFG_CROSS : Fld := ⟨0x20254, 0, 16, 5, .ro, 0⟩
/-- TILE_JOINT_LAST.DIR (R210). -/
def TILE_JOINT_LAST_DIR : Fld := ⟨0x20258, 0, 0, 3, .ro, 3⟩
/-- TILE_JOINT_LAST.FALLBACK (R210). -/
def TILE_JOINT_LAST_FALLBACK : Fld := ⟨0x20258, 0, 3, 1, .ro, 0⟩
/-- TILE_JOINT_LAST.INVALID (R210). -/
def TILE_JOINT_LAST_INVALID : Fld := ⟨0x20258, 0, 4, 1, .ro, 0⟩
/-- TILE_CAL_STATUS.REC_VALID (R238). -/
def TILE_CAL_STATUS_REC_VALID : Fld := ⟨0x20260, 0, 0, 1, .ro, 0⟩
/-- TILE_CAL_STATUS.UNSAVED (R238). -/
def TILE_CAL_STATUS_UNSAVED : Fld := ⟨0x20260, 0, 1, 1, .ro, 0⟩
/-- TILE_CAL_STATUS.GEOM_VALID (R238). -/
def TILE_CAL_STATUS_GEOM_VALID : Fld := ⟨0x20260, 0, 2, 1, .ro, 0⟩
/-- TILE_CAL_STATUS.BASE_VALID (R238). -/
def TILE_CAL_STATUS_BASE_VALID : Fld := ⟨0x20260, 0, 3, 1, .ro, 0⟩
/-- TILE_CAL_STATUS.COMPAT_VALID (R238). -/
def TILE_CAL_STATUS_COMPAT_VALID : Fld := ⟨0x20260, 0, 4, 1, .ro, 0⟩
/-- TILE_CAL_STATUS.NO_SWEEP (R238). -/
def TILE_CAL_STATUS_NO_SWEEP : Fld := ⟨0x20260, 0, 5, 1, .ro, 0⟩
/-- TILE_CAL_STATUS.DRIFT_HOLD (R238). -/
def TILE_CAL_STATUS_DRIFT_HOLD : Fld := ⟨0x20260, 0, 6, 1, .ro, 0⟩
/-- TILE_CAL_STATUS.EQX_FALLBACK (R238). -/
def TILE_CAL_STATUS_EQX_FALLBACK : Fld := ⟨0x20260, 0, 7, 1, .w1c, 0⟩
/-- TILE_CAL_STATUS.ALIGN_CHECK_FAIL (R238). -/
def TILE_CAL_STATUS_ALIGN_CHECK_FAIL : Fld := ⟨0x20260, 0, 8, 1, .w1c, 0⟩
/-- TILE_CAL_STATUS.ALIGN_FAIL (R238). -/
def TILE_CAL_STATUS_ALIGN_FAIL : Fld := ⟨0x20260, 0, 9, 1, .w1c, 0⟩
/-- TILE_CAL_GEN.GEN (R238). -/
def TILE_CAL_GEN_GEN : Fld := ⟨0x20264, 0, 0, 32, .ro, 0⟩
/-- TILE_CAL_TFIT.T_LO (R238). -/
def TILE_CAL_TFIT_T_LO : Fld := ⟨0x20268, 0, 0, 16, .ro, 0⟩
/-- TILE_CAL_TFIT.T_HI (R238). -/
def TILE_CAL_TFIT_T_HI : Fld := ⟨0x20268, 0, 16, 16, .ro, 0⟩
/-- TILE_EQX_RESULT.DUST (R238). -/
def TILE_EQX_RESULT_DUST : Fld := ⟨0x2026C, 0, 0, 11, .ro, 0⟩
/-- TILE_EQX_RESULT.NEW_DEFECT (R238). -/
def TILE_EQX_RESULT_NEW_DEFECT : Fld := ⟨0x2026C, 0, 16, 11, .ro, 0⟩
/-- TILE_ALIGN_DEV.DY (R238). -/
def TILE_ALIGN_DEV_DY : Fld := ⟨0x20270, 0, 0, 16, .ro, 0⟩
/-- TILE_ALIGN_DEV.DX (R238). -/
def TILE_ALIGN_DEV_DX : Fld := ⟨0x20270, 0, 16, 16, .ro, 0⟩
/-- PIPE_SHADE_CFG.FORM (R183). -/
def PIPE_SHADE_CFG_FORM : Fld := ⟨0x30000, 0, 0, 1, .rw, 0⟩
/-- PIPE_SHADE_CFG.OB_AVG (R183). -/
def PIPE_SHADE_CFG_OB_AVG : Fld := ⟨0x30000, 0, 1, 3, .rw, 0⟩
/-- PIPE_SHADE_CFG.DT_EN (R183). -/
def PIPE_SHADE_CFG_DT_EN : Fld := ⟨0x30000, 0, 4, 1, .rw, 1⟩
/-- PIPE_SHADE_CFG.M_EN (R183). -/
def PIPE_SHADE_CFG_M_EN : Fld := ⟨0x30000, 0, 5, 1, .rw, 1⟩
/-- PIPE_SHADE_CFG.M_CH_MASK (R183). -/
def PIPE_SHADE_CFG_M_CH_MASK : Fld := ⟨0x30000, 0, 6, 4, .rw, 15⟩
/-- PIPE_SHADE_WHITE.WHITE (R183). -/
def PIPE_SHADE_WHITE_WHITE : Fld := ⟨0x30004, 0, 0, 16, .rw, 57344⟩
/-- PIPE_OB_LIM.LIMIT (R183). -/
def PIPE_OB_LIM_LIMIT : Fld := ⟨0x30008, 0, 0, 16, .rw, 3200⟩
/-- PIPE_DT_SLEW.STEP (R183). -/
def PIPE_DT_SLEW_STEP : Fld := ⟨0x3000C, 0, 0, 8, .rw, 4⟩
/-- PIPE_BANK_CTRL.SWAP_MODE (R183). -/
def PIPE_BANK_CTRL_SWAP_MODE : Fld := ⟨0x30010, 0, 0, 2, .rw, 0⟩
/-- PIPE_BANK_CTRL.SWAP_EV (R183). -/
def PIPE_BANK_CTRL_SWAP_EV : Fld := ⟨0x30010, 0, 2, 6, .rw, 0⟩
/-- PIPE_BANK_CTRL.ARM (R183). -/
def PIPE_BANK_CTRL_ARM : Fld := ⟨0x30010, 0, 8, 1, .wo, 0⟩
/-- PIPE_BANK_CTRL.VERIFY (R183). -/
def PIPE_BANK_CTRL_VERIFY : Fld := ⟨0x30010, 0, 9, 1, .wo, 0⟩
/-- PIPE_BANK_CTRL.VERIFY_BANK (R183). -/
def PIPE_BANK_CTRL_VERIFY_BANK : Fld := ⟨0x30010, 0, 10, 1, .rw, 0⟩
/-- PIPE_BANK_CTRL.DISARM (R183). -/
def PIPE_BANK_CTRL_DISARM : Fld := ⟨0x30010, 0, 11, 1, .wo, 0⟩
/-- PIPE_SWAP_LINE.LINE (R183). -/
def PIPE_SWAP_LINE_LINE : Fld := ⟨0x30014, 0, 0, 32, .rw, 0⟩
/-- PIPE_BANK_STATUS.ACTIVE (R183). -/
def PIPE_BANK_STATUS_ACTIVE : Fld := ⟨0x30018, 0, 0, 1, .ro, 0⟩
/-- PIPE_BANK_STATUS.ARMED (R183). -/
def PIPE_BANK_STATUS_ARMED : Fld := ⟨0x30018, 0, 1, 1, .ro, 0⟩
/-- PIPE_BANK_STATUS.PENDING (R183). -/
def PIPE_BANK_STATUS_PENDING : Fld := ⟨0x30018, 0, 2, 1, .ro, 0⟩
/-- PIPE_BANK_STATUS.SWAP_DONE (R183). -/
def PIPE_BANK_STATUS_SWAP_DONE : Fld := ⟨0x30018, 0, 3, 1, .w1c, 0⟩
/-- PIPE_BANK_STATUS.SWAP_REFUSED (R183). -/
def PIPE_BANK_STATUS_SWAP_REFUSED : Fld := ⟨0x30018, 0, 4, 1, .w1c, 0⟩
/-- PIPE_BANK_STATUS.VERIFY_BUSY (R183). -/
def PIPE_BANK_STATUS_VERIFY_BUSY : Fld := ⟨0x30018, 0, 5, 1, .ro, 0⟩
/-- PIPE_BANK_STATUS.MERGED (R183). -/
def PIPE_BANK_STATUS_MERGED : Fld := ⟨0x30018, 0, 6, 1, .w1c, 0⟩
/-- PIPE_SWAP_AT.LINE (R183). -/
def PIPE_SWAP_AT_LINE : Fld := ⟨0x3001C, 0, 0, 32, .ro, 0⟩
/-- PIPE_KERNEL_CFG.WORDS (R183). -/
def PIPE_KERNEL_CFG_WORDS : Fld := ⟨0x30020, 0, 0, 2, .rw, 0⟩
/-- PIPE_KERNEL_CFG.EN (R183). -/
def PIPE_KERNEL_CFG_EN : Fld := ⟨0x30020, 0, 2, 1, .rw, 0⟩
/-- PIPE_KERNEL_CFG.BUDGET (R183). -/
def PIPE_KERNEL_CFG_BUDGET : Fld := ⟨0x30020, 0, 16, 16, .rw, 0⟩
/-- PIPE_KERNEL_OVERRUN_CNT.COUNT (R183). -/
def PIPE_KERNEL_OVERRUN_CNT_COUNT : Fld := ⟨0x30024, 0, 0, 32, .rc, 0⟩
/-- PIPE_SAT_CNT.COUNT (R183). -/
def PIPE_SAT_CNT_COUNT : Fld := ⟨0x30028, 0, 0, 32, .rc, 0⟩
/-- PIPE_UNDER_CNT.COUNT (R183). -/
def PIPE_UNDER_CNT_COUNT : Fld := ⟨0x3002C, 0, 0, 32, .rc, 0⟩
/-- PIPE_GAIN_CLAMP_CNT.COUNT (R183). -/
def PIPE_GAIN_CLAMP_CNT_COUNT : Fld := ⟨0x30030, 0, 0, 32, .rc, 0⟩
/-- PIPE_COEF_CLAMP_CNT.COUNT (R183). -/
def PIPE_COEF_CLAMP_CNT_COUNT : Fld := ⟨0x30034, 0, 0, 32, .rc, 0⟩
/-- PIPE_ALIGN_CFG.GRID (R210). -/
def PIPE_ALIGN_CFG_GRID : Fld := ⟨0x30040, 0, 0, 2, .rw, 0⟩
/-- PIPE_ALIGN_CFG.SEAM_DIR (R210). -/
def PIPE_ALIGN_CFG_SEAM_DIR : Fld := ⟨0x30040, 0, 2, 1, .rw, 1⟩
/-- PIPE_ALIGN_CFG.SKEW_EN (R210). -/
def PIPE_ALIGN_CFG_SKEW_EN : Fld := ⟨0x30040, 0, 3, 1, .rw, 1⟩
/-- PIPE_ALIGN_CFG.CONF_MIN (R210). -/
def PIPE_ALIGN_CFG_CONF_MIN : Fld := ⟨0x30040, 0, 8, 8, .rw, 64⟩
/-- PIPE_SEAM_MARGIN.MARGIN (R210). -/
def PIPE_SEAM_MARGIN_MARGIN : Fld := ⟨0x30044, 0, 0, 20, .rw, 2048⟩
/-- PIPE_ALIGN_STATUS.LAT (R210). -/
def PIPE_ALIGN_STATUS_LAT : Fld := ⟨0x30048, 0, 0, 5, .ro, 0⟩
/-- PIPE_ALIGN_STATUS.PRIME (R210). -/
def PIPE_ALIGN_STATUS_PRIME : Fld := ⟨0x30048, 0, 8, 5, .ro, 0⟩
/-- PIPE_ALIGN_STATUS.FAIL_TILE (R210). -/
def PIPE_ALIGN_STATUS_FAIL_TILE : Fld := ⟨0x30048, 0, 16, 9, .ro, 0⟩
/-- PIPE_ALIGN_STATUS.LINE_REC_OVER (R210). -/
def PIPE_ALIGN_STATUS_LINE_REC_OVER : Fld := ⟨0x30048, 0, 25, 1, .ro, 0⟩
/-- PIPE_ALIGN_STATUS.ROW_REC_OVER (R210). -/
def PIPE_ALIGN_STATUS_ROW_REC_OVER : Fld := ⟨0x30048, 0, 26, 1, .ro, 0⟩
/-- PIPE_ALIGN_STATUS.COL_OVER (R210). -/
def PIPE_ALIGN_STATUS_COL_OVER : Fld := ⟨0x30048, 0, 27, 1, .ro, 0⟩
/-- PIPE_ALIGN_STATUS.GEOM_RANGE (R210). -/
def PIPE_ALIGN_STATUS_GEOM_RANGE : Fld := ⟨0x30048, 0, 28, 1, .ro, 0⟩
/-- PIPE_SEAM_FALLBACK_CNT.COUNT (R210). -/
def PIPE_SEAM_FALLBACK_CNT_COUNT : Fld := ⟨0x3004C, 0, 0, 32, .rc, 0⟩
/-- PIPE_RESAMPLE_CLAMP_CNT.COUNT (R210). -/
def PIPE_RESAMPLE_CLAMP_CNT_COUNT : Fld := ⟨0x30050, 0, 0, 32, .rc, 0⟩
/-- PIPE_EQX_CFG.DUST_PPT (R237). -/
def PIPE_EQX_CFG_DUST_PPT : Fld := ⟨0x30060, 0, 0, 8, .rw, 30⟩
/-- PIPE_EQX_CFG.DUST_RUN (R237). -/
def PIPE_EQX_CFG_DUST_RUN : Fld := ⟨0x30060, 0, 8, 6, .rw, 8⟩
/-- PIPE_EQX_CFG.MAX_NEW_DEFECT (R237). -/
def PIPE_EQX_CFG_MAX_NEW_DEFECT : Fld := ⟨0x30060, 0, 16, 8, .rw, 16⟩
/-- PIPE_EQX_CFG.SETTLE (R237). -/
def PIPE_EQX_CFG_SETTLE : Fld := ⟨0x30060, 0, 24, 4, .rw, 4⟩
/-- PIPE_EQX_MIN.MIN_SIGNAL (R237). -/
def PIPE_EQX_MIN_MIN_SIGNAL : Fld := ⟨0x30064, 0, 0, 16, .rw, 6400⟩
/-- PIPE_EQX_STRIP_RG.REFL_RED (R237). -/
def PIPE_EQX_STRIP_RG_REFL_RED : Fld := ⟨0x30068, 0, 0, 16, .rw, 16384⟩
/-- PIPE_EQX_STRIP_RG.REFL_GRN (R237). -/
def PIPE_EQX_STRIP_RG_REFL_GRN : Fld := ⟨0x30068, 0, 16, 16, .rw, 16384⟩
/-- PIPE_EQX_STRIP_BN.REFL_BLU (R237). -/
def PIPE_EQX_STRIP_BN_REFL_BLU : Fld := ⟨0x3006C, 0, 0, 16, .rw, 16384⟩
/-- PIPE_EQX_STRIP_BN.REFL_NIR (R237). -/
def PIPE_EQX_STRIP_BN_REFL_NIR : Fld := ⟨0x3006C, 0, 16, 16, .rw, 16384⟩
/-- PIPE_EQX_AXIS.AXIS (R237). -/
def PIPE_EQX_AXIS_AXIS : Fld := ⟨0x30070, 0, 0, 3, .rw, 0⟩
/-- PIPE_EQX_AXIS.EN (R237). -/
def PIPE_EQX_AXIS_EN : Fld := ⟨0x30070, 0, 3, 1, .rw, 0⟩
/-- PIPE_EQX_POS.POS (R237). -/
def PIPE_EQX_POS_POS : Fld := ⟨0x30074, 0, 0, 32, .rw, 0⟩
/-- PIPE_EQX_PARK.POS (R237). -/
def PIPE_EQX_PARK_POS : Fld := ⟨0x30078, 0, 0, 32, .rw, 0⟩
/-- PIPE_EQX_WIGGLE.STEPS (R237). -/
def PIPE_EQX_WIGGLE_STEPS : Fld := ⟨0x3007C, 0, 0, 16, .rw, 0⟩
/-- PIPE_EQX_STATUS.BUSY (R237). -/
def PIPE_EQX_STATUS_BUSY : Fld := ⟨0x30080, 0, 0, 1, .ro, 0⟩
/-- PIPE_EQX_STATUS.RESULT (R237). -/
def PIPE_EQX_STATUS_RESULT : Fld := ⟨0x30080, 0, 1, 2, .ro, 0⟩
/-- PIPE_EQX_STATUS.REASON (R237). -/
def PIPE_EQX_STATUS_REASON : Fld := ⟨0x30080, 0, 4, 4, .ro, 0⟩
/-- PIPE_EQX_STATUS.FALLBACK (R237). -/
def PIPE_EQX_STATUS_FALLBACK : Fld := ⟨0x30080, 0, 8, 10, .ro, 0⟩
/-- PIPE_EQX_DUST_CNT.COUNT (R237). -/
def PIPE_EQX_DUST_CNT_COUNT : Fld := ⟨0x30084, 0, 0, 32, .ro, 0⟩
/-- PIPE_EQX_TCAL.MIN (R237). -/
def PIPE_EQX_TCAL_MIN : Fld := ⟨0x30088, 0, 0, 16, .ro, 0⟩
/-- PIPE_EQX_TCAL.MAX (R237). -/
def PIPE_EQX_TCAL_MAX : Fld := ⟨0x30088, 0, 16, 16, .ro, 0⟩
/-- PIPE_ALIGN_TOL.Y_TOL (R237). -/
def PIPE_ALIGN_TOL_Y_TOL : Fld := ⟨0x3008C, 0, 0, 8, .rw, 8⟩
/-- PIPE_ALIGN_TOL.X_TOL (R237). -/
def PIPE_ALIGN_TOL_X_TOL : Fld := ⟨0x3008C, 0, 8, 8, .rw, 8⟩
/-- PIPE_DRIFT_STATUS.TILES (R237). -/
def PIPE_DRIFT_STATUS_TILES : Fld := ⟨0x30090, 0, 0, 10, .ro, 0⟩
/-- PIPE_CMXk.LO (R267). -/
def PIPE_CMXk_LO : Fld := ⟨0x300A0, 4, 0, 16, .rw, 0⟩
/-- PIPE_CMXk.HI (R267). -/
def PIPE_CMXk_HI : Fld := ⟨0x300A0, 4, 16, 16, .rw, 0⟩
/-- PIPE_COFF_RG.RED (R267). -/
def PIPE_COFF_RG_RED : Fld := ⟨0x300C0, 0, 0, 16, .rw, 0⟩
/-- PIPE_COFF_RG.GRN (R267). -/
def PIPE_COFF_RG_GRN : Fld := ⟨0x300C0, 0, 16, 16, .rw, 0⟩
/-- PIPE_COFF_BN.BLU (R267). -/
def PIPE_COFF_BN_BLU : Fld := ⟨0x300C4, 0, 0, 16, .rw, 0⟩
/-- PIPE_COFF_BN.NIR (R267). -/
def PIPE_COFF_BN_NIR : Fld := ⟨0x300C4, 0, 16, 16, .rw, 0⟩
/-- PIPE_LUT_CFG.EN (R267). -/
def PIPE_LUT_CFG_EN : Fld := ⟨0x300C8, 0, 0, 4, .rw, 0⟩
/-- PIPE_LUT_ADDR.INDEX (R267). -/
def PIPE_LUT_ADDR_INDEX : Fld := ⟨0x300CC, 0, 0, 12, .rw, 0⟩
/-- PIPE_LUT_ADDR.CH (R267). -/
def PIPE_LUT_ADDR_CH : Fld := ⟨0x300CC, 0, 12, 2, .rw, 0⟩
/-- PIPE_LUT_DATA.ENTRIES (R267). -/
def PIPE_LUT_DATA_ENTRIES : Fld := ⟨0x300D0, 0, 0, 32, .wo, 0⟩
/-- PIPE_CMX_CLAMP_CNT.COUNT (R267). -/
def PIPE_CMX_CLAMP_CNT_COUNT : Fld := ⟨0x300D4, 0, 0, 32, .rc, 0⟩
/-- PIPE_RENDm_CFG.EN (R267). -/
def PIPE_RENDm_CFG_EN : Fld := ⟨0x300E0, 16, 0, 1, .rw, 0⟩
/-- PIPE_RENDm_CFG.RES (R267). -/
def PIPE_RENDm_CFG_RES : Fld := ⟨0x300E0, 16, 1, 2, .rw, 0⟩
/-- PIPE_RENDm_CFG.CHAN (R267). -/
def PIPE_RENDm_CFG_CHAN : Fld := ⟨0x300E0, 16, 3, 3, .rw, 0⟩
/-- PIPE_RENDm_CFG.DEPTH (R267). -/
def PIPE_RENDm_CFG_DEPTH : Fld := ⟨0x300E0, 16, 6, 1, .rw, 0⟩
/-- PIPE_RENDm_CFG.SRC (R267). -/
def PIPE_RENDm_CFG_SRC : Fld := ⟨0x300E0, 16, 7, 1, .rw, 1⟩
/-- PIPE_RENDm_X0.COL (R267). -/
def PIPE_RENDm_X0_COL : Fld := ⟨0x300E4, 16, 0, 18, .rw, 0⟩
/-- PIPE_RENDm_W.PIXELS (R267). -/
def PIPE_RENDm_W_PIXELS : Fld := ⟨0x300E8, 16, 0, 18, .rw, 0⟩
/-- SCHED_CTRL.MASTER (R128). -/
def SCHED_CTRL_MASTER : Fld := ⟨0x40000, 0, 0, 3, .rw, 0⟩
/-- SCHED_CTRL.PHASE_REL (R128). -/
def SCHED_CTRL_PHASE_REL : Fld := ⟨0x40000, 0, 3, 1, .rw, 0⟩
/-- SCHED_CTRL.TIME_MODE (R128). -/
def SCHED_CTRL_TIME_MODE : Fld := ⟨0x40000, 0, 4, 1, .rw, 0⟩
/-- SCHED_STATUS.TRACKING (R128). -/
def SCHED_STATUS_TRACKING : Fld := ⟨0x40004, 0, 0, 1, .ro, 0⟩
/-- SCHED_STATUS.LOW_RATE (R128). -/
def SCHED_STATUS_LOW_RATE : Fld := ⟨0x40004, 0, 1, 1, .ro, 0⟩
/-- SCHED_STATUS.REVERSE (R128). -/
def SCHED_STATUS_REVERSE : Fld := ⟨0x40004, 0, 2, 1, .ro, 0⟩
/-- SCHED_STATUS.STILL (R128). -/
def SCHED_STATUS_STILL : Fld := ⟨0x40004, 0, 3, 1, .ro, 0⟩
/-- SCHED_STATUS.OVERSPEED_SEEN (R128). -/
def SCHED_STATUS_OVERSPEED_SEEN : Fld := ⟨0x40004, 0, 4, 1, .w1c, 0⟩
/-- SCHED_STATUS.SETTLE_SHORT (R128). -/
def SCHED_STATUS_SETTLE_SHORT : Fld := ⟨0x40004, 0, 5, 1, .w1c, 0⟩
/-- SCHED_STATUS.MASTER_QUAD_ERR (R128). -/
def SCHED_STATUS_MASTER_QUAD_ERR : Fld := ⟨0x40004, 0, 6, 1, .w1c, 0⟩
/-- SCHED_STATUS.CLAMPED (R128). -/
def SCHED_STATUS_CLAMPED : Fld := ⟨0x40004, 0, 7, 1, .w1c, 0⟩
/-- SCHED_STATUS.TB_LOCK (R128). -/
def SCHED_STATUS_TB_LOCK : Fld := ⟨0x40004, 0, 8, 1, .ro, 0⟩
/-- LINE_PITCH_LO.FRAC (R128). -/
def LINE_PITCH_LO_FRAC : Fld := ⟨0x40008, 0, 0, 32, .rw, 0⟩
/-- LINE_PITCH_HI.INT (R128). -/
def LINE_PITCH_HI_INT : Fld := ⟨0x4000C, 0, 0, 32, .rw, 0⟩
/-- LINE_PHASE_LO.PHASE (R128). -/
def LINE_PHASE_LO_PHASE : Fld := ⟨0x40010, 0, 0, 32, .rw, 0⟩
/-- LINE_PHASE_HI.PHASE (R128). -/
def LINE_PHASE_HI_PHASE : Fld := ⟨0x40014, 0, 0, 32, .rw, 0⟩
/-- EXPO_NS.NS (R128). -/
def EXPO_NS_NS : Fld := ⟨0x40018, 0, 0, 24, .rw, 1000⟩
/-- SCHED_LUM.LEAD_NS (R128). -/
def SCHED_LUM_LEAD_NS : Fld := ⟨0x4001C, 0, 0, 16, .rw, 2000⟩
/-- SCHED_LUM.GATE_W (R128). -/
def SCHED_LUM_GATE_W : Fld := ⟨0x4001C, 0, 16, 10, .rw, 500⟩
/-- LUM_KW_NS.NS (R128). -/
def LUM_KW_NS_NS : Fld := ⟨0x40020, 0, 0, 24, .rw, 100000⟩
/-- SCHED_PLL.FN_HZ (R128). -/
def SCHED_PLL_FN_HZ : Fld := ⟨0x40024, 0, 0, 11, .rw, 400⟩
/-- SCHED_REV.SETTLE_PC (R128). -/
def SCHED_REV_SETTLE_PC : Fld := ⟨0x40028, 0, 0, 16, .rw, 256⟩
/-- SCHED_REV.REV_PC (R128). -/
def SCHED_REV_REV_PC : Fld := ⟨0x40028, 0, 16, 8, .rw, 4⟩
/-- SCHED_TMIN.NS (R128). -/
def SCHED_TMIN_NS : Fld := ⟨0x4002C, 0, 0, 24, .ro, 33333⟩
/-- TIME_PERIOD_NS.NS (R128). -/
def TIME_PERIOD_NS_NS : Fld := ⟨0x40030, 0, 0, 24, .rw, 33333⟩
/-- SCHED_LINE.LINE (R128). -/
def SCHED_LINE_LINE : Fld := ⟨0x40034, 0, 0, 32, .ro, 0⟩
/-- SCHED_EPOCH.EPOCH (R128). -/
def SCHED_EPOCH_EPOCH : Fld := ⟨0x40038, 0, 0, 16, .ro, 0⟩
/-- SCHED_NEXT_RISE.NS (R128). -/
def SCHED_NEXT_RISE_NS : Fld := ⟨0x4003C, 0, 0, 32, .ro, 0⟩
/-- SCHED_POS_LO.POS (R128). -/
def SCHED_POS_LO_POS : Fld := ⟨0x40040, 0, 0, 32, .ro, 0⟩
/-- SCHED_POS_HI.POS (R128). -/
def SCHED_POS_HI_POS : Fld := ⟨0x40044, 0, 0, 32, .ro, 0⟩
/-- SCHED_VEL.VEL (R128). -/
def SCHED_VEL_VEL : Fld := ⟨0x40048, 0, 0, 32, .ro, 0⟩
/-- SCHED_OVERSPEED_CNT.COUNT (R128). -/
def SCHED_OVERSPEED_CNT_COUNT : Fld := ⟨0x4004C, 0, 0, 32, .rc, 0⟩
/-- SCHED_PLACE_CLAMP_CNT.COUNT (R128). -/
def SCHED_PLACE_CLAMP_CNT_COUNT : Fld := ⟨0x40050, 0, 0, 32, .rc, 0⟩
/-- TB_NOW_LO.NS (R128). -/
def TB_NOW_LO_NS : Fld := ⟨0x40060, 0, 0, 32, .ro, 0⟩
/-- TB_NOW_HI.NS (R128). -/
def TB_NOW_HI_NS : Fld := ⟨0x40064, 0, 0, 32, .ro, 0⟩
/-- CLK_CFG.CORE_SSC (R128). -/
def CLK_CFG_CORE_SSC : Fld := ⟨0x40070, 0, 0, 1, .rw, 0⟩
/-- CLK_CFG.BREF_SSC (R128). -/
def CLK_CFG_BREF_SSC : Fld := ⟨0x40070, 0, 1, 1, .rw, 0⟩
/-- CLK_CFG.CTRL_SSC (R128). -/
def CLK_CFG_CTRL_SSC : Fld := ⟨0x40070, 0, 2, 1, .rw, 0⟩
/-- ENC_CFG.FILT (R101). -/
def ENC_CFG_FILT : Fld := ⟨0x40100, 32, 0, 6, .rw, 3⟩
/-- ENC_CFG.INVERT_DIR (R101). -/
def ENC_CFG_INVERT_DIR : Fld := ⟨0x40100, 32, 6, 1, .rw, 0⟩
/-- ENC_CFG.Z_EN (R101). -/
def ENC_CFG_Z_EN : Fld := ⟨0x40100, 32, 7, 1, .rw, 0⟩
/-- ENC_CFG.Z_POL (R101). -/
def ENC_CFG_Z_POL : Fld := ⟨0x40100, 32, 8, 1, .rw, 0⟩
/-- ENC_CFG.ENABLE (R101). -/
def ENC_CFG_ENABLE : Fld := ⟨0x40100, 32, 9, 1, .rw, 0⟩
/-- ENC_STATUS.LEVEL (R101). -/
def ENC_STATUS_LEVEL : Fld := ⟨0x40104, 32, 0, 3, .ro, 0⟩
/-- ENC_STATUS.INDEX_SEEN (R101). -/
def ENC_STATUS_INDEX_SEEN : Fld := ⟨0x40104, 32, 3, 1, .w1c, 0⟩
/-- ENC_STATUS.QUAD_ERR (R101). -/
def ENC_STATUS_QUAD_ERR : Fld := ⟨0x40104, 32, 4, 1, .w1c, 0⟩
/-- ENC_STATUS.DIR (R101). -/
def ENC_STATUS_DIR : Fld := ⟨0x40104, 32, 5, 1, .ro, 0⟩
/-- ENC_POS_LO.POS (R101). -/
def ENC_POS_LO_POS : Fld := ⟨0x40108, 32, 0, 32, .rw, 0⟩
/-- ENC_POS_HI.POS (R101). -/
def ENC_POS_HI_POS : Fld := ⟨0x4010C, 32, 0, 16, .rw, 0⟩
/-- ENC_TS_LO.TS (R101). -/
def ENC_TS_LO_TS : Fld := ⟨0x40110, 32, 0, 32, .ro, 0⟩
/-- ENC_INDEX_POS_LO.POS (R101). -/
def ENC_INDEX_POS_LO_POS : Fld := ⟨0x40114, 32, 0, 32, .ro, 0⟩
/-- ENC_INDEX_POS_HI.POS (R101). -/
def ENC_INDEX_POS_HI_POS : Fld := ⟨0x40118, 32, 0, 16, .ro, 0⟩
/-- ENC_QUAD_ERR_CNT.COUNT (R101). -/
def ENC_QUAD_ERR_CNT_COUNT : Fld := ⟨0x4011C, 32, 0, 32, .rc, 0⟩
/-- SECTION_SEL.SEL (R523). -/
def SECTION_SEL_SEL : Fld := ⟨0x50000, 0, 0, 16, .rw, 0⟩
/-- LUM_CFG.PWM_BITS (R149). -/
def LUM_CFG_PWM_BITS : Fld := ⟨0x50004, 0, 0, 5, .rw, 16⟩
/-- LUM_CFG.DIAG_EN (R149). -/
def LUM_CFG_DIAG_EN : Fld := ⟨0x50004, 0, 5, 1, .rw, 1⟩
/-- LUM_DERATE.KNEE_C (R149). -/
def LUM_DERATE_KNEE_C : Fld := ⟨0x50008, 0, 0, 8, .rw, 55⟩
/-- LUM_DERATE.FLOOR_C (R149). -/
def LUM_DERATE_FLOOR_C : Fld := ⟨0x50008, 0, 8, 8, .rw, 75⟩
/-- LUM_DERATE.FLOOR_PCT (R149). -/
def LUM_DERATE_FLOOR_PCT : Fld := ⟨0x50008, 0, 16, 7, .rw, 60⟩
/-- LUM_DERATE.SLOPE (R149). -/
def LUM_DERATE_SLOPE : Fld := ⟨0x50008, 0, 24, 4, .rw, 10⟩
/-- LUM_HEADROOM.TARGET_MV (R149). -/
def LUM_HEADROOM_TARGET_MV : Fld := ⟨0x5000C, 0, 0, 12, .rw, 600⟩
/-- LUM_LAMP_FAULT.FRAC (R149). -/
def LUM_LAMP_FAULT_FRAC : Fld := ⟨0x50010, 0, 0, 8, .rw, 128⟩
/-- LUM_CHAIN_CFG.COUNT (R149). -/
def LUM_CHAIN_CFG_COUNT : Fld := ⟨0x50040, 32, 0, 7, .rw, 64⟩
/-- LUM_CHAIN_CFG.VREF_STEP (R149). -/
def LUM_CHAIN_CFG_VREF_STEP : Fld := ⟨0x50040, 32, 8, 8, .rw, 8⟩
/-- LUM_CHAIN_STATUS.FOUND (R149). -/
def LUM_CHAIN_STATUS_FOUND : Fld := ⟨0x50044, 32, 0, 7, .ro, 0⟩
/-- LUM_CHAIN_STATUS.COUNT_MISMATCH (R149). -/
def LUM_CHAIN_STATUS_COUNT_MISMATCH : Fld := ⟨0x50044, 32, 7, 1, .ro, 0⟩
/-- LUM_CHAIN_STATUS.RING_ERR (R149). -/
def LUM_CHAIN_STATUS_RING_ERR : Fld := ⟨0x50044, 32, 8, 1, .w1c, 0⟩
/-- LUM_CHAIN_STATUS.REFRESHING (R149). -/
def LUM_CHAIN_STATUS_REFRESHING : Fld := ⟨0x50044, 32, 9, 1, .ro, 0⟩
/-- LUM_CHAIN_STATUS.MARK_ERR (R149). -/
def LUM_CHAIN_STATUS_MARK_ERR : Fld := ⟨0x50044, 32, 10, 1, .w1c, 0⟩
/-- LUM_VREF.CODE (R149). -/
def LUM_VREF_CODE : Fld := ⟨0x50048, 32, 0, 12, .ro, 0⟩
/-- LUM_VREF_LIM.MIN (R149). -/
def LUM_VREF_LIM_MIN : Fld := ⟨0x5004C, 32, 0, 12, .rw, 0⟩
/-- LUM_VREF_LIM.MAX (R149). -/
def LUM_VREF_LIM_MAX : Fld := ⟨0x5004C, 32, 16, 12, .rw, 4095⟩
/-- LUM_LATCH_LINE.LINE (R149). -/
def LUM_LATCH_LINE_LINE : Fld := ⟨0x50050, 32, 0, 32, .ro, 0⟩
/-- LUM_REFRESH_SEQ.SEQ (R149). -/
def LUM_REFRESH_SEQ_SEQ : Fld := ⟨0x50054, 32, 0, 16, .ro, 0⟩
/-- LUM_RING_ERR_CNT.COUNT (R149). -/
def LUM_RING_ERR_CNT_COUNT : Fld := ⟨0x50058, 32, 0, 32, .rc, 0⟩
/-- LUM_SEC_DUTY0.FRONT (R149). -/
def LUM_SEC_DUTY0_FRONT : Fld := ⟨0x50100, 0, 0, 16, .rw, 0⟩
/-- LUM_SEC_DUTY0.REAR (R149). -/
def LUM_SEC_DUTY0_REAR : Fld := ⟨0x50100, 0, 16, 16, .rw, 0⟩
/-- LUM_SEC_DUTY1.NIR (R149). -/
def LUM_SEC_DUTY1_NIR : Fld := ⟨0x50104, 0, 0, 16, .rw, 0⟩
/-- LUM_SEC_STATUS.SLOT (R149). -/
def LUM_SEC_STATUS_SLOT : Fld := ⟨0x50108, 0, 0, 24, .ro, 255⟩
/-- LUM_SEC_STATUS.ABSENT (R149). -/
def LUM_SEC_STATUS_ABSENT : Fld := ⟨0x50108, 0, 24, 1, .ro, 1⟩
/-- LUM_SEC_DERATE.FACTOR (R149). -/
def LUM_SEC_DERATE_FACTOR : Fld := ⟨0x5010C, 0, 0, 16, .ro, 16384⟩
/-- AXIS_SEL.SEL (R523). -/
def AXIS_SEL_SEL : Fld := ⟨0x60000, 0, 0, 16, .rw, 0⟩
/-- MOT_STATUS.ESTOP (R294). -/
def MOT_STATUS_ESTOP : Fld := ⟨0x60004, 0, 0, 1, .ro, 0⟩
/-- MOT_STATUS.ESTOP_LATCH (R294). -/
def MOT_STATUS_ESTOP_LATCH : Fld := ⟨0x60004, 0, 1, 1, .w1c, 0⟩
/-- MOT_CFG.ESTOP_DRV_DIS (R294). -/
def MOT_CFG_ESTOP_DRV_DIS : Fld := ⟨0x60008, 0, 0, 1, .rw, 1⟩
/-- MOT_GRP_STATUS.QFILL (R294). -/
def MOT_GRP_STATUS_QFILL : Fld := ⟨0x60040, 16, 0, 7, .ro, 0⟩
/-- MOT_GRP_STATUS.MOVING (R294). -/
def MOT_GRP_STATUS_MOVING : Fld := ⟨0x60040, 16, 7, 1, .ro, 0⟩
/-- MOT_GRP_STATUS.HALTING (R294). -/
def MOT_GRP_STATUS_HALTING : Fld := ⟨0x60040, 16, 8, 1, .ro, 0⟩
/-- MOT_GRP_STATUS.PACED (R294). -/
def MOT_GRP_STATUS_PACED : Fld := ⟨0x60040, 16, 9, 1, .ro, 0⟩
/-- MOT_GRP_STATUS.DONE_TAG (R294). -/
def MOT_GRP_STATUS_DONE_TAG : Fld := ⟨0x60040, 16, 16, 16, .ro, 0⟩
/-- MOT_GRP_CFG.DONE_EV (R294). -/
def MOT_GRP_CFG_DONE_EV : Fld := ⟨0x60044, 16, 0, 6, .rw, 0⟩
/-- MOT_GRP_CFG.DONE_EV_EN (R294). -/
def MOT_GRP_CFG_DONE_EV_EN : Fld := ⟨0x60044, 16, 6, 1, .rw, 0⟩
/-- MOT_GRP_VSTART.RATE (R294). -/
def MOT_GRP_VSTART_RATE : Fld := ⟨0x60048, 16, 0, 32, .rw, 256000⟩
/-- MOT_GRP_CORNER.TOL (R294). -/
def MOT_GRP_CORNER_TOL : Fld := ⟨0x6004C, 16, 0, 23, .rw, 0⟩
/-- SCAN_CFG.GROUP (R313). -/
def SCAN_CFG_GROUP : Fld := ⟨0x60080, 0, 0, 2, .rw, 0⟩
/-- SCAN_CFG.STALL_RETRY (R313). -/
def SCAN_CFG_STALL_RETRY : Fld := ⟨0x60080, 0, 2, 2, .rw, 1⟩
/-- SCAN_VMIN.PCS (R313). -/
def SCAN_VMIN_PCS : Fld := ⟨0x60084, 0, 0, 32, .rw, 100000⟩
/-- SCAN_VMAX.PCS (R313). -/
def SCAN_VMAX_PCS : Fld := ⟨0x60088, 0, 0, 32, .rw, 1000000⟩
/-- SCAN_MARK0.PACE_LO (R313). -/
def SCAN_MARK0_PACE_LO : Fld := ⟨0x6008C, 0, 0, 10, .rw, 256⟩
/-- SCAN_MARK0.PACE_HI (R313). -/
def SCAN_MARK0_PACE_HI : Fld := ⟨0x6008C, 0, 16, 10, .rw, 768⟩
/-- SCAN_MARK1.RESUME (R313). -/
def SCAN_MARK1_RESUME : Fld := ⟨0x60090, 0, 0, 10, .rw, 384⟩
/-- SCAN_MARK1.HOLD (R313). -/
def SCAN_MARK1_HOLD : Fld := ⟨0x60090, 0, 16, 10, .rw, 896⟩
/-- SCAN_BACKLASH.PC (R313). -/
def SCAN_BACKLASH_PC : Fld := ⟨0x60094, 0, 0, 16, .rw, 0⟩
/-- SCAN_ACC.A (R313). -/
def SCAN_ACC_A : Fld := ⟨0x60098, 0, 0, 16, .rw, 100⟩
/-- SCAN_ACC.J (R313). -/
def SCAN_ACC_J : Fld := ⟨0x60098, 0, 16, 16, .rw, 0⟩
/-- SCAN_CAP.LINES (R313). -/
def SCAN_CAP_LINES : Fld := ⟨0x6009C, 0, 0, 20, .ro, 0⟩
/-- SCAN_FILL.F (R313). -/
def SCAN_FILL_F : Fld := ⟨0x600A0, 0, 0, 20, .ro, 0⟩
/-- SCAN_STATUS.PHASE (R313). -/
def SCAN_STATUS_PHASE : Fld := ⟨0x600A4, 0, 0, 3, .ro, 0⟩
/-- SCAN_STATUS.COLD (R313). -/
def SCAN_STATUS_COLD : Fld := ⟨0x600A4, 0, 3, 1, .ro, 0⟩
/-- SCAN_STATUS.CAUSE (R313). -/
def SCAN_STATUS_CAUSE : Fld := ⟨0x600A4, 0, 4, 8, .ro, 0⟩
/-- SCAN_LS.LINE (R313). -/
def SCAN_LS_LINE : Fld := ⟨0x600A8, 0, 0, 32, .ro, 0⟩
/-- SCAN_NR.LINE (R313). -/
def SCAN_NR_LINE : Fld := ⟨0x600AC, 0, 0, 32, .ro, 0⟩
/-- SCAN_VCMD.PCS (R313). -/
def SCAN_VCMD_PCS : Fld := ⟨0x600B0, 0, 0, 32, .ro, 0⟩
/-- SCAN_BACKOFF.PC (R313). -/
def SCAN_BACKOFF_PC : Fld := ⟨0x600B4, 0, 0, 32, .ro, 0⟩
/-- SCAN_JOIN.ERR (R313). -/
def SCAN_JOIN_ERR : Fld := ⟨0x600B8, 0, 0, 16, .ro, 0⟩
/-- SCAN_HOLD_CNT.COUNT (R313). -/
def SCAN_HOLD_CNT_COUNT : Fld := ⟨0x600BC, 0, 0, 32, .rc, 0⟩
/-- MOT_GRP_HOME_A.A (R294). -/
def MOT_GRP_HOME_A_A : Fld := ⟨0x600C0, 8, 0, 32, .rw, 100000⟩
/-- MOT_GRP_DONE.COUNT (R294). -/
def MOT_GRP_DONE_COUNT : Fld := ⟨0x600C4, 8, 0, 16, .ro, 0⟩
/-- MOT_AXIS_CFG.GROUP (R294). -/
def MOT_AXIS_CFG_GROUP : Fld := ⟨0x60100, 0, 0, 3, .rw, 4⟩
/-- MOT_AXIS_CFG.MEDIA (R294). -/
def MOT_AXIS_CFG_MEDIA : Fld := ⟨0x60100, 0, 3, 1, .rw, 0⟩
/-- MOT_AXIS_CFG.DIR_INV (R294). -/
def MOT_AXIS_CFG_DIR_INV : Fld := ⟨0x60100, 0, 4, 1, .rw, 0⟩
/-- MOT_AXIS_CFG.EN_POL (R294). -/
def MOT_AXIS_CFG_EN_POL : Fld := ⟨0x60100, 0, 5, 1, .rw, 0⟩
/-- MOT_AXIS_CFG.STEP_INV (R294). -/
def MOT_AXIS_CFG_STEP_INV : Fld := ⟨0x60100, 0, 6, 1, .rw, 0⟩
/-- MOT_AXIS_CFG.ENC_EN (R294). -/
def MOT_AXIS_CFG_ENC_EN : Fld := ⟨0x60100, 0, 7, 1, .rw, 0⟩
/-- MOT_AXIS_CFG.ENC (R294). -/
def MOT_AXIS_CFG_ENC : Fld := ⟨0x60100, 0, 8, 3, .rw, 0⟩
/-- MOT_AXIS_TIMING.PW (R294). -/
def MOT_AXIS_TIMING_PW : Fld := ⟨0x60104, 0, 0, 11, .rw, 20⟩
/-- MOT_AXIS_TIMING.DIR_SETUP (R294). -/
def MOT_AXIS_TIMING_DIR_SETUP : Fld := ⟨0x60104, 0, 16, 11, .rw, 200⟩
/-- MOT_AXIS_IREF.RUN (R294). -/
def MOT_AXIS_IREF_RUN : Fld := ⟨0x60108, 0, 0, 12, .rw, 0⟩
/-- MOT_AXIS_IREF.HOLD (R294). -/
def MOT_AXIS_IREF_HOLD : Fld := ⟨0x60108, 0, 16, 12, .rw, 0⟩
/-- MOT_AXIS_BOOST.BOOST (R294). -/
def MOT_AXIS_BOOST_BOOST : Fld := ⟨0x6010C, 0, 0, 12, .rw, 0⟩
/-- MOT_AXIS_BOOST.HOLD_DELAY (R294). -/
def MOT_AXIS_BOOST_HOLD_DELAY : Fld := ⟨0x6010C, 0, 16, 12, .rw, 100⟩
/-- MOT_AXIS_RATIO.RATIO (R294). -/
def MOT_AXIS_RATIO_RATIO : Fld := ⟨0x60110, 0, 0, 32, .rw, 65536⟩
/-- MOT_AXIS_WINDOW.BOOST_TH (R294). -/
def MOT_AXIS_WINDOW_BOOST_TH : Fld := ⟨0x60114, 0, 0, 16, .rw, 8⟩
/-- MOT_AXIS_WINDOW.WINDOW (R294). -/
def MOT_AXIS_WINDOW_WINDOW : Fld := ⟨0x60114, 0, 16, 16, .rw, 64⟩
/-- MOT_AXIS_POS_LO.POS (R294). -/
def MOT_AXIS_POS_LO_POS : Fld := ⟨0x60118, 0, 0, 32, .rw, 0⟩
/-- MOT_AXIS_POS_HI.POS (R294). -/
def MOT_AXIS_POS_HI_POS : Fld := ⟨0x6011C, 0, 0, 16, .rw, 0⟩
/-- MOT_AXIS_MSTEP.INDEX (R294). -/
def MOT_AXIS_MSTEP_INDEX : Fld := ⟨0x60120, 0, 0, 10, .ro, 0⟩
/-- MOT_AXIS_MSTEP.CYCLE (R294). -/
def MOT_AXIS_MSTEP_CYCLE : Fld := ⟨0x60120, 0, 16, 11, .rw, 1024⟩
/-- MOT_AXIS_FERR.E (R294). -/
def MOT_AXIS_FERR_E : Fld := ⟨0x60124, 0, 0, 32, .ro, 0⟩
/-- MOT_AXIS_STATUS.ENABLED (R294). -/
def MOT_AXIS_STATUS_ENABLED : Fld := ⟨0x60128, 0, 0, 1, .ro, 0⟩
/-- MOT_AXIS_STATUS.MOVING (R294). -/
def MOT_AXIS_STATUS_MOVING : Fld := ⟨0x60128, 0, 1, 1, .ro, 0⟩
/-- MOT_AXIS_STATUS.HOMING (R294). -/
def MOT_AXIS_STATUS_HOMING : Fld := ⟨0x60128, 0, 2, 1, .ro, 0⟩
/-- MOT_AXIS_STATUS.HOMED (R294). -/
def MOT_AXIS_STATUS_HOMED : Fld := ⟨0x60128, 0, 3, 1, .ro, 0⟩
/-- MOT_AXIS_STATUS.STALL (R294). -/
def MOT_AXIS_STATUS_STALL : Fld := ⟨0x60128, 0, 4, 1, .ro, 0⟩
/-- MOT_AXIS_STATUS.POSITION_LOST (R294). -/
def MOT_AXIS_STATUS_POSITION_LOST : Fld := ⟨0x60128, 0, 5, 1, .ro, 0⟩
/-- MOT_AXIS_STATUS.MICROSTEP_UNKNOWN (R294). -/
def MOT_AXIS_STATUS_MICROSTEP_UNKNOWN : Fld := ⟨0x60128, 0, 6, 1, .ro, 0⟩
/-- MOT_AXIS_STATUS.POS_MISMATCH (R294). -/
def MOT_AXIS_STATUS_POS_MISMATCH : Fld := ⟨0x60128, 0, 7, 1, .w1c, 0⟩
/-- MOT_AXIS_STATUS.HOME_FAIL (R294). -/
def MOT_AXIS_STATUS_HOME_FAIL : Fld := ⟨0x60128, 0, 8, 1, .w1c, 0⟩
/-- MOT_AXIS_STATUS.BOOSTING (R294). -/
def MOT_AXIS_STATUS_BOOSTING : Fld := ⟨0x60128, 0, 9, 1, .ro, 0⟩
/-- MOT_AXIS_STATUS.IREF (R294). -/
def MOT_AXIS_STATUS_IREF : Fld := ⟨0x60128, 0, 16, 12, .ro, 0⟩
/-- MOT_AXIS_HOME.INPUT (R294). -/
def MOT_AXIS_HOME_INPUT : Fld := ⟨0x6012C, 0, 0, 3, .rw, 0⟩
/-- MOT_AXIS_HOME.POL (R294). -/
def MOT_AXIS_HOME_POL : Fld := ⟨0x6012C, 0, 3, 1, .rw, 0⟩
/-- MOT_AXIS_HOME.DIR (R294). -/
def MOT_AXIS_HOME_DIR : Fld := ⟨0x6012C, 0, 4, 1, .rw, 0⟩
/-- MOT_AXIS_HOME_V.FAST (R294). -/
def MOT_AXIS_HOME_V_FAST : Fld := ⟨0x60130, 0, 0, 16, .rw, 5000⟩
/-- MOT_AXIS_HOME_V.SLOW (R294). -/
def MOT_AXIS_HOME_V_SLOW : Fld := ⟨0x60130, 0, 16, 16, .rw, 500⟩
/-- MOT_AXIS_HOME_MAX.STEPS (R294). -/
def MOT_AXIS_HOME_MAX_STEPS : Fld := ⟨0x60134, 0, 0, 32, .rw, 16777216⟩
/-- MOT_AXIS_HOME_POS.POS (R294). -/
def MOT_AXIS_HOME_POS_POS : Fld := ⟨0x60138, 0, 0, 32, .rw, 0⟩
/-- MOT_AXIS_STEPS.COUNT (R294). -/
def MOT_AXIS_STEPS_COUNT : Fld := ⟨0x6013C, 0, 0, 32, .ro, 0⟩
/-- MSEQ_SEL.SEL (R523). -/
def MSEQ_SEL_SEL : Fld := ⟨0x70000, 0, 0, 16, .rw, 0⟩
/-- MON_CFG.BRK_LO (R331). -/
def MON_CFG_BRK_LO : Fld := ⟨0x70004, 0, 0, 8, .rw, 4⟩
/-- MON_CFG.BRK_HI (R331). -/
def MON_CFG_BRK_HI : Fld := ⟨0x70004, 0, 8, 8, .rw, 252⟩
/-- MON_CFG.BRK_CLR (R331). -/
def MON_CFG_BRK_CLR : Fld := ⟨0x70004, 0, 16, 4, .rw, 4⟩
/-- MON_BRK_LIVE.AIN (R331). -/
def MON_BRK_LIVE_AIN : Fld := ⟨0x70008, 0, 0, 32, .ro, 0⟩
/-- MON_BRK_LATCH.AIN (R331). -/
def MON_BRK_LATCH_AIN : Fld := ⟨0x7000C, 0, 0, 32, .w1c, 0⟩
/-- MON_URG_CTRL.HOLDUP (R331). -/
def MON_URG_CTRL_HOLDUP : Fld := ⟨0x70010, 0, 0, 1, .wo, 0⟩
/-- MON_URG_CTRL.HEADROOM (R331). -/
def MON_URG_CTRL_HEADROOM : Fld := ⟨0x70010, 0, 1, 1, .wo, 0⟩
/-- MON_URG_CTRL.CHAIN (R331). -/
def MON_URG_CTRL_CHAIN : Fld := ⟨0x70010, 0, 2, 2, .wo, 0⟩
/-- MON_CHAIN_SUP.INP (R331). -/
def MON_CHAIN_SUP_INP : Fld := ⟨0x70014, 0, 0, 30, .rw, 0⟩
/-- MON_EX_STATUS.ON (R331). -/
def MON_EX_STATUS_ON : Fld := ⟨0x70018, 0, 0, 8, .ro, 0⟩
/-- MON_EX_STATUS.REVERSED (R331). -/
def MON_EX_STATUS_REVERSED : Fld := ⟨0x70018, 0, 8, 8, .ro, 0⟩
/-- MON_EX_STATUS.SHORT (R331). -/
def MON_EX_STATUS_SHORT : Fld := ⟨0x70018, 0, 16, 8, .w1c, 0⟩
/-- MON_URG_HOLDUP_CFG.INP (R331). -/
def MON_URG_HOLDUP_CFG_INP : Fld := ⟨0x7001C, 0, 0, 6, .rw, 44⟩
/-- MON_URG_HOLDUP_CFG.INN (R331). -/
def MON_URG_HOLDUP_CFG_INN : Fld := ⟨0x7001C, 0, 8, 6, .rw, 45⟩
/-- MON_URG_HOLDUP_CFG.GAIN (R331). -/
def MON_URG_HOLDUP_CFG_GAIN : Fld := ⟨0x7001C, 0, 16, 3, .rw, 0⟩
/-- MON_URG_HOLDUP_CFG.OSR (R331). -/
def MON_URG_HOLDUP_CFG_OSR : Fld := ⟨0x7001C, 0, 20, 3, .rw, 1⟩
/-- MON_URG_HOLDUP_CFG.CONV (R331). -/
def MON_URG_HOLDUP_CFG_CONV : Fld := ⟨0x7001C, 0, 24, 2, .rw, 0⟩
/-- MON_EX_CFGx.HOLD_ON (R331). -/
def MON_EX_CFGx_HOLD_ON : Fld := ⟨0x70020, 4, 0, 1, .rw, 0⟩
/-- MON_CONV_CFG.LEN (R331). -/
def MON_CONV_CFG_LEN : Fld := ⟨0x70040, 32, 0, 4, .rw, 0⟩
/-- MON_CONV_CFG.RUN (R331). -/
def MON_CONV_CFG_RUN : Fld := ⟨0x70040, 32, 4, 1, .rw, 0⟩
/-- MON_CONV_STATUS.ENTRY (R331). -/
def MON_CONV_STATUS_ENTRY : Fld := ⟨0x70044, 32, 0, 4, .ro, 0⟩
/-- MON_CONV_STATUS.URGENT (R331). -/
def MON_CONV_STATUS_URGENT : Fld := ⟨0x70044, 32, 4, 1, .ro, 0⟩
/-- MON_CONV_STATUS.SETTLING (R331). -/
def MON_CONV_STATUS_SETTLING : Fld := ⟨0x70044, 32, 5, 1, .ro, 0⟩
/-- MON_CONV_STATUS.WAIT_EX (R331). -/
def MON_CONV_STATUS_WAIT_EX : Fld := ⟨0x70044, 32, 6, 1, .ro, 0⟩
/-- MON_CONV_STATUS.OVERRUN (R331). -/
def MON_CONV_STATUS_OVERRUN : Fld := ⟨0x70044, 32, 7, 1, .w1c, 0⟩
/-- MON_DATA.RESULT (R331). -/
def MON_DATA_RESULT : Fld := ⟨0x70048, 32, 0, 24, .ro, 0⟩
/-- MON_DATA.ENTRY (R331). -/
def MON_DATA_ENTRY : Fld := ⟨0x70048, 32, 24, 4, .ro, 0⟩
/-- MON_DATA.BREAK (R331). -/
def MON_DATA_BREAK : Fld := ⟨0x70048, 32, 28, 1, .ro, 0⟩
/-- MON_DATA.NEW (R331). -/
def MON_DATA_NEW : Fld := ⟨0x70048, 32, 29, 1, .ro, 0⟩
/-- MON_DATA.CLIP (R331). -/
def MON_DATA_CLIP : Fld := ⟨0x70048, 32, 30, 1, .ro, 0⟩
/-- MON_FORCE.OUTPUT (R331). -/
def MON_FORCE_OUTPUT : Fld := ⟨0x7004C, 32, 0, 24, .ro, 0⟩
/-- MON_FORCE.SETTLING (R331). -/
def MON_FORCE_SETTLING : Fld := ⟨0x7004C, 32, 28, 1, .ro, 0⟩
/-- MON_FORCE.URGENT (R331). -/
def MON_FORCE_URGENT : Fld := ⟨0x7004C, 32, 29, 1, .ro, 0⟩
/-- MON_URG_DATA.RESULT (R331). -/
def MON_URG_DATA_RESULT : Fld := ⟨0x70050, 32, 0, 24, .ro, 0⟩
/-- MON_URG_DATA.KIND (R331). -/
def MON_URG_DATA_KIND : Fld := ⟨0x70050, 32, 24, 1, .ro, 0⟩
/-- MON_URG_DATA.BREAK (R331). -/
def MON_URG_DATA_BREAK : Fld := ⟨0x70050, 32, 28, 1, .ro, 0⟩
/-- MON_URG_DATA.NEW (R331). -/
def MON_URG_DATA_NEW : Fld := ⟨0x70050, 32, 29, 1, .ro, 0⟩
/-- MON_URG_DATA.CLIP (R331). -/
def MON_URG_DATA_CLIP : Fld := ⟨0x70050, 32, 30, 1, .ro, 0⟩
/-- MON_OVERRUN_CNT.COUNT (R331). -/
def MON_OVERRUN_CNT_COUNT : Fld := ⟨0x70054, 32, 0, 32, .rc, 0⟩
/-- MON_URG_HEAD_CFG.GAIN (R331). -/
def MON_URG_HEAD_CFG_GAIN : Fld := ⟨0x700C0, 0, 16, 3, .rw, 0⟩
/-- MON_URG_HEAD_CFG.OSR (R331). -/
def MON_URG_HEAD_CFG_OSR : Fld := ⟨0x700C0, 0, 20, 3, .rw, 1⟩
/-- MON_URG_HEAD_CFG.CONV (R331). -/
def MON_URG_HEAD_CFG_CONV : Fld := ⟨0x700C0, 0, 24, 2, .rw, 0⟩
/-- MON_URG_HEAD_CFG.SUP_MIN (R331). -/
def MON_URG_HEAD_CFG_SUP_MIN : Fld := ⟨0x700C0, 0, 0, 16, .rw, 0⟩
/-- MON_SEQ_IN.INP (R331). -/
def MON_SEQ_IN_INP : Fld := ⟨0x70100, 0, 0, 6, .rw, 45⟩
/-- MON_SEQ_IN.INN (R331). -/
def MON_SEQ_IN_INN : Fld := ⟨0x70100, 0, 8, 6, .rw, 45⟩
/-- MON_SEQ_IN.GAIN (R331). -/
def MON_SEQ_IN_GAIN : Fld := ⟨0x70100, 0, 16, 3, .rw, 0⟩
/-- MON_SEQ_IN.OSR (R331). -/
def MON_SEQ_IN_OSR : Fld := ⟨0x70100, 0, 20, 3, .rw, 5⟩
/-- MON_SEQ_EX.REF_EX (R331). -/
def MON_SEQ_EX_REF_EX : Fld := ⟨0x70104, 0, 0, 1, .rw, 0⟩
/-- MON_SEQ_EX.EX (R331). -/
def MON_SEQ_EX_EX : Fld := ⟨0x70104, 0, 1, 3, .rw, 0⟩
/-- MON_SEQ_EX.EX_USE (R331). -/
def MON_SEQ_EX_EX_USE : Fld := ⟨0x70104, 0, 4, 1, .rw, 0⟩
/-- MON_SEQ_EX.CHOP (R331). -/
def MON_SEQ_EX_CHOP : Fld := ⟨0x70104, 0, 5, 1, .rw, 0⟩
/-- MON_SEQ_EX.LEAD (R331). -/
def MON_SEQ_EX_LEAD : Fld := ⟨0x70104, 0, 8, 8, .rw, 50⟩
/-- MON_RTD_CFG.CONV (R331). -/
def MON_RTD_CFG_CONV : Fld := ⟨0x70200, 16, 0, 2, .rw, 0⟩
/-- MON_RTD_CFG.ENTRY_LEAD (R331). -/
def MON_RTD_CFG_ENTRY_LEAD : Fld := ⟨0x70200, 16, 4, 4, .rw, 0⟩
/-- MON_RTD_CFG.ENTRY_MAIN (R331). -/
def MON_RTD_CFG_ENTRY_MAIN : Fld := ⟨0x70200, 16, 8, 4, .rw, 1⟩
/-- MON_RTD_CFG.TYPE (R331). -/
def MON_RTD_CFG_TYPE : Fld := ⟨0x70200, 16, 16, 1, .rw, 1⟩
/-- MON_RTD_CFG.EN (R331). -/
def MON_RTD_CFG_EN : Fld := ⟨0x70200, 16, 17, 1, .rw, 0⟩
/-- MON_RTD_POS.POS (R331). -/
def MON_RTD_POS_POS : Fld := ⟨0x70204, 16, 0, 16, .rw, 0⟩
/-- MON_RTD_RREF.MOHM (R331). -/
def MON_RTD_RREF_MOHM : Fld := ⟨0x70208, 16, 0, 24, .rw, 4020000⟩
/-- MON_RTD_T.T (R331). -/
def MON_RTD_T_T : Fld := ⟨0x7020C, 16, 0, 16, .ro, 0⟩
/-- MON_RTD_T.STALE (R331). -/
def MON_RTD_T_STALE : Fld := ⟨0x7020C, 16, 16, 1, .ro, 0⟩
/-- MON_RTD_T.NONE (R331). -/
def MON_RTD_T_NONE : Fld := ⟨0x7020C, 16, 17, 1, .ro, 1⟩
/-- QCH_SEL.SEL (R523). -/
def QCH_SEL_SEL : Fld := ⟨0x80000, 0, 0, 16, .rw, 0⟩
/-- QDR_CFG.DEVICES (R357). -/
def QDR_CFG_DEVICES : Fld := ⟨0x80004, 0, 0, 1, .ro, 0⟩
/-- QDR_CFG.DENSITY (R357). -/
def QDR_CFG_DENSITY : Fld := ⟨0x80004, 0, 1, 1, .ro, 0⟩
/-- QDR_CFG.RATE (R357). -/
def QDR_CFG_RATE : Fld := ⟨0x80004, 0, 2, 3, .ro, 0⟩
/-- QDR_STATUS.USABLE (R357). -/
def QDR_STATUS_USABLE : Fld := ⟨0x80008, 0, 0, 1, .ro, 0⟩
/-- QDR_STATUS.SCRUBBING (R357). -/
def QDR_STATUS_SCRUBBING : Fld := ⟨0x80008, 0, 1, 1, .ro, 0⟩
/-- QDR_STATUS.SCRUB_PASSES (R357). -/
def QDR_STATUS_SCRUB_PASSES : Fld := ⟨0x80008, 0, 8, 8, .ro, 0⟩
/-- QDR_SIZE.MIB (R357). -/
def QDR_SIZE_MIB : Fld := ⟨0x8000C, 0, 0, 8, .ro, 0⟩
/-- QDR_BW_USABLE.MBPS (R357). -/
def QDR_BW_USABLE_MBPS : Fld := ⟨0x80010, 0, 0, 20, .ro, 0⟩
/-- QDR_BW_ADMIT.MBPS (R357). -/
def QDR_BW_ADMIT_MBPS : Fld := ⟨0x80014, 0, 0, 20, .ro, 0⟩
/-- QDR_ELASTIC_BASE.ADDR (R357). -/
def QDR_ELASTIC_BASE_ADDR : Fld := ⟨0x80018, 0, 0, 27, .ro, 29360128⟩
/-- QDR_ELASTIC_SIZE.BYTES (R357). -/
def QDR_ELASTIC_SIZE_BYTES : Fld := ⟨0x8001C, 0, 0, 27, .ro, 0⟩
/-- QDR_SCRUB.EN (R357). -/
def QDR_SCRUB_EN : Fld := ⟨0x80020, 0, 0, 1, .rw, 1⟩
/-- QDR_SCRUB.PERIOD_S (R357). -/
def QDR_SCRUB_PERIOD_S : Fld := ⟨0x80020, 0, 8, 8, .rw, 16⟩
/-- QCH_STATUS.TRAINED (R357). -/
def QCH_STATUS_TRAINED : Fld := ⟨0x80100, 0, 0, 1, .ro, 0⟩
/-- QCH_STATUS.TRAIN_FAIL (R357). -/
def QCH_STATUS_TRAIN_FAIL : Fld := ⟨0x80100, 0, 1, 1, .ro, 0⟩
/-- QCH_STATUS.FAIL_CAUSE (R357). -/
def QCH_STATUS_FAIL_CAUSE : Fld := ⟨0x80100, 0, 2, 3, .ro, 0⟩
/-- QCH_STATUS.TRACK_LIMIT (R357). -/
def QCH_STATUS_TRACK_LIMIT : Fld := ⟨0x80100, 0, 5, 1, .w1c, 0⟩
/-- QCH_CE_CNT.COUNT (R357). -/
def QCH_CE_CNT_COUNT : Fld := ⟨0x80104, 0, 0, 32, .rc, 0⟩
/-- QCH_UE_CNT.COUNT (R357). -/
def QCH_UE_CNT_COUNT : Fld := ⟨0x80108, 0, 0, 32, .rc, 0⟩
/-- QCH_AP_ERR_CNT.COUNT (R357). -/
def QCH_AP_ERR_CNT_COUNT : Fld := ⟨0x8010C, 0, 0, 32, .rc, 0⟩
/-- QCH_UE_ADDR.ADDR (R357). -/
def QCH_UE_ADDR_ADDR : Fld := ⟨0x80110, 0, 0, 27, .ro, 0⟩
/-- QCH_CE_ADDR.ADDR (R357). -/
def QCH_CE_ADDR_ADDR : Fld := ⟨0x80114, 0, 0, 27, .ro, 0⟩
/-- QCH_CE_SYN.SYN (R357). -/
def QCH_CE_SYN_SYN : Fld := ⟨0x80118, 0, 0, 8, .ro, 0⟩
/-- QCH_DESKEW.READ_MIN (R357). -/
def QCH_DESKEW_READ_MIN : Fld := ⟨0x8011C, 0, 0, 8, .ro, 0⟩
/-- QCH_DESKEW.READ_MAX (R357). -/
def QCH_DESKEW_READ_MAX : Fld := ⟨0x8011C, 0, 8, 8, .ro, 0⟩
/-- QCH_DESKEW.WRITE_MIN (R357). -/
def QCH_DESKEW_WRITE_MIN : Fld := ⟨0x8011C, 0, 16, 8, .ro, 0⟩
/-- QCH_DESKEW.WRITE_MAX (R357). -/
def QCH_DESKEW_WRITE_MAX : Fld := ⟨0x8011C, 0, 24, 8, .ro, 0⟩
/-- BMV_CFG.RETRY (R358). -/
def BMV_CFG_RETRY : Fld := ⟨0x90004, 0, 0, 3, .rw, 3⟩
/-- BMV_CFG.JOB_RATE (R358). -/
def BMV_CFG_JOB_RATE : Fld := ⟨0x90004, 0, 16, 16, .rw, 4000⟩
/-- BMV_ENGINE.CH (R358). -/
def BMV_ENGINE_CH : Fld := ⟨0x90008, 0, 0, 3, .ro, 0⟩
/-- BMV_ENGINE.BUSY (R358). -/
def BMV_ENGINE_BUSY : Fld := ⟨0x90008, 0, 3, 1, .ro, 0⟩
/-- BMV_SRC_LO.ADDR (R358). -/
def BMV_SRC_LO_ADDR : Fld := ⟨0x90100, 128, 0, 32, .rw, 0⟩
/-- BMV_SRC_HI.ADDR (R358). -/
def BMV_SRC_HI_ADDR : Fld := ⟨0x90104, 128, 0, 8, .rw, 0⟩
/-- BMV_DST_LO.ADDR (R358). -/
def BMV_DST_LO_ADDR : Fld := ⟨0x90108, 128, 0, 32, .rw, 0⟩
/-- BMV_DST_HI.ADDR (R358). -/
def BMV_DST_HI_ADDR : Fld := ⟨0x9010C, 128, 0, 8, .rw, 0⟩
/-- BMV_LEN.BLOCKS (R358). -/
def BMV_LEN_BLOCKS : Fld := ⟨0x90110, 128, 0, 24, .rw, 0⟩
/-- BMV_CTRL.OP (R358). -/
def BMV_CTRL_OP : Fld := ⟨0x90114, 128, 0, 2, .rw, 0⟩
/-- BMV_CTRL.REPEAT (R358). -/
def BMV_CTRL_REPEAT : Fld := ⟨0x90114, 128, 2, 9, .rw, 0⟩
/-- BMV_CTRL.EV (R358). -/
def BMV_CTRL_EV : Fld := ⟨0x90114, 128, 11, 6, .rw, 0⟩
/-- BMV_CTRL.EV_EN (R358). -/
def BMV_CTRL_EV_EN : Fld := ⟨0x90114, 128, 17, 1, .rw, 0⟩
/-- BMV_CTRL.GO (R358). -/
def BMV_CTRL_GO : Fld := ⟨0x90114, 128, 18, 1, .wo, 0⟩
/-- BMV_CTRL.ABORT (R358). -/
def BMV_CTRL_ABORT : Fld := ⟨0x90114, 128, 19, 1, .wo, 0⟩
/-- BMV_SRC_STRIDE.BYTES (R358). -/
def BMV_SRC_STRIDE_BYTES : Fld := ⟨0x90118, 128, 0, 32, .rw, 0⟩
/-- BMV_DST_STRIDE.BYTES (R358). -/
def BMV_DST_STRIDE_BYTES : Fld := ⟨0x9011C, 128, 0, 32, .rw, 0⟩
/-- BMV_FILL_LO.DATA (R358). -/
def BMV_FILL_LO_DATA : Fld := ⟨0x90120, 128, 0, 32, .rw, 0⟩
/-- BMV_FILL_HI.DATA (R358). -/
def BMV_FILL_HI_DATA : Fld := ⟨0x90124, 128, 0, 32, .rw, 0⟩
/-- BMV_STATUS.STATE (R358). -/
def BMV_STATUS_STATE : Fld := ⟨0x90128, 128, 0, 3, .ro, 0⟩
/-- BMV_STATUS.ERR (R358). -/
def BMV_STATUS_ERR : Fld := ⟨0x90128, 128, 4, 3, .ro, 0⟩
/-- BMV_STATUS.MISMATCH (R358). -/
def BMV_STATUS_MISMATCH : Fld := ⟨0x90128, 128, 7, 1, .ro, 0⟩
/-- BMV_STATUS.RETRIES (R358). -/
def BMV_STATUS_RETRIES : Fld := ⟨0x90128, 128, 8, 3, .ro, 0⟩
/-- BMV_STATUS.DONE_CNT (R358). -/
def BMV_STATUS_DONE_CNT : Fld := ⟨0x90128, 128, 16, 16, .ro, 0⟩
/-- BMV_REMAIN.BLOCKS (R358). -/
def BMV_REMAIN_BLOCKS : Fld := ⟨0x9012C, 128, 0, 24, .ro, 0⟩
/-- BMV_REMAIN_PASS.PASSES (R358). -/
def BMV_REMAIN_PASS_PASSES : Fld := ⟨0x90130, 128, 0, 9, .ro, 0⟩
/-- BMV_FAIL_LO.ADDR (R358). -/
def BMV_FAIL_LO_ADDR : Fld := ⟨0x90134, 128, 0, 32, .ro, 0⟩
/-- BMV_FAIL_HI.ADDR (R358). -/
def BMV_FAIL_HI_ADDR : Fld := ⟨0x90138, 128, 0, 8, .ro, 0⟩
/-- BMV_CMP_CNT.COUNT (R358). -/
def BMV_CMP_CNT_COUNT : Fld := ⟨0x9013C, 128, 0, 32, .ro, 0⟩
/-- BMV_CMP_ADDR_LO.ADDR (R358). -/
def BMV_CMP_ADDR_LO_ADDR : Fld := ⟨0x90140, 128, 0, 32, .ro, 0⟩
/-- BMV_CMP_ADDR_HI.ADDR (R358). -/
def BMV_CMP_ADDR_HI_ADDR : Fld := ⟨0x90144, 128, 0, 8, .ro, 0⟩
/-- PORT_SEL.SEL (R523). -/
def PORT_SEL_SEL : Fld := ⟨0xA0000, 0, 0, 16, .rw, 0⟩
/-- NET_UDP_PORT.PORT (R389). -/
def NET_UDP_PORT_PORT : Fld := ⟨0xA0004, 0, 0, 16, .rw, 51260⟩
/-- NET_QOS.DSCP_CTRL (R389). -/
def NET_QOS_DSCP_CTRL : Fld := ⟨0xA0008, 0, 0, 6, .rw, 46⟩
/-- NET_QOS.DSCP_OWNER (R389). -/
def NET_QOS_DSCP_OWNER : Fld := ⟨0xA0008, 0, 8, 6, .rw, 34⟩
/-- NET_QOS.DSCP_OBS (R389). -/
def NET_QOS_DSCP_OBS : Fld := ⟨0xA0008, 0, 16, 6, .rw, 10⟩
/-- NET_QOS.PCP_CTRL (R389). -/
def NET_QOS_PCP_CTRL : Fld := ⟨0xA0008, 0, 24, 3, .rw, 6⟩
/-- NET_QOS.PCP_OWNER (R389). -/
def NET_QOS_PCP_OWNER : Fld := ⟨0xA0008, 0, 27, 3, .rw, 5⟩
/-- NET_PORT_CFG.MODE (R389). -/
def NET_PORT_CFG_MODE : Fld := ⟨0xA0100, 0, 0, 3, .rw, 0⟩
/-- NET_PORT_CFG.FEC_EN (R389). -/
def NET_PORT_CFG_FEC_EN : Fld := ⟨0xA0100, 0, 3, 1, .rw, 1⟩
/-- NET_PORT_CFG.VLAN_EN (R389). -/
def NET_PORT_CFG_VLAN_EN : Fld := ⟨0xA0100, 0, 4, 1, .rw, 0⟩
/-- NET_PORT_CFG.PCP_OBS (R389). -/
def NET_PORT_CFG_PCP_OBS : Fld := ⟨0xA0100, 0, 5, 3, .rw, 1⟩
/-- NET_PORT_VLAN.VID (R389). -/
def NET_PORT_VLAN_VID : Fld := ⟨0xA0104, 0, 0, 12, .rw, 1⟩
/-- NET_MAC_LO.MAC (R389). -/
def NET_MAC_LO_MAC : Fld := ⟨0xA0108, 0, 0, 32, .rw, 0⟩
/-- NET_MAC_HI.MAC (R389). -/
def NET_MAC_HI_MAC : Fld := ⟨0xA010C, 0, 0, 16, .rw, 0⟩
/-- NET_IPV4.ADDR (R389). -/
def NET_IPV4_ADDR : Fld := ⟨0xA0110, 0, 0, 32, .rw, 0⟩
/-- NET_IPV6_k.ADDR (R389). -/
def NET_IPV6_k_ADDR : Fld := ⟨0xA0114, 4, 0, 32, .rw, 0⟩
/-- NET_PORT_STATUS.UP (R389). -/
def NET_PORT_STATUS_UP : Fld := ⟨0xA0124, 0, 0, 1, .ro, 0⟩
/-- NET_PORT_STATUS.AN_DONE (R389). -/
def NET_PORT_STATUS_AN_DONE : Fld := ⟨0xA0124, 0, 1, 1, .ro, 0⟩
/-- NET_PORT_STATUS.TRAIN_DONE (R389). -/
def NET_PORT_STATUS_TRAIN_DONE : Fld := ⟨0xA0124, 0, 2, 1, .ro, 0⟩
/-- NET_PORT_STATUS.FEC_LOCK (R389). -/
def NET_PORT_STATUS_FEC_LOCK : Fld := ⟨0xA0124, 0, 3, 1, .ro, 0⟩
/-- NET_PORT_STATUS.DOWN_LATCH (R389). -/
def NET_PORT_STATUS_DOWN_LATCH : Fld := ⟨0xA0124, 0, 4, 1, .w1c, 0⟩
/-- NET_PORT_STATUS.PRBS_LOCK (R389). -/
def NET_PORT_STATUS_PRBS_LOCK : Fld := ⟨0xA0124, 0, 5, 1, .ro, 0⟩
/-- NET_PORT_TEST.LOOPBACK (R389). -/
def NET_PORT_TEST_LOOPBACK : Fld := ⟨0xA0128, 0, 0, 2, .rw, 0⟩
/-- NET_PORT_TEST.PRBS (R389). -/
def NET_PORT_TEST_PRBS : Fld := ⟨0xA0128, 0, 2, 2, .rw, 0⟩
/-- NET_PORT_TEST.INJECT (R389). -/
def NET_PORT_TEST_INJECT : Fld := ⟨0xA0128, 0, 4, 1, .wo, 0⟩
/-- NET_PORT_ADMIT.MBPS (R389). -/
def NET_PORT_ADMIT_MBPS : Fld := ⟨0xA012C, 0, 0, 20, .ro, 0⟩
/-- NET_FEC_CE_CNT.COUNT (R389). -/
def NET_FEC_CE_CNT_COUNT : Fld := ⟨0xA0130, 0, 0, 32, .rc, 0⟩
/-- NET_FEC_UE_CNT.COUNT (R389). -/
def NET_FEC_UE_CNT_COUNT : Fld := ⟨0xA0134, 0, 0, 32, .rc, 0⟩
/-- NET_PRBS_ERR.COUNT (R389). -/
def NET_PRBS_ERR_COUNT : Fld := ⟨0xA0138, 0, 0, 32, .rc, 0⟩
/-- NET_RX_DROP_CNT.COUNT (R389). -/
def NET_RX_DROP_CNT_COUNT : Fld := ⟨0xA013C, 0, 0, 32, .rc, 0⟩
/-- NET_LINK_DOWN_CNT.COUNT (R389). -/
def NET_LINK_DOWN_CNT_COUNT : Fld := ⟨0xA0140, 0, 0, 32, .rc, 0⟩
/-- SESSION_SEL.SEL (R523). -/
def SESSION_SEL_SEL : Fld := ⟨0xB0000, 0, 0, 16, .rw, 0⟩
/-- XPT_CFG.RETRY_MAX (R390). -/
def XPT_CFG_RETRY_MAX : Fld := ⟨0xB0004, 0, 0, 4, .rw, 8⟩
/-- XPT_CFG.REQUIRE_SEAL (R390). -/
def XPT_CFG_REQUIRE_SEAL : Fld := ⟨0xB0004, 0, 4, 3, .rw, 7⟩
/-- XPT_CFG.BE_LAG (R390). -/
def XPT_CFG_BE_LAG : Fld := ⟨0xB0004, 0, 8, 10, .rw, 128⟩
/-- XPT_CFG.RESUME_LAG (R390). -/
def XPT_CFG_RESUME_LAG : Fld := ⟨0xB0004, 0, 18, 10, .rw, 512⟩
/-- XPT_TIMERS.RTO_US (R390). -/
def XPT_TIMERS_RTO_US : Fld := ⟨0xB0008, 0, 0, 16, .rw, 200⟩
/-- XPT_TIMERS.IDLE_MS (R390). -/
def XPT_TIMERS_IDLE_MS : Fld := ⟨0xB0008, 0, 16, 16, .rw, 1000⟩
/-- XPT_FAILBACK.MS (R390). -/
def XPT_FAILBACK_MS : Fld := ⟨0xB000C, 0, 0, 16, .rw, 100⟩
/-- XPT_CE_LINES.LINES (R390). -/
def XPT_CE_LINES_LINES : Fld := ⟨0xB0010, 0, 0, 20, .ro, 0⟩
/-- XPT_RATE_MAX.LPS (R390). -/
def XPT_RATE_MAX_LPS : Fld := ⟨0xB0014, 0, 0, 32, .ro, 0⟩
/-- XPT_ADMIT_QDR.MBPS (R390). -/
def XPT_ADMIT_QDR_MBPS : Fld := ⟨0xB0018, 0, 0, 20, .ro, 0⟩
/-- XPT_WIN_FREE.DESC (R390). -/
def XPT_WIN_FREE_DESC : Fld := ⟨0xB001C, 0, 0, 12, .ro, 3584⟩
/-- XPT_SESS_STATUS.STATE (R390). -/
def XPT_SESS_STATUS_STATE : Fld := ⟨0xB0100, 0, 0, 2, .ro, 0⟩
/-- XPT_SESS_STATUS.ROLE (R390). -/
def XPT_SESS_STATUS_ROLE : Fld := ⟨0xB0100, 0, 2, 2, .ro, 0⟩
/-- XPT_SESS_STATUS.SEALED (R390). -/
def XPT_SESS_STATUS_SEALED : Fld := ⟨0xB0100, 0, 4, 1, .ro, 0⟩
/-- XPT_SESS_STATUS.STRIPE (R390). -/
def XPT_SESS_STATUS_STRIPE : Fld := ⟨0xB0100, 0, 5, 1, .ro, 0⟩
/-- XPT_SESS_STATUS.SEND_PORT (R390). -/
def XPT_SESS_STATUS_SEND_PORT : Fld := ⟨0xB0100, 0, 8, 5, .ro, 0⟩
/-- XPT_SESS_STATUS.PATHS (R390). -/
def XPT_SESS_STATUS_PATHS : Fld := ⟨0xB0100, 0, 15, 17, .ro, 0⟩
/-- XPT_SESS_SUB.REND (R390). -/
def XPT_SESS_SUB_REND : Fld := ⟨0xB0104, 0, 0, 2, .ro, 0⟩
/-- XPT_SESS_SUB.RESERVED (R390). -/
def XPT_SESS_SUB_RESERVED : Fld := ⟨0xB0104, 0, 2, 1, .ro, 0⟩
/-- XPT_SESS_SUB.LAG (R390). -/
def XPT_SESS_SUB_LAG : Fld := ⟨0xB0104, 0, 8, 10, .ro, 0⟩
/-- XPT_SESS_ID.ID (R390). -/
def XPT_SESS_ID_ID : Fld := ⟨0xB0108, 0, 0, 32, .ro, 0⟩
/-- XPT_SESS_LAGNOW.LINES (R390). -/
def XPT_SESS_LAGNOW_LINES : Fld := ⟨0xB010C, 0, 0, 20, .ro, 0⟩
/-- XPT_SESS_WIN.WIN (R390). -/
def XPT_SESS_WIN_WIN : Fld := ⟨0xB0110, 0, 0, 12, .ro, 0⟩
/-- XPT_SESS_LIMIT.LIMIT (R390). -/
def XPT_SESS_LIMIT_LIMIT : Fld := ⟨0xB0114, 0, 0, 32, .ro, 0⟩
/-- XPT_SESS_RETX_CNT.COUNT (R390). -/
def XPT_SESS_RETX_CNT_COUNT : Fld := ⟨0xB0118, 0, 0, 32, .rc, 0⟩
/-- XPT_SESS_THIN_CNT.COUNT (R390). -/
def XPT_SESS_THIN_CNT_COUNT : Fld := ⟨0xB011C, 0, 0, 32, .rc, 0⟩
/-- XPT_SESS_GAP_CNT.COUNT (R390). -/
def XPT_SESS_GAP_CNT_COUNT : Fld := ⟨0xB0120, 0, 0, 32, .rc, 0⟩
/-- XPT_RX_DROP_CNT.COUNT (R390). -/
def XPT_RX_DROP_CNT_COUNT : Fld := ⟨0xB0124, 0, 0, 32, .rc, 0⟩
/-- XPT_AUTH_FAIL_CNT.COUNT (R390). -/
def XPT_AUTH_FAIL_CNT_COUNT : Fld := ⟨0xB0128, 0, 0, 32, .rc, 0⟩
/-- MBUS_BMB_CFG.SPEED (R430). -/
def MBUS_BMB_CFG_SPEED : Fld := ⟨0xC0000, 0, 0, 2, .rw, 1⟩
/-- MBUS_BMB_CFG.ALERT_EN (R430). -/
def MBUS_BMB_CFG_ALERT_EN : Fld := ⟨0xC0000, 0, 2, 1, .rw, 1⟩
/-- MBUS_BMB_STATUS.BUSY (R430). -/
def MBUS_BMB_STATUS_BUSY : Fld := ⟨0xC0004, 0, 0, 1, .ro, 0⟩
/-- MBUS_BMB_STATUS.BUS_FREE (R430). -/
def MBUS_BMB_STATUS_BUS_FREE : Fld := ⟨0xC0004, 0, 1, 1, .ro, 0⟩
/-- MBUS_BMB_STATUS.STUCK (R430). -/
def MBUS_BMB_STATUS_STUCK : Fld := ⟨0xC0004, 0, 2, 1, .ro, 0⟩
/-- MBUS_BMB_STATUS.TIMEOUT (R430). -/
def MBUS_BMB_STATUS_TIMEOUT : Fld := ⟨0xC0004, 0, 3, 1, .w1c, 0⟩
/-- MBUS_BMB_STATUS.ARB_FAIL (R430). -/
def MBUS_BMB_STATUS_ARB_FAIL : Fld := ⟨0xC0004, 0, 4, 1, .w1c, 0⟩
/-- MBUS_BMB_STATUS.ALERT_LIVE (R430). -/
def MBUS_BMB_STATUS_ALERT_LIVE : Fld := ⟨0xC0004, 0, 5, 1, .ro, 0⟩
/-- MBUS_BMB_ARB.BYTE (R430). -/
def MBUS_BMB_ARB_BYTE : Fld := ⟨0xC0008, 0, 0, 8, .ro, 0⟩
/-- MBUS_BMB_ARB.BIT (R430). -/
def MBUS_BMB_ARB_BIT : Fld := ⟨0xC0008, 0, 8, 4, .ro, 0⟩
/-- MBUS_BMB_ARB.RETRIES (R430). -/
def MBUS_BMB_ARB_RETRIES : Fld := ⟨0xC0008, 0, 12, 2, .ro, 0⟩
/-- MBUS_BMB_ARB.ARB_LOST (R430). -/
def MBUS_BMB_ARB_ARB_LOST : Fld := ⟨0xC0008, 0, 16, 1, .w1c, 0⟩
/-- MBUS_BMB_ALERT.ADDR (R430). -/
def MBUS_BMB_ALERT_ADDR : Fld := ⟨0xC000C, 0, 0, 7, .ro, 0⟩
/-- MBUS_BMB_ALERT.VALID (R430). -/
def MBUS_BMB_ALERT_VALID : Fld := ⟨0xC000C, 0, 7, 1, .w1c, 0⟩
/-- MBUS_BMB_ALERT.SPURIOUS (R430). -/
def MBUS_BMB_ALERT_SPURIOUS : Fld := ⟨0xC000C, 0, 8, 16, .ro, 0⟩
/-- MBUS_BMB_ARB_CNT.COUNT (R430). -/
def MBUS_BMB_ARB_CNT_COUNT : Fld := ⟨0xC0010, 0, 0, 32, .rc, 0⟩
/-- MBUS_BMB_NACK_CNT.COUNT (R430). -/
def MBUS_BMB_NACK_CNT_COUNT : Fld := ⟨0xC0014, 0, 0, 32, .rc, 0⟩
/-- MBUS_BMB_CLEAR_CNT.COUNT (R430). -/
def MBUS_BMB_CLEAR_CNT_COUNT : Fld := ⟨0xC0018, 0, 0, 32, .rc, 0⟩
/-- MBUS_BMP_CFG.ADDR (R430). -/
def MBUS_BMP_CFG_ADDR : Fld := ⟨0xC0040, 0, 0, 7, .ro, 58⟩
/-- MBUS_BMP_CFG.PKT_TIMEOUT_MS (R430). -/
def MBUS_BMP_CFG_PKT_TIMEOUT_MS : Fld := ⟨0xC0040, 0, 16, 8, .rw, 100⟩
/-- MBUS_BMP_STATUS.IN_READY (R430). -/
def MBUS_BMP_STATUS_IN_READY : Fld := ⟨0xC0044, 0, 0, 1, .ro, 1⟩
/-- MBUS_BMP_STATUS.OUT_AVAIL (R430). -/
def MBUS_BMP_STATUS_OUT_AVAIL : Fld := ⟨0xC0044, 0, 1, 1, .ro, 0⟩
/-- MBUS_BMP_STATUS.BUSY (R430). -/
def MBUS_BMP_STATUS_BUSY : Fld := ⟨0xC0044, 0, 2, 1, .ro, 0⟩
/-- MBUS_BMP_STATUS.IN_DISCARD (R430). -/
def MBUS_BMP_STATUS_IN_DISCARD : Fld := ⟨0xC0044, 0, 3, 1, .w1c, 0⟩
/-- MBUS_BMP_STATUS.OUT_UNDERRUN (R430). -/
def MBUS_BMP_STATUS_OUT_UNDERRUN : Fld := ⟨0xC0044, 0, 4, 1, .w1c, 0⟩
/-- MBUS_BMP_STATUS.DIRECT_ERR (R430). -/
def MBUS_BMP_STATUS_DIRECT_ERR : Fld := ⟨0xC0044, 0, 5, 1, .w1c, 0⟩
/-- MBUS_BMP_STATUS.DIRECT_STATUS (R430). -/
def MBUS_BMP_STATUS_DIRECT_STATUS : Fld := ⟨0xC0044, 0, 8, 8, .ro, 0⟩
/-- MBUS_BMP_STATUS.OUT_LEN (R430). -/
def MBUS_BMP_STATUS_OUT_LEN : Fld := ⟨0xC0044, 0, 16, 14, .ro, 0⟩
/-- MBUS_BMP_DISCARD_CNT.COUNT (R430). -/
def MBUS_BMP_DISCARD_CNT_COUNT : Fld := ⟨0xC0048, 0, 0, 32, .rc, 0⟩
/-- SEC_STATUS.RECOVERY (R446). -/
def SEC_STATUS_RECOVERY : Fld := ⟨0xD0004, 0, 0, 1, .ro, 0⟩
/-- SEC_STATUS.RUN_COPY (R446). -/
def SEC_STATUS_RUN_COPY : Fld := ⟨0xD0004, 0, 1, 1, .ro, 0⟩
/-- SEC_STATUS.RESULT_A (R446). -/
def SEC_STATUS_RESULT_A : Fld := ⟨0xD0004, 0, 4, 4, .ro, 0⟩
/-- SEC_STATUS.RESULT_B (R446). -/
def SEC_STATUS_RESULT_B : Fld := ⟨0xD0004, 0, 8, 4, .ro, 0⟩
/-- SEC_STATUS.CUST_LOCK (R446). -/
def SEC_STATUS_CUST_LOCK : Fld := ⟨0xD0004, 0, 12, 1, .ro, 0⟩
/-- SEC_STATUS.KEYS (R446). -/
def SEC_STATUS_KEYS : Fld := ⟨0xD0004, 0, 13, 3, .ro, 0⟩
/-- SEC_STATUS.OTP_PENDING (R446). -/
def SEC_STATUS_OTP_PENDING : Fld := ⟨0xD0004, 0, 16, 1, .ro, 0⟩
/-- SEC_STATUS.UPDATE (R446). -/
def SEC_STATUS_UPDATE : Fld := ⟨0xD0004, 0, 17, 3, .ro, 0⟩
/-- SEC_STATUS.UPDATE_RESULT (R446). -/
def SEC_STATUS_UPDATE_RESULT : Fld := ⟨0xD0004, 0, 20, 4, .ro, 0⟩
/-- SEC_OTP.ROLLBACK (R446). -/
def SEC_OTP_ROLLBACK : Fld := ⟨0xD0008, 0, 0, 7, .ro, 0⟩
/-- SEC_OTP.REVOKE_RSA (R446). -/
def SEC_OTP_REVOKE_RSA : Fld := ⟨0xD0008, 0, 8, 4, .ro, 0⟩
/-- SEC_OTP.REVOKE_SLH (R446). -/
def SEC_OTP_REVOKE_SLH : Fld := ⟨0xD0008, 0, 12, 4, .ro, 0⟩
/-- SEC_FW_A_BUILD.BUILD (R446). -/
def SEC_FW_A_BUILD_BUILD : Fld := ⟨0xD000C, 0, 0, 32, .ro, 0⟩
/-- SEC_FW_B_BUILD.BUILD (R446). -/
def SEC_FW_B_BUILD_BUILD : Fld := ⟨0xD0010, 0, 0, 32, .ro, 0⟩
/-- SEC_FW_SVN.A (R446). -/
def SEC_FW_SVN_A : Fld := ⟨0xD0014, 0, 0, 7, .ro, 0⟩
/-- SEC_FW_SVN.B (R446). -/
def SEC_FW_SVN_B : Fld := ⟨0xD0014, 0, 8, 7, .ro, 0⟩
/-- SEC_FW_SVN.RSA_SLOT (R446). -/
def SEC_FW_SVN_RSA_SLOT : Fld := ⟨0xD0014, 0, 16, 2, .ro, 0⟩
/-- SEC_FW_SVN.SLH_SLOT (R446). -/
def SEC_FW_SVN_SLH_SLOT : Fld := ⟨0xD0014, 0, 18, 2, .ro, 0⟩
/-- SEC_KERNEL.VALID (R446). -/
def SEC_KERNEL_VALID : Fld := ⟨0xD0018, 0, 0, 1, .ro, 0⟩
/-- SEC_KERNEL.SIGNER (R446). -/
def SEC_KERNEL_SIGNER : Fld := ⟨0xD0018, 0, 1, 1, .ro, 0⟩
/-- SEC_KERNEL.CODE_LEN (R446). -/
def SEC_KERNEL_CODE_LEN : Fld := ⟨0xD0018, 0, 16, 15, .ro, 0⟩
/-- SEC_KERNEL_GEN.GEN (R446). -/
def SEC_KERNEL_GEN_GEN : Fld := ⟨0xD001C, 0, 0, 32, .ro, 0⟩
/-- SEC_ATTEST_CNT.COUNT (R446). -/
def SEC_ATTEST_CNT_COUNT : Fld := ⟨0xD0020, 0, 0, 32, .rc, 0⟩
/-- FLT_STATUS.FATAL_CAUSE (R493). -/
def FLT_STATUS_FATAL_CAUSE : Fld := ⟨0xE0000, 0, 0, 8, .ro, 0⟩
/-- FLT_STATUS.RECOVERING (R493). -/
def FLT_STATUS_RECOVERING : Fld := ⟨0xE0000, 0, 8, 1, .ro, 0⟩
/-- FLT_STATUS.DUMP_QDR (R493). -/
def FLT_STATUS_DUMP_QDR : Fld := ⟨0xE0000, 0, 9, 1, .ro, 0⟩
/-- FLT_STATUS.DUMP_FLASH (R493). -/
def FLT_STATUS_DUMP_FLASH : Fld := ⟨0xE0000, 0, 10, 1, .ro, 0⟩
/-- FLT_STATUS.COPY_FAILED (R493). -/
def FLT_STATUS_COPY_FAILED : Fld := ⟨0xE0000, 0, 11, 1, .ro, 0⟩
/-- FLT_CFG.AUTO_RESTART_S (R493). -/
def FLT_CFG_AUTO_RESTART_S : Fld := ⟨0xE0004, 0, 0, 16, .rw, 0⟩
/-- FLT_CFG.TEMP_LIMIT_C (R493). -/
def FLT_CFG_TEMP_LIMIT_C : Fld := ⟨0xE0004, 0, 16, 8, .rw, 110⟩
/-- FLT_WDOG.PAIR_US (R493). -/
def FLT_WDOG_PAIR_US : Fld := ⟨0xE0008, 0, 0, 16, .rw, 1000⟩
/-- FLT_RING_SEQ.SEQ (R493). -/
def FLT_RING_SEQ_SEQ : Fld := ⟨0xE000C, 0, 0, 32, .ro, 0⟩
/-- FLT_RING_FLASHED.SEQ (R493). -/
def FLT_RING_FLASHED_SEQ : Fld := ⟨0xE0010, 0, 0, 32, .ro, 0⟩
/-- FLT_RING_LOST_CNT.COUNT (R493). -/
def FLT_RING_LOST_CNT_COUNT : Fld := ⟨0xE0014, 0, 0, 32, .rc, 0⟩
/-- FLT_SUPPRESSED_CNT.COUNT (R493). -/
def FLT_SUPPRESSED_CNT_COUNT : Fld := ⟨0xE0018, 0, 0, 32, .rc, 0⟩
/-- FLT_RECOVER_CNT.COUNT (R493). -/
def FLT_RECOVER_CNT_COUNT : Fld := ⟨0xE001C, 0, 0, 32, .rc, 0⟩
/-- FLT_RECOVER_MAX.NS (R493). -/
def FLT_RECOVER_MAX_NS : Fld := ⟨0xE0020, 0, 0, 32, .rc, 0⟩
/-- FLT_PAIR_CNT.CP0 (R493). -/
def FLT_PAIR_CNT_CP0 : Fld := ⟨0xE0024, 0, 0, 16, .rc, 0⟩
/-- FLT_PAIR_CNT.CP1 (R493). -/
def FLT_PAIR_CNT_CP1 : Fld := ⟨0xE0024, 0, 16, 16, .rc, 0⟩
/-- FLT_DUMP_UE.COUNT (R493). -/
def FLT_DUMP_UE_COUNT : Fld := ⟨0xE0028, 0, 0, 32, .ro, 0⟩
/-- FLT_DUMP_COUNT.COUNT (R493). -/
def FLT_DUMP_COUNT_COUNT : Fld := ⟨0xE002C, 0, 0, 32, .ro, 0⟩
/-- ANA_CFG.CHAN (R268). -/
def ANA_CFG_CHAN : Fld := ⟨0xF0000, 0, 0, 3, .rw, 4⟩
/-- ANA_CFG.STREAK_EN (R268). -/
def ANA_CFG_STREAK_EN : Fld := ⟨0xF0000, 0, 3, 1, .rw, 1⟩
/-- ANA_CFG.BAND_EN (R268). -/
def ANA_CFG_BAND_EN : Fld := ⟨0xF0000, 0, 4, 1, .rw, 1⟩
/-- ANA_CFG.REF_EN (R268). -/
def ANA_CFG_REF_EN : Fld := ⟨0xF0000, 0, 5, 1, .rw, 0⟩
/-- ANA_STREAK.SHIFT (R268). -/
def ANA_STREAK_SHIFT : Fld := ⟨0xF0004, 0, 0, 4, .rw, 5⟩
/-- ANA_STREAK.PERSIST (R268). -/
def ANA_STREAK_PERSIST : Fld := ⟨0xF0004, 0, 4, 4, .rw, 4⟩
/-- ANA_STREAK.CLEAR_N (R268). -/
def ANA_STREAK_CLEAR_N : Fld := ⟨0xF0004, 0, 8, 4, .rw, 8⟩
/-- ANA_STREAK.MIN_LEVEL (R268). -/
def ANA_STREAK_MIN_LEVEL : Fld := ⟨0xF0004, 0, 16, 16, .rw, 512⟩
/-- ANA_STREAK_Z.ZSQ (R268). -/
def ANA_STREAK_Z_ZSQ : Fld := ⟨0xF0008, 0, 0, 12, .rw, 256⟩
/-- ANA_BAND.SHIFT (R268). -/
def ANA_BAND_SHIFT : Fld := ⟨0xF000C, 0, 0, 4, .rw, 6⟩
/-- ANA_BAND.PERSIST (R268). -/
def ANA_BAND_PERSIST : Fld := ⟨0xF000C, 0, 4, 4, .rw, 1⟩
/-- ANA_BAND.MAX_LINES (R268). -/
def ANA_BAND_MAX_LINES : Fld := ⟨0xF000C, 0, 8, 8, .rw, 64⟩
/-- ANA_BAND.LEVEL (R268). -/
def ANA_BAND_LEVEL : Fld := ⟨0xF000C, 0, 16, 16, .rw, 512⟩
/-- ANA_REF.LEVEL (R268). -/
def ANA_REF_LEVEL : Fld := ⟨0xF0010, 0, 0, 8, .rw, 24⟩
/-- ANA_REF.CLEAR_N (R268). -/
def ANA_REF_CLEAR_N : Fld := ⟨0xF0010, 0, 8, 4, .rw, 2⟩
/-- ANA_REF.LINE_OFF (R268). -/
def ANA_REF_LINE_OFF : Fld := ⟨0xF0010, 0, 16, 16, .rw, 0⟩
/-- ANA_REF_COL.COL_OFF (R268). -/
def ANA_REF_COL_COL_OFF : Fld := ⟨0xF0014, 0, 0, 16, .rw, 0⟩
/-- ANA_REF_STATUS.ROWS (R268). -/
def ANA_REF_STATUS_ROWS : Fld := ⟨0xF0018, 0, 0, 16, .ro, 0⟩
/-- ANA_REF_STATUS.REF_MISS (R268). -/
def ANA_REF_STATUS_REF_MISS : Fld := ⟨0xF0018, 0, 16, 1, .w1c, 0⟩
/-- ANA_REF_MISS_CNT.COUNT (R268). -/
def ANA_REF_MISS_CNT_COUNT : Fld := ⟨0xF001C, 0, 0, 32, .rc, 0⟩
/-- ANA_BAND_REF.B (R268). -/
def ANA_BAND_REF_B : Fld := ⟨0xF0020, 0, 0, 32, .ro, 0⟩
/-- ANA_VERDICT_CNT.COUNT (R268). -/
def ANA_VERDICT_CNT_COUNT : Fld := ⟨0xF0024, 0, 0, 32, .rc, 0⟩
/-- ANA_MERGED_CNT.COUNT (R268). -/
def ANA_MERGED_CNT_COUNT : Fld := ⟨0xF0028, 0, 0, 32, .rc, 0⟩
/-- ANA_VQ_FILL.FILL (R268). -/
def ANA_VQ_FILL_FILL : Fld := ⟨0xF002C, 0, 0, 15, .ro, 0⟩
/-- ANA_KERNEL_OPS.OPS (R268). -/
def ANA_KERNEL_OPS_OPS : Fld := ⟨0xF0030, 0, 0, 12, .rw, 0⟩
/-- ANA_KERNEL_ROOTj.VALUE (R268). -/
def ANA_KERNEL_ROOTj_VALUE : Fld := ⟨0xF0034, 4, 0, 32, .ro, 0⟩
/-- ANA_EVT_STATUS.ASSERTED (R268). -/
def ANA_EVT_STATUS_ASSERTED : Fld := ⟨0xF0044, 0, 0, 8, .ro, 0⟩
/-- ANA_EVT_CFGk.TYPES (R268). -/
def ANA_EVT_CFGk_TYPES : Fld := ⟨0xF0080, 4, 0, 5, .rw, 0⟩
/-- ANA_EVT_CFGk.MODE (R268). -/
def ANA_EVT_CFGk_MODE : Fld := ⟨0xF0080, 4, 5, 1, .rw, 0⟩
/-- ANA_EVT_CFGk.POL (R268). -/
def ANA_EVT_CFGk_POL : Fld := ⟨0xF0080, 4, 6, 1, .rw, 0⟩
/-- ANA_EVT_CFGk.PULSE (R268). -/
def ANA_EVT_CFGk_PULSE : Fld := ⟨0xF0080, 4, 16, 16, .rw, 100⟩

end F

/-- The SYS block. -/
def regsSys : List Reg := [
  ⟨"SYS_ID", 0x0, 0, 1, none, false,
    [F.SYS_ID_PART, F.SYS_ID_VENDOR]⟩,
  ⟨"SYS_REV", 0x4, 0, 1, none, false,
    [F.SYS_REV_DIGIT, F.SYS_REV_LETTER, F.SYS_REV_MAP]⟩,
  ⟨"SYS_DEVICE_IDj", 0x8, 4, 4, none, false,
    [F.SYS_DEVICE_IDj_ID]⟩,
  ⟨"SYS_STATUS", 0x18, 0, 1, none, false,
    [F.SYS_STATUS_STATE, F.SYS_STATUS_JOB_DEFINED, F.SYS_STATUS_MODE, F.SYS_STATUS_CONFIG_DEFAULTED, F.SYS_STATUS_QDR_USABLE, F.SYS_STATUS_UNSAVED, F.SYS_STATUS_RECOVERING, F.SYS_STATUS_RECOVERY]⟩,
  ⟨"SYS_ERR", 0x1C, 0, 1, none, false,
    [F.SYS_ERR_SEL_RANGE, F.SYS_ERR_SEL_BCAST_READ, F.SYS_ERR_SEL_WHICH]⟩,
  ⟨"SYS_OP_STATUS", 0x20, 0, 1, none, false,
    [F.SYS_OP_STATUS_BUSY, F.SYS_OP_STATUS_OP, F.SYS_OP_STATUS_RESULT, F.SYS_OP_STATUS_REASON, F.SYS_OP_STATUS_PROGRESS]⟩,
  ⟨"SYS_PAD_SLEW", 0x40, 0, 1, none, true,
    [F.SYS_PAD_SLEW_AX_STEP, F.SYS_PAD_SLEW_AX_DRV, F.SYS_PAD_SLEW_LUM_DAT, F.SYS_PAD_SLEW_LUM_GATE, F.SYS_PAD_SLEW_LUM_VREF, F.SYS_PAD_SLEW_EVT]⟩,
  ⟨"SYS_EV_CNTk", 0x100, 4, 64, none, false,
    [F.SYS_EV_CNTk_COUNT]⟩,
  ⟨"SYS_EV_LASTk", 0x200, 4, 64, none, false,
    [F.SYS_EV_LASTk_NS]⟩,
  ⟨"SYS_SECTION_MAPs", 0x400, 4, 256, none, false,
    [F.SYS_SECTION_MAPs_HEADROOM, F.SYS_SECTION_MAPs_OPEN, F.SYS_SECTION_MAPs_SHORT, F.SYS_SECTION_MAPs_UNVERIFIED, F.SYS_SECTION_MAPs_TEMP_FLAG, F.SYS_SECTION_MAPs_ABSENT, F.SYS_SECTION_MAPs_IN_SPAN, F.SYS_SECTION_MAPs_DERATE_PCT]⟩,
  ⟨"SYS_TILE_MAPi", 0x800, 4, 512, none, false,
    [F.SYS_TILE_MAPi_PRESENT, F.SYS_TILE_MAPi_USABLE, F.SYS_TILE_MAPi_IN_SPAN, F.SYS_TILE_MAPi_BLOCK_LOCK, F.SYS_TILE_MAPi_TRAIN_FAIL, F.SYS_TILE_MAPi_ENG_RUNNING, F.SYS_TILE_MAPi_ACTIVE, F.SYS_TILE_MAPi_DRIFT_HOLD, F.SYS_TILE_MAPi_INVALID_LAST, F.SYS_TILE_MAPi_LAMP_FAULT_LAST, F.SYS_TILE_MAPi_JOINT_RANGE_RIGHT, F.SYS_TILE_MAPi_UNSAVED, F.SYS_TILE_MAPi_RESTARTS]⟩,
  ⟨"SYS_TILE_SERIALi", 0x1000, 4, 512, none, false,
    [F.SYS_TILE_SERIALi_SERIAL]⟩,
  ⟨"SYS_TILE_ERRi", 0x1800, 4, 512, none, false,
    [F.SYS_TILE_ERRi_COUNT]⟩]

/-- The PWR block. -/
def regsPwr : List Reg := [
  ⟨"PWR_RESET_CAUSE", 0x10000, 0, 1, none, false,
    [F.PWR_RESET_CAUSE_POR, F.PWR_RESET_CAUSE_PWR_GOOD, F.PWR_RESET_CAUSE_RESET_N, F.PWR_RESET_CAUSE_WAKE_N, F.PWR_RESET_CAUSE_WAKE_BMP]⟩,
  ⟨"PWR_STATUS", 0x10004, 0, 1, none, false,
    [F.PWR_STATUS_PWR_FAIL, F.PWR_STATUS_PWR_FAIL_SEEN]⟩,
  ⟨"PWR_WAKE_CFG", 0x10008, 0, 1, none, true,
    [F.PWR_WAKE_CFG_WAKE_N_EN, F.PWR_WAKE_CFG_BMP_EN]⟩,
  ⟨"PWR_HOLDUP_C", 0x1000C, 0, 1, none, true,
    [F.PWR_HOLDUP_C_UF]⟩,
  ⟨"PWR_HOLDUP_V", 0x10010, 0, 1, none, true,
    [F.PWR_HOLDUP_V_VMIN_MV, F.PWR_HOLDUP_V_DIV]⟩,
  ⟨"PWR_STORE_P", 0x10014, 0, 1, none, true,
    [F.PWR_STORE_P_P_MW]⟩,
  ⟨"PWR_FLASH_T", 0x10018, 0, 1, none, true,
    [F.PWR_FLASH_T_T_ER32_MS, F.PWR_FLASH_T_T_PP_US]⟩,
  ⟨"PWR_HOLDUP_LAST", 0x1001C, 0, 1, none, false,
    [F.PWR_HOLDUP_LAST_V_MV, F.PWR_HOLDUP_LAST_RESULT]⟩,
  ⟨"PWR_HOLDUP_E", 0x10020, 0, 1, none, false,
    [F.PWR_HOLDUP_E_AVAIL_MJ]⟩,
  ⟨"PWR_HOLDUP_NEED", 0x10024, 0, 1, none, false,
    [F.PWR_HOLDUP_NEED_NEED_MJ]⟩,
  ⟨"PWR_DOMk", 0x10100, 4, 10, none, false,
    [F.PWR_DOMk_SEASONS]⟩]

/-- The TILE block. -/
def regsTile : List Reg := [
  ⟨"TILE_SEL", 0x20000, 0, 1, none, true,
    [F.TILE_SEL_SEL]⟩,
  ⟨"TILE_IDENTj", 0x20100, 4, 8, some .tile, false,
    [F.TILE_IDENTj_WORD]⟩,
  ⟨"TILE_STATUS", 0x20120, 0, 1, some .tile, false,
    [F.TILE_STATUS_PRESENT, F.TILE_STATUS_IDENT_OK, F.TILE_STATUS_IDENT_IN_LIMITS, F.TILE_STATUS_CAL_MATCH, F.TILE_STATUS_USABLE, F.TILE_STATUS_IN_SPAN, F.TILE_STATUS_JOINT_RANGE_RIGHT, F.TILE_STATUS_SERIAL_CHANGED]⟩,
  ⟨"TILE_LANE_CTRL", 0x20140, 0, 1, some .tile, false,
    [F.TILE_LANE_CTRL_TRAIN, F.TILE_LANE_CTRL_LOOPBACK, F.TILE_LANE_CTRL_PRBS, F.TILE_LANE_CTRL_INJECT]⟩,
  ⟨"TILE_LANE_STATUS", 0x20144, 0, 1, some .tile, false,
    [F.TILE_LANE_STATUS_PHASE_LOCK, F.TILE_LANE_STATUS_BLOCK_LOCK, F.TILE_LANE_STATUS_TRAINING, F.TILE_LANE_STATUS_TRAIN_FAIL, F.TILE_LANE_STATUS_PRBS_LOCK, F.TILE_LANE_STATUS_ID_MISMATCH, F.TILE_LANE_STATUS_LOCK_LOST]⟩,
  ⟨"TILE_LANE_EQ", 0x20148, 0, 1, some .tile, false,
    [F.TILE_LANE_EQ_CTLE, F.TILE_LANE_EQ_PRE, F.TILE_LANE_EQ_POST]⟩,
  ⟨"TILE_LANE_EYE", 0x2014C, 0, 1, some .tile, false,
    [F.TILE_LANE_EYE_EYE_H, F.TILE_LANE_EYE_EYE_W, F.TILE_LANE_EYE_METRIC]⟩,
  ⟨"TILE_PRBS_ERR", 0x20150, 0, 1, some .tile, false,
    [F.TILE_PRBS_ERR_COUNT]⟩,
  ⟨"TILE_FRAME_CRC_ERR", 0x20154, 0, 1, some .tile, false,
    [F.TILE_FRAME_CRC_ERR_COUNT]⟩,
  ⟨"TILE_FRAME_FMT_ERR", 0x20158, 0, 1, some .tile, false,
    [F.TILE_FRAME_FMT_ERR_COUNT]⟩,
  ⟨"TILE_FRAME_MISSING", 0x2015C, 0, 1, some .tile, false,
    [F.TILE_FRAME_MISSING_COUNT]⟩,
  ⟨"TILE_LOCK_LOSS", 0x20160, 0, 1, some .tile, false,
    [F.TILE_LOCK_LOSS_COUNT]⟩,
  ⟨"TILE_BCB_RETRY", 0x20164, 0, 1, some .tile, false,
    [F.TILE_BCB_RETRY_COUNT]⟩,
  ⟨"TILE_ENG_STATUS", 0x20200, 0, 1, some .tile, false,
    [F.TILE_ENG_STATUS_RUNNING, F.TILE_ENG_STATUS_BANK_A_VALID, F.TILE_ENG_STATUS_BANK_B_VALID, F.TILE_ENG_STATUS_BANK_A_FORM, F.TILE_ENG_STATUS_BANK_B_FORM, F.TILE_ENG_STATUS_ACTIVE, F.TILE_ENG_STATUS_VERIFY_ERR, F.TILE_ENG_STATUS_OB_HIGH, F.TILE_ENG_STATUS_SRAM_UE, F.TILE_ENG_STATUS_WDOG, F.TILE_ENG_STATUS_DT_LIMITED, F.TILE_ENG_STATUS_RESTARTS]⟩,
  ⟨"TILE_ENG_OB_RG", 0x20204, 0, 1, some .tile, false,
    [F.TILE_ENG_OB_RG_RED, F.TILE_ENG_OB_RG_GRN]⟩,
  ⟨"TILE_ENG_OB_BN", 0x20208, 0, 1, some .tile, false,
    [F.TILE_ENG_OB_BN_BLU, F.TILE_ENG_OB_BN_NIR]⟩,
  ⟨"TILE_ENG_LAMP", 0x2020C, 0, 1, some .tile, false,
    [F.TILE_ENG_LAMP_LAMP, F.TILE_ENG_LAMP_M]⟩,
  ⟨"TILE_ENG_DT", 0x20210, 0, 1, some .tile, false,
    [F.TILE_ENG_DT_DT, F.TILE_ENG_DT_T_TILE]⟩,
  ⟨"TILE_ENG_GEN_A", 0x20214, 0, 1, some .tile, false,
    [F.TILE_ENG_GEN_A_GEN]⟩,
  ⟨"TILE_ENG_GEN_B", 0x20218, 0, 1, some .tile, false,
    [F.TILE_ENG_GEN_B_GEN]⟩,
  ⟨"TILE_ENG_SAT_CNT", 0x2021C, 0, 1, some .tile, false,
    [F.TILE_ENG_SAT_CNT_COUNT]⟩,
  ⟨"TILE_ENG_SRAM_CE_CNT", 0x20220, 0, 1, some .tile, false,
    [F.TILE_ENG_SRAM_CE_CNT_COUNT]⟩,
  ⟨"TILE_ALIGN_Y", 0x20240, 0, 1, some .tile, false,
    [F.TILE_ALIGN_Y_Y_OFF, F.TILE_ALIGN_Y_SKEW]⟩,
  ⟨"TILE_ALIGN_ROW0", 0x20244, 0, 1, some .tile, false,
    [F.TILE_ALIGN_ROW0_D_RED, F.TILE_ALIGN_ROW0_D_GRN]⟩,
  ⟨"TILE_ALIGN_ROW1", 0x20248, 0, 1, some .tile, false,
    [F.TILE_ALIGN_ROW1_D_BLU, F.TILE_ALIGN_ROW1_ROW_RECS, F.TILE_ALIGN_ROW1_NEED]⟩,
  ⟨"TILE_ALIGN_X", 0x2024C, 0, 1, some .tile, false,
    [F.TILE_ALIGN_X_XO, F.TILE_ALIGN_X_SCALE]⟩,
  ⟨"TILE_JOINT", 0x20250, 0, 1, some .tile, false,
    [F.TILE_JOINT_GAP, F.TILE_JOINT_YDIFF]⟩,
  ⟨"TILE_JOINT_CFG", 0x20254, 0, 1, some .tile, false,
    [F.TILE_JOINT_CFG_CONF, F.TILE_JOINT_CFG_G, F.TILE_JOINT_CFG_SEAM, F.TILE_JOINT_CFG_CROSS]⟩,
  ⟨"TILE_JOINT_LAST", 0x20258, 0, 1, some .tile, false,
    [F.TILE_JOINT_LAST_DIR, F.TILE_JOINT_LAST_FALLBACK, F.TILE_JOINT_LAST_INVALID]⟩,
  ⟨"TILE_CAL_STATUS", 0x20260, 0, 1, some .tile, false,
    [F.TILE_CAL_STATUS_REC_VALID, F.TILE_CAL_STATUS_UNSAVED, F.TILE_CAL_STATUS_GEOM_VALID, F.TILE_CAL_STATUS_BASE_VALID, F.TILE_CAL_STATUS_COMPAT_VALID, F.TILE_CAL_STATUS_NO_SWEEP, F.TILE_CAL_STATUS_DRIFT_HOLD, F.TILE_CAL_STATUS_EQX_FALLBACK, F.TILE_CAL_STATUS_ALIGN_CHECK_FAIL, F.TILE_CAL_STATUS_ALIGN_FAIL]⟩,
  ⟨"TILE_CAL_GEN", 0x20264, 0, 1, some .tile, false,
    [F.TILE_CAL_GEN_GEN]⟩,
  ⟨"TILE_CAL_TFIT", 0x20268, 0, 1, some .tile, false,
    [F.TILE_CAL_TFIT_T_LO, F.TILE_CAL_TFIT_T_HI]⟩,
  ⟨"TILE_EQX_RESULT", 0x2026C, 0, 1, some .tile, false,
    [F.TILE_EQX_RESULT_DUST, F.TILE_EQX_RESULT_NEW_DEFECT]⟩,
  ⟨"TILE_ALIGN_DEV", 0x20270, 0, 1, some .tile, false,
    [F.TILE_ALIGN_DEV_DY, F.TILE_ALIGN_DEV_DX]⟩]

/-- The PIPE block. -/
def regsPipe : List Reg := [
  ⟨"PIPE_SHADE_CFG", 0x30000, 0, 1, none, true,
    [F.PIPE_SHADE_CFG_FORM, F.PIPE_SHADE_CFG_OB_AVG, F.PIPE_SHADE_CFG_DT_EN, F.PIPE_SHADE_CFG_M_EN, F.PIPE_SHADE_CFG_M_CH_MASK]⟩,
  ⟨"PIPE_SHADE_WHITE", 0x30004, 0, 1, none, true,
    [F.PIPE_SHADE_WHITE_WHITE]⟩,
  ⟨"PIPE_OB_LIM", 0x30008, 0, 1, none, true,
    [F.PIPE_OB_LIM_LIMIT]⟩,
  ⟨"PIPE_DT_SLEW", 0x3000C, 0, 1, none, true,
    [F.PIPE_DT_SLEW_STEP]⟩,
  ⟨"PIPE_BANK_CTRL", 0x30010, 0, 1, none, false,
    [F.PIPE_BANK_CTRL_SWAP_MODE, F.PIPE_BANK_CTRL_SWAP_EV, F.PIPE_BANK_CTRL_ARM, F.PIPE_BANK_CTRL_VERIFY, F.PIPE_BANK_CTRL_VERIFY_BANK, F.PIPE_BANK_CTRL_DISARM]⟩,
  ⟨"PIPE_SWAP_LINE", 0x30014, 0, 1, none, false,
    [F.PIPE_SWAP_LINE_LINE]⟩,
  ⟨"PIPE_BANK_STATUS", 0x30018, 0, 1, none, false,
    [F.PIPE_BANK_STATUS_ACTIVE, F.PIPE_BANK_STATUS_ARMED, F.PIPE_BANK_STATUS_PENDING, F.PIPE_BANK_STATUS_SWAP_DONE, F.PIPE_BANK_STATUS_SWAP_REFUSED, F.PIPE_BANK_STATUS_VERIFY_BUSY, F.PIPE_BANK_STATUS_MERGED]⟩,
  ⟨"PIPE_SWAP_AT", 0x3001C, 0, 1, none, false,
    [F.PIPE_SWAP_AT_LINE]⟩,
  ⟨"PIPE_KERNEL_CFG", 0x30020, 0, 1, none, true,
    [F.PIPE_KERNEL_CFG_WORDS, F.PIPE_KERNEL_CFG_EN, F.PIPE_KERNEL_CFG_BUDGET]⟩,
  ⟨"PIPE_KERNEL_OVERRUN_CNT", 0x30024, 0, 1, none, false,
    [F.PIPE_KERNEL_OVERRUN_CNT_COUNT]⟩,
  ⟨"PIPE_SAT_CNT", 0x30028, 0, 1, none, false,
    [F.PIPE_SAT_CNT_COUNT]⟩,
  ⟨"PIPE_UNDER_CNT", 0x3002C, 0, 1, none, false,
    [F.PIPE_UNDER_CNT_COUNT]⟩,
  ⟨"PIPE_GAIN_CLAMP_CNT", 0x30030, 0, 1, none, false,
    [F.PIPE_GAIN_CLAMP_CNT_COUNT]⟩,
  ⟨"PIPE_COEF_CLAMP_CNT", 0x30034, 0, 1, none, false,
    [F.PIPE_COEF_CLAMP_CNT_COUNT]⟩,
  ⟨"PIPE_ALIGN_CFG", 0x30040, 0, 1, none, true,
    [F.PIPE_ALIGN_CFG_GRID, F.PIPE_ALIGN_CFG_SEAM_DIR, F.PIPE_ALIGN_CFG_SKEW_EN, F.PIPE_ALIGN_CFG_CONF_MIN]⟩,
  ⟨"PIPE_SEAM_MARGIN", 0x30044, 0, 1, none, true,
    [F.PIPE_SEAM_MARGIN_MARGIN]⟩,
  ⟨"PIPE_ALIGN_STATUS", 0x30048, 0, 1, none, false,
    [F.PIPE_ALIGN_STATUS_LAT, F.PIPE_ALIGN_STATUS_PRIME, F.PIPE_ALIGN_STATUS_FAIL_TILE, F.PIPE_ALIGN_STATUS_LINE_REC_OVER, F.PIPE_ALIGN_STATUS_ROW_REC_OVER, F.PIPE_ALIGN_STATUS_COL_OVER, F.PIPE_ALIGN_STATUS_GEOM_RANGE]⟩,
  ⟨"PIPE_SEAM_FALLBACK_CNT", 0x3004C, 0, 1, none, false,
    [F.PIPE_SEAM_FALLBACK_CNT_COUNT]⟩,
  ⟨"PIPE_RESAMPLE_CLAMP_CNT", 0x30050, 0, 1, none, false,
    [F.PIPE_RESAMPLE_CLAMP_CNT_COUNT]⟩,
  ⟨"PIPE_EQX_CFG", 0x30060, 0, 1, none, true,
    [F.PIPE_EQX_CFG_DUST_PPT, F.PIPE_EQX_CFG_DUST_RUN, F.PIPE_EQX_CFG_MAX_NEW_DEFECT, F.PIPE_EQX_CFG_SETTLE]⟩,
  ⟨"PIPE_EQX_MIN", 0x30064, 0, 1, none, true,
    [F.PIPE_EQX_MIN_MIN_SIGNAL]⟩,
  ⟨"PIPE_EQX_STRIP_RG", 0x30068, 0, 1, none, true,
    [F.PIPE_EQX_STRIP_RG_REFL_RED, F.PIPE_EQX_STRIP_RG_REFL_GRN]⟩,
  ⟨"PIPE_EQX_STRIP_BN", 0x3006C, 0, 1, none, true,
    [F.PIPE_EQX_STRIP_BN_REFL_BLU, F.PIPE_EQX_STRIP_BN_REFL_NIR]⟩,
  ⟨"PIPE_EQX_AXIS", 0x30070, 0, 1, none, true,
    [F.PIPE_EQX_AXIS_AXIS, F.PIPE_EQX_AXIS_EN]⟩,
  ⟨"PIPE_EQX_POS", 0x30074, 0, 1, none, true,
    [F.PIPE_EQX_POS_POS]⟩,
  ⟨"PIPE_EQX_PARK", 0x30078, 0, 1, none, true,
    [F.PIPE_EQX_PARK_POS]⟩,
  ⟨"PIPE_EQX_WIGGLE", 0x3007C, 0, 1, none, true,
    [F.PIPE_EQX_WIGGLE_STEPS]⟩,
  ⟨"PIPE_EQX_STATUS", 0x30080, 0, 1, none, false,
    [F.PIPE_EQX_STATUS_BUSY, F.PIPE_EQX_STATUS_RESULT, F.PIPE_EQX_STATUS_REASON, F.PIPE_EQX_STATUS_FALLBACK]⟩,
  ⟨"PIPE_EQX_DUST_CNT", 0x30084, 0, 1, none, false,
    [F.PIPE_EQX_DUST_CNT_COUNT]⟩,
  ⟨"PIPE_EQX_TCAL", 0x30088, 0, 1, none, false,
    [F.PIPE_EQX_TCAL_MIN, F.PIPE_EQX_TCAL_MAX]⟩,
  ⟨"PIPE_ALIGN_TOL", 0x3008C, 0, 1, none, true,
    [F.PIPE_ALIGN_TOL_Y_TOL, F.PIPE_ALIGN_TOL_X_TOL]⟩,
  ⟨"PIPE_DRIFT_STATUS", 0x30090, 0, 1, none, false,
    [F.PIPE_DRIFT_STATUS_TILES]⟩,
  ⟨"PIPE_CMXk", 0x300A0, 4, 8, none, true,
    [F.PIPE_CMXk_LO, F.PIPE_CMXk_HI]⟩,
  ⟨"PIPE_COFF_RG", 0x300C0, 0, 1, none, true,
    [F.PIPE_COFF_RG_RED, F.PIPE_COFF_RG_GRN]⟩,
  ⟨"PIPE_COFF_BN", 0x300C4, 0, 1, none, true,
    [F.PIPE_COFF_BN_BLU, F.PIPE_COFF_BN_NIR]⟩,
  ⟨"PIPE_LUT_CFG", 0x300C8, 0, 1, none, true,
    [F.PIPE_LUT_CFG_EN]⟩,
  ⟨"PIPE_LUT_ADDR", 0x300CC, 0, 1, none, false,
    [F.PIPE_LUT_ADDR_INDEX, F.PIPE_LUT_ADDR_CH]⟩,
  ⟨"PIPE_LUT_DATA", 0x300D0, 0, 1, none, false,
    [F.PIPE_LUT_DATA_ENTRIES]⟩,
  ⟨"PIPE_CMX_CLAMP_CNT", 0x300D4, 0, 1, none, false,
    [F.PIPE_CMX_CLAMP_CNT_COUNT]⟩,
  ⟨"PIPE_RENDm_CFG", 0x300E0, 16, 2, none, true,
    [F.PIPE_RENDm_CFG_EN, F.PIPE_RENDm_CFG_RES, F.PIPE_RENDm_CFG_CHAN, F.PIPE_RENDm_CFG_DEPTH, F.PIPE_RENDm_CFG_SRC]⟩,
  ⟨"PIPE_RENDm_X0", 0x300E4, 16, 2, none, true,
    [F.PIPE_RENDm_X0_COL]⟩,
  ⟨"PIPE_RENDm_W", 0x300E8, 16, 2, none, true,
    [F.PIPE_RENDm_W_PIXELS]⟩]

/-- The SCHED block. -/
def regsSched : List Reg := [
  ⟨"SCHED_CTRL", 0x40000, 0, 1, none, true,
    [F.SCHED_CTRL_MASTER, F.SCHED_CTRL_PHASE_REL, F.SCHED_CTRL_TIME_MODE]⟩,
  ⟨"SCHED_STATUS", 0x40004, 0, 1, none, false,
    [F.SCHED_STATUS_TRACKING, F.SCHED_STATUS_LOW_RATE, F.SCHED_STATUS_REVERSE, F.SCHED_STATUS_STILL, F.SCHED_STATUS_OVERSPEED_SEEN, F.SCHED_STATUS_SETTLE_SHORT, F.SCHED_STATUS_MASTER_QUAD_ERR, F.SCHED_STATUS_CLAMPED, F.SCHED_STATUS_TB_LOCK]⟩,
  ⟨"LINE_PITCH_LO", 0x40008, 0, 1, none, true,
    [F.LINE_PITCH_LO_FRAC]⟩,
  ⟨"LINE_PITCH_HI", 0x4000C, 0, 1, none, true,
    [F.LINE_PITCH_HI_INT]⟩,
  ⟨"LINE_PHASE_LO", 0x40010, 0, 1, none, true,
    [F.LINE_PHASE_LO_PHASE]⟩,
  ⟨"LINE_PHASE_HI", 0x40014, 0, 1, none, true,
    [F.LINE_PHASE_HI_PHASE]⟩,
  ⟨"EXPO_NS", 0x40018, 0, 1, none, true,
    [F.EXPO_NS_NS]⟩,
  ⟨"SCHED_LUM", 0x4001C, 0, 1, none, true,
    [F.SCHED_LUM_LEAD_NS, F.SCHED_LUM_GATE_W]⟩,
  ⟨"LUM_KW_NS", 0x40020, 0, 1, none, true,
    [F.LUM_KW_NS_NS]⟩,
  ⟨"SCHED_PLL", 0x40024, 0, 1, none, true,
    [F.SCHED_PLL_FN_HZ]⟩,
  ⟨"SCHED_REV", 0x40028, 0, 1, none, true,
    [F.SCHED_REV_SETTLE_PC, F.SCHED_REV_REV_PC]⟩,
  ⟨"SCHED_TMIN", 0x4002C, 0, 1, none, false,
    [F.SCHED_TMIN_NS]⟩,
  ⟨"TIME_PERIOD_NS", 0x40030, 0, 1, none, true,
    [F.TIME_PERIOD_NS_NS]⟩,
  ⟨"SCHED_LINE", 0x40034, 0, 1, none, false,
    [F.SCHED_LINE_LINE]⟩,
  ⟨"SCHED_EPOCH", 0x40038, 0, 1, none, false,
    [F.SCHED_EPOCH_EPOCH]⟩,
  ⟨"SCHED_NEXT_RISE", 0x4003C, 0, 1, none, false,
    [F.SCHED_NEXT_RISE_NS]⟩,
  ⟨"SCHED_POS_LO", 0x40040, 0, 1, none, false,
    [F.SCHED_POS_LO_POS]⟩,
  ⟨"SCHED_POS_HI", 0x40044, 0, 1, none, false,
    [F.SCHED_POS_HI_POS]⟩,
  ⟨"SCHED_VEL", 0x40048, 0, 1, none, false,
    [F.SCHED_VEL_VEL]⟩,
  ⟨"SCHED_OVERSPEED_CNT", 0x4004C, 0, 1, none, false,
    [F.SCHED_OVERSPEED_CNT_COUNT]⟩,
  ⟨"SCHED_PLACE_CLAMP_CNT", 0x40050, 0, 1, none, false,
    [F.SCHED_PLACE_CLAMP_CNT_COUNT]⟩,
  ⟨"TB_NOW_LO", 0x40060, 0, 1, none, false,
    [F.TB_NOW_LO_NS]⟩,
  ⟨"TB_NOW_HI", 0x40064, 0, 1, none, false,
    [F.TB_NOW_HI_NS]⟩,
  ⟨"CLK_CFG", 0x40070, 0, 1, none, true,
    [F.CLK_CFG_CORE_SSC, F.CLK_CFG_BREF_SSC, F.CLK_CFG_CTRL_SSC]⟩,
  ⟨"ENC_CFG", 0x40100, 32, 8, none, true,
    [F.ENC_CFG_FILT, F.ENC_CFG_INVERT_DIR, F.ENC_CFG_Z_EN, F.ENC_CFG_Z_POL, F.ENC_CFG_ENABLE]⟩,
  ⟨"ENC_STATUS", 0x40104, 32, 8, none, false,
    [F.ENC_STATUS_LEVEL, F.ENC_STATUS_INDEX_SEEN, F.ENC_STATUS_QUAD_ERR, F.ENC_STATUS_DIR]⟩,
  ⟨"ENC_POS_LO", 0x40108, 32, 8, none, false,
    [F.ENC_POS_LO_POS]⟩,
  ⟨"ENC_POS_HI", 0x4010C, 32, 8, none, false,
    [F.ENC_POS_HI_POS]⟩,
  ⟨"ENC_TS_LO", 0x40110, 32, 8, none, false,
    [F.ENC_TS_LO_TS]⟩,
  ⟨"ENC_INDEX_POS_LO", 0x40114, 32, 8, none, false,
    [F.ENC_INDEX_POS_LO_POS]⟩,
  ⟨"ENC_INDEX_POS_HI", 0x40118, 32, 8, none, false,
    [F.ENC_INDEX_POS_HI_POS]⟩,
  ⟨"ENC_QUAD_ERR_CNT", 0x4011C, 32, 8, none, false,
    [F.ENC_QUAD_ERR_CNT_COUNT]⟩]

/-- The LUM block. -/
def regsLum : List Reg := [
  ⟨"SECTION_SEL", 0x50000, 0, 1, none, true,
    [F.SECTION_SEL_SEL]⟩,
  ⟨"LUM_CFG", 0x50004, 0, 1, none, true,
    [F.LUM_CFG_PWM_BITS, F.LUM_CFG_DIAG_EN]⟩,
  ⟨"LUM_DERATE", 0x50008, 0, 1, none, true,
    [F.LUM_DERATE_KNEE_C, F.LUM_DERATE_FLOOR_C, F.LUM_DERATE_FLOOR_PCT, F.LUM_DERATE_SLOPE]⟩,
  ⟨"LUM_HEADROOM", 0x5000C, 0, 1, none, true,
    [F.LUM_HEADROOM_TARGET_MV]⟩,
  ⟨"LUM_LAMP_FAULT", 0x50010, 0, 1, none, true,
    [F.LUM_LAMP_FAULT_FRAC]⟩,
  ⟨"LUM_CHAIN_CFG", 0x50040, 32, 4, none, true,
    [F.LUM_CHAIN_CFG_COUNT, F.LUM_CHAIN_CFG_VREF_STEP]⟩,
  ⟨"LUM_CHAIN_STATUS", 0x50044, 32, 4, none, false,
    [F.LUM_CHAIN_STATUS_FOUND, F.LUM_CHAIN_STATUS_COUNT_MISMATCH, F.LUM_CHAIN_STATUS_RING_ERR, F.LUM_CHAIN_STATUS_REFRESHING, F.LUM_CHAIN_STATUS_MARK_ERR]⟩,
  ⟨"LUM_VREF", 0x50048, 32, 4, none, false,
    [F.LUM_VREF_CODE]⟩,
  ⟨"LUM_VREF_LIM", 0x5004C, 32, 4, none, true,
    [F.LUM_VREF_LIM_MIN, F.LUM_VREF_LIM_MAX]⟩,
  ⟨"LUM_LATCH_LINE", 0x50050, 32, 4, none, false,
    [F.LUM_LATCH_LINE_LINE]⟩,
  ⟨"LUM_REFRESH_SEQ", 0x50054, 32, 4, none, false,
    [F.LUM_REFRESH_SEQ_SEQ]⟩,
  ⟨"LUM_RING_ERR_CNT", 0x50058, 32, 4, none, false,
    [F.LUM_RING_ERR_CNT_COUNT]⟩,
  ⟨"LUM_SEC_DUTY0", 0x50100, 0, 1, some .sect, false,
    [F.LUM_SEC_DUTY0_FRONT, F.LUM_SEC_DUTY0_REAR]⟩,
  ⟨"LUM_SEC_DUTY1", 0x50104, 0, 1, some .sect, false,
    [F.LUM_SEC_DUTY1_NIR]⟩,
  ⟨"LUM_SEC_STATUS", 0x50108, 0, 1, some .sect, false,
    [F.LUM_SEC_STATUS_SLOT, F.LUM_SEC_STATUS_ABSENT]⟩,
  ⟨"LUM_SEC_DERATE", 0x5010C, 0, 1, some .sect, false,
    [F.LUM_SEC_DERATE_FACTOR]⟩]

/-- The MOT block. -/
def regsMot : List Reg := [
  ⟨"AXIS_SEL", 0x60000, 0, 1, none, true,
    [F.AXIS_SEL_SEL]⟩,
  ⟨"MOT_STATUS", 0x60004, 0, 1, none, false,
    [F.MOT_STATUS_ESTOP, F.MOT_STATUS_ESTOP_LATCH]⟩,
  ⟨"MOT_CFG", 0x60008, 0, 1, none, true,
    [F.MOT_CFG_ESTOP_DRV_DIS]⟩,
  ⟨"MOT_GRP_STATUS", 0x60040, 16, 4, none, false,
    [F.MOT_GRP_STATUS_QFILL, F.MOT_GRP_STATUS_MOVING, F.MOT_GRP_STATUS_HALTING, F.MOT_GRP_STATUS_PACED, F.MOT_GRP_STATUS_DONE_TAG]⟩,
  ⟨"MOT_GRP_CFG", 0x60044, 16, 4, none, true,
    [F.MOT_GRP_CFG_DONE_EV, F.MOT_GRP_CFG_DONE_EV_EN]⟩,
  ⟨"MOT_GRP_VSTART", 0x60048, 16, 4, none, true,
    [F.MOT_GRP_VSTART_RATE]⟩,
  ⟨"MOT_GRP_CORNER", 0x6004C, 16, 4, none, true,
    [F.MOT_GRP_CORNER_TOL]⟩,
  ⟨"SCAN_CFG", 0x60080, 0, 1, none, true,
    [F.SCAN_CFG_GROUP, F.SCAN_CFG_STALL_RETRY]⟩,
  ⟨"SCAN_VMIN", 0x60084, 0, 1, none, true,
    [F.SCAN_VMIN_PCS]⟩,
  ⟨"SCAN_VMAX", 0x60088, 0, 1, none, true,
    [F.SCAN_VMAX_PCS]⟩,
  ⟨"SCAN_MARK0", 0x6008C, 0, 1, none, true,
    [F.SCAN_MARK0_PACE_LO, F.SCAN_MARK0_PACE_HI]⟩,
  ⟨"SCAN_MARK1", 0x60090, 0, 1, none, true,
    [F.SCAN_MARK1_RESUME, F.SCAN_MARK1_HOLD]⟩,
  ⟨"SCAN_BACKLASH", 0x60094, 0, 1, none, true,
    [F.SCAN_BACKLASH_PC]⟩,
  ⟨"SCAN_ACC", 0x60098, 0, 1, none, true,
    [F.SCAN_ACC_A, F.SCAN_ACC_J]⟩,
  ⟨"SCAN_CAP", 0x6009C, 0, 1, none, false,
    [F.SCAN_CAP_LINES]⟩,
  ⟨"SCAN_FILL", 0x600A0, 0, 1, none, false,
    [F.SCAN_FILL_F]⟩,
  ⟨"SCAN_STATUS", 0x600A4, 0, 1, none, false,
    [F.SCAN_STATUS_PHASE, F.SCAN_STATUS_COLD, F.SCAN_STATUS_CAUSE]⟩,
  ⟨"SCAN_LS", 0x600A8, 0, 1, none, false,
    [F.SCAN_LS_LINE]⟩,
  ⟨"SCAN_NR", 0x600AC, 0, 1, none, false,
    [F.SCAN_NR_LINE]⟩,
  ⟨"SCAN_VCMD", 0x600B0, 0, 1, none, false,
    [F.SCAN_VCMD_PCS]⟩,
  ⟨"SCAN_BACKOFF", 0x600B4, 0, 1, none, false,
    [F.SCAN_BACKOFF_PC]⟩,
  ⟨"SCAN_JOIN", 0x600B8, 0, 1, none, false,
    [F.SCAN_JOIN_ERR]⟩,
  ⟨"SCAN_HOLD_CNT", 0x600BC, 0, 1, none, false,
    [F.SCAN_HOLD_CNT_COUNT]⟩,
  ⟨"MOT_GRP_HOME_A", 0x600C0, 8, 4, none, true,
    [F.MOT_GRP_HOME_A_A]⟩,
  ⟨"MOT_GRP_DONE", 0x600C4, 8, 4, none, false,
    [F.MOT_GRP_DONE_COUNT]⟩,
  ⟨"MOT_AXIS_CFG", 0x60100, 0, 1, some .axis, true,
    [F.MOT_AXIS_CFG_GROUP, F.MOT_AXIS_CFG_MEDIA, F.MOT_AXIS_CFG_DIR_INV, F.MOT_AXIS_CFG_EN_POL, F.MOT_AXIS_CFG_STEP_INV, F.MOT_AXIS_CFG_ENC_EN, F.MOT_AXIS_CFG_ENC]⟩,
  ⟨"MOT_AXIS_TIMING", 0x60104, 0, 1, some .axis, true,
    [F.MOT_AXIS_TIMING_PW, F.MOT_AXIS_TIMING_DIR_SETUP]⟩,
  ⟨"MOT_AXIS_IREF", 0x60108, 0, 1, some .axis, true,
    [F.MOT_AXIS_IREF_RUN, F.MOT_AXIS_IREF_HOLD]⟩,
  ⟨"MOT_AXIS_BOOST", 0x6010C, 0, 1, some .axis, true,
    [F.MOT_AXIS_BOOST_BOOST, F.MOT_AXIS_BOOST_HOLD_DELAY]⟩,
  ⟨"MOT_AXIS_RATIO", 0x60110, 0, 1, some .axis, true,
    [F.MOT_AXIS_RATIO_RATIO]⟩,
  ⟨"MOT_AXIS_WINDOW", 0x60114, 0, 1, some .axis, true,
    [F.MOT_AXIS_WINDOW_BOOST_TH, F.MOT_AXIS_WINDOW_WINDOW]⟩,
  ⟨"MOT_AXIS_POS_LO", 0x60118, 0, 1, some .axis, false,
    [F.MOT_AXIS_POS_LO_POS]⟩,
  ⟨"MOT_AXIS_POS_HI", 0x6011C, 0, 1, some .axis, false,
    [F.MOT_AXIS_POS_HI_POS]⟩,
  ⟨"MOT_AXIS_MSTEP", 0x60120, 0, 1, some .axis, true,
    [F.MOT_AXIS_MSTEP_INDEX, F.MOT_AXIS_MSTEP_CYCLE]⟩,
  ⟨"MOT_AXIS_FERR", 0x60124, 0, 1, some .axis, false,
    [F.MOT_AXIS_FERR_E]⟩,
  ⟨"MOT_AXIS_STATUS", 0x60128, 0, 1, some .axis, false,
    [F.MOT_AXIS_STATUS_ENABLED, F.MOT_AXIS_STATUS_MOVING, F.MOT_AXIS_STATUS_HOMING, F.MOT_AXIS_STATUS_HOMED, F.MOT_AXIS_STATUS_STALL, F.MOT_AXIS_STATUS_POSITION_LOST, F.MOT_AXIS_STATUS_MICROSTEP_UNKNOWN, F.MOT_AXIS_STATUS_POS_MISMATCH, F.MOT_AXIS_STATUS_HOME_FAIL, F.MOT_AXIS_STATUS_BOOSTING, F.MOT_AXIS_STATUS_IREF]⟩,
  ⟨"MOT_AXIS_HOME", 0x6012C, 0, 1, some .axis, true,
    [F.MOT_AXIS_HOME_INPUT, F.MOT_AXIS_HOME_POL, F.MOT_AXIS_HOME_DIR]⟩,
  ⟨"MOT_AXIS_HOME_V", 0x60130, 0, 1, some .axis, true,
    [F.MOT_AXIS_HOME_V_FAST, F.MOT_AXIS_HOME_V_SLOW]⟩,
  ⟨"MOT_AXIS_HOME_MAX", 0x60134, 0, 1, some .axis, true,
    [F.MOT_AXIS_HOME_MAX_STEPS]⟩,
  ⟨"MOT_AXIS_HOME_POS", 0x60138, 0, 1, some .axis, true,
    [F.MOT_AXIS_HOME_POS_POS]⟩,
  ⟨"MOT_AXIS_STEPS", 0x6013C, 0, 1, some .axis, false,
    [F.MOT_AXIS_STEPS_COUNT]⟩]

/-- The MON block. -/
def regsMon : List Reg := [
  ⟨"MSEQ_SEL", 0x70000, 0, 1, none, true,
    [F.MSEQ_SEL_SEL]⟩,
  ⟨"MON_CFG", 0x70004, 0, 1, none, true,
    [F.MON_CFG_BRK_LO, F.MON_CFG_BRK_HI, F.MON_CFG_BRK_CLR]⟩,
  ⟨"MON_BRK_LIVE", 0x70008, 0, 1, none, false,
    [F.MON_BRK_LIVE_AIN]⟩,
  ⟨"MON_BRK_LATCH", 0x7000C, 0, 1, none, false,
    [F.MON_BRK_LATCH_AIN]⟩,
  ⟨"MON_URG_CTRL", 0x70010, 0, 1, none, false,
    [F.MON_URG_CTRL_HOLDUP, F.MON_URG_CTRL_HEADROOM, F.MON_URG_CTRL_CHAIN]⟩,
  ⟨"MON_CHAIN_SUP", 0x70014, 0, 1, none, true,
    [F.MON_CHAIN_SUP_INP]⟩,
  ⟨"MON_EX_STATUS", 0x70018, 0, 1, none, false,
    [F.MON_EX_STATUS_ON, F.MON_EX_STATUS_REVERSED, F.MON_EX_STATUS_SHORT]⟩,
  ⟨"MON_URG_HOLDUP_CFG", 0x7001C, 0, 1, none, true,
    [F.MON_URG_HOLDUP_CFG_INP, F.MON_URG_HOLDUP_CFG_INN, F.MON_URG_HOLDUP_CFG_GAIN, F.MON_URG_HOLDUP_CFG_OSR, F.MON_URG_HOLDUP_CFG_CONV]⟩,
  ⟨"MON_EX_CFGx", 0x70020, 4, 8, none, true,
    [F.MON_EX_CFGx_HOLD_ON]⟩,
  ⟨"MON_CONV_CFG", 0x70040, 32, 4, none, true,
    [F.MON_CONV_CFG_LEN, F.MON_CONV_CFG_RUN]⟩,
  ⟨"MON_CONV_STATUS", 0x70044, 32, 4, none, false,
    [F.MON_CONV_STATUS_ENTRY, F.MON_CONV_STATUS_URGENT, F.MON_CONV_STATUS_SETTLING, F.MON_CONV_STATUS_WAIT_EX, F.MON_CONV_STATUS_OVERRUN]⟩,
  ⟨"MON_DATA", 0x70048, 32, 4, none, false,
    [F.MON_DATA_RESULT, F.MON_DATA_ENTRY, F.MON_DATA_BREAK, F.MON_DATA_NEW, F.MON_DATA_CLIP]⟩,
  ⟨"MON_FORCE", 0x7004C, 32, 4, none, false,
    [F.MON_FORCE_OUTPUT, F.MON_FORCE_SETTLING, F.MON_FORCE_URGENT]⟩,
  ⟨"MON_URG_DATA", 0x70050, 32, 4, none, false,
    [F.MON_URG_DATA_RESULT, F.MON_URG_DATA_KIND, F.MON_URG_DATA_BREAK, F.MON_URG_DATA_NEW, F.MON_URG_DATA_CLIP]⟩,
  ⟨"MON_OVERRUN_CNT", 0x70054, 32, 4, none, false,
    [F.MON_OVERRUN_CNT_COUNT]⟩,
  ⟨"MON_URG_HEAD_CFG", 0x700C0, 0, 1, none, true,
    [F.MON_URG_HEAD_CFG_GAIN, F.MON_URG_HEAD_CFG_OSR, F.MON_URG_HEAD_CFG_CONV, F.MON_URG_HEAD_CFG_SUP_MIN]⟩,
  ⟨"MON_SEQ_IN", 0x70100, 0, 1, some .mseq, true,
    [F.MON_SEQ_IN_INP, F.MON_SEQ_IN_INN, F.MON_SEQ_IN_GAIN, F.MON_SEQ_IN_OSR]⟩,
  ⟨"MON_SEQ_EX", 0x70104, 0, 1, some .mseq, true,
    [F.MON_SEQ_EX_REF_EX, F.MON_SEQ_EX_EX, F.MON_SEQ_EX_EX_USE, F.MON_SEQ_EX_CHOP, F.MON_SEQ_EX_LEAD]⟩,
  ⟨"MON_RTD_CFG", 0x70200, 16, 8, none, true,
    [F.MON_RTD_CFG_CONV, F.MON_RTD_CFG_ENTRY_LEAD, F.MON_RTD_CFG_ENTRY_MAIN, F.MON_RTD_CFG_TYPE, F.MON_RTD_CFG_EN]⟩,
  ⟨"MON_RTD_POS", 0x70204, 16, 8, none, true,
    [F.MON_RTD_POS_POS]⟩,
  ⟨"MON_RTD_RREF", 0x70208, 16, 8, none, true,
    [F.MON_RTD_RREF_MOHM]⟩,
  ⟨"MON_RTD_T", 0x7020C, 16, 8, none, false,
    [F.MON_RTD_T_T, F.MON_RTD_T_STALE, F.MON_RTD_T_NONE]⟩]

/-- The QDR block. -/
def regsQdr : List Reg := [
  ⟨"QCH_SEL", 0x80000, 0, 1, none, true,
    [F.QCH_SEL_SEL]⟩,
  ⟨"QDR_CFG", 0x80004, 0, 1, none, true,
    [F.QDR_CFG_DEVICES, F.QDR_CFG_DENSITY, F.QDR_CFG_RATE]⟩,
  ⟨"QDR_STATUS", 0x80008, 0, 1, none, false,
    [F.QDR_STATUS_USABLE, F.QDR_STATUS_SCRUBBING, F.QDR_STATUS_SCRUB_PASSES]⟩,
  ⟨"QDR_SIZE", 0x8000C, 0, 1, none, false,
    [F.QDR_SIZE_MIB]⟩,
  ⟨"QDR_BW_USABLE", 0x80010, 0, 1, none, false,
    [F.QDR_BW_USABLE_MBPS]⟩,
  ⟨"QDR_BW_ADMIT", 0x80014, 0, 1, none, false,
    [F.QDR_BW_ADMIT_MBPS]⟩,
  ⟨"QDR_ELASTIC_BASE", 0x80018, 0, 1, none, false,
    [F.QDR_ELASTIC_BASE_ADDR]⟩,
  ⟨"QDR_ELASTIC_SIZE", 0x8001C, 0, 1, none, false,
    [F.QDR_ELASTIC_SIZE_BYTES]⟩,
  ⟨"QDR_SCRUB", 0x80020, 0, 1, none, true,
    [F.QDR_SCRUB_EN, F.QDR_SCRUB_PERIOD_S]⟩,
  ⟨"QCH_STATUS", 0x80100, 0, 1, some .qch, false,
    [F.QCH_STATUS_TRAINED, F.QCH_STATUS_TRAIN_FAIL, F.QCH_STATUS_FAIL_CAUSE, F.QCH_STATUS_TRACK_LIMIT]⟩,
  ⟨"QCH_CE_CNT", 0x80104, 0, 1, some .qch, false,
    [F.QCH_CE_CNT_COUNT]⟩,
  ⟨"QCH_UE_CNT", 0x80108, 0, 1, some .qch, false,
    [F.QCH_UE_CNT_COUNT]⟩,
  ⟨"QCH_AP_ERR_CNT", 0x8010C, 0, 1, some .qch, false,
    [F.QCH_AP_ERR_CNT_COUNT]⟩,
  ⟨"QCH_UE_ADDR", 0x80110, 0, 1, some .qch, false,
    [F.QCH_UE_ADDR_ADDR]⟩,
  ⟨"QCH_CE_ADDR", 0x80114, 0, 1, some .qch, false,
    [F.QCH_CE_ADDR_ADDR]⟩,
  ⟨"QCH_CE_SYN", 0x80118, 0, 1, some .qch, false,
    [F.QCH_CE_SYN_SYN]⟩,
  ⟨"QCH_DESKEW", 0x8011C, 0, 1, some .qch, false,
    [F.QCH_DESKEW_READ_MIN, F.QCH_DESKEW_READ_MAX, F.QCH_DESKEW_WRITE_MIN, F.QCH_DESKEW_WRITE_MAX]⟩]

/-- The BMV block. -/
def regsBmv : List Reg := [
  ⟨"BMV_CFG", 0x90004, 0, 1, none, true,
    [F.BMV_CFG_RETRY, F.BMV_CFG_JOB_RATE]⟩,
  ⟨"BMV_ENGINE", 0x90008, 0, 1, none, false,
    [F.BMV_ENGINE_CH, F.BMV_ENGINE_BUSY]⟩,
  ⟨"BMV_SRC_LO", 0x90100, 128, 8, none, false,
    [F.BMV_SRC_LO_ADDR]⟩,
  ⟨"BMV_SRC_HI", 0x90104, 128, 8, none, false,
    [F.BMV_SRC_HI_ADDR]⟩,
  ⟨"BMV_DST_LO", 0x90108, 128, 8, none, false,
    [F.BMV_DST_LO_ADDR]⟩,
  ⟨"BMV_DST_HI", 0x9010C, 128, 8, none, false,
    [F.BMV_DST_HI_ADDR]⟩,
  ⟨"BMV_LEN", 0x90110, 128, 8, none, false,
    [F.BMV_LEN_BLOCKS]⟩,
  ⟨"BMV_CTRL", 0x90114, 128, 8, none, false,
    [F.BMV_CTRL_OP, F.BMV_CTRL_REPEAT, F.BMV_CTRL_EV, F.BMV_CTRL_EV_EN, F.BMV_CTRL_GO, F.BMV_CTRL_ABORT]⟩,
  ⟨"BMV_SRC_STRIDE", 0x90118, 128, 8, none, false,
    [F.BMV_SRC_STRIDE_BYTES]⟩,
  ⟨"BMV_DST_STRIDE", 0x9011C, 128, 8, none, false,
    [F.BMV_DST_STRIDE_BYTES]⟩,
  ⟨"BMV_FILL_LO", 0x90120, 128, 8, none, false,
    [F.BMV_FILL_LO_DATA]⟩,
  ⟨"BMV_FILL_HI", 0x90124, 128, 8, none, false,
    [F.BMV_FILL_HI_DATA]⟩,
  ⟨"BMV_STATUS", 0x90128, 128, 8, none, false,
    [F.BMV_STATUS_STATE, F.BMV_STATUS_ERR, F.BMV_STATUS_MISMATCH, F.BMV_STATUS_RETRIES, F.BMV_STATUS_DONE_CNT]⟩,
  ⟨"BMV_REMAIN", 0x9012C, 128, 8, none, false,
    [F.BMV_REMAIN_BLOCKS]⟩,
  ⟨"BMV_REMAIN_PASS", 0x90130, 128, 8, none, false,
    [F.BMV_REMAIN_PASS_PASSES]⟩,
  ⟨"BMV_FAIL_LO", 0x90134, 128, 8, none, false,
    [F.BMV_FAIL_LO_ADDR]⟩,
  ⟨"BMV_FAIL_HI", 0x90138, 128, 8, none, false,
    [F.BMV_FAIL_HI_ADDR]⟩,
  ⟨"BMV_CMP_CNT", 0x9013C, 128, 8, none, false,
    [F.BMV_CMP_CNT_COUNT]⟩,
  ⟨"BMV_CMP_ADDR_LO", 0x90140, 128, 8, none, false,
    [F.BMV_CMP_ADDR_LO_ADDR]⟩,
  ⟨"BMV_CMP_ADDR_HI", 0x90144, 128, 8, none, false,
    [F.BMV_CMP_ADDR_HI_ADDR]⟩]

/-- The NET block. -/
def regsNet : List Reg := [
  ⟨"PORT_SEL", 0xA0000, 0, 1, none, true,
    [F.PORT_SEL_SEL]⟩,
  ⟨"NET_UDP_PORT", 0xA0004, 0, 1, none, true,
    [F.NET_UDP_PORT_PORT]⟩,
  ⟨"NET_QOS", 0xA0008, 0, 1, none, true,
    [F.NET_QOS_DSCP_CTRL, F.NET_QOS_DSCP_OWNER, F.NET_QOS_DSCP_OBS, F.NET_QOS_PCP_CTRL, F.NET_QOS_PCP_OWNER]⟩,
  ⟨"NET_PORT_CFG", 0xA0100, 0, 1, some .port, true,
    [F.NET_PORT_CFG_MODE, F.NET_PORT_CFG_FEC_EN, F.NET_PORT_CFG_VLAN_EN, F.NET_PORT_CFG_PCP_OBS]⟩,
  ⟨"NET_PORT_VLAN", 0xA0104, 0, 1, some .port, true,
    [F.NET_PORT_VLAN_VID]⟩,
  ⟨"NET_MAC_LO", 0xA0108, 0, 1, some .port, true,
    [F.NET_MAC_LO_MAC]⟩,
  ⟨"NET_MAC_HI", 0xA010C, 0, 1, some .port, true,
    [F.NET_MAC_HI_MAC]⟩,
  ⟨"NET_IPV4", 0xA0110, 0, 1, some .port, true,
    [F.NET_IPV4_ADDR]⟩,
  ⟨"NET_IPV6_k", 0xA0114, 4, 4, some .port, true,
    [F.NET_IPV6_k_ADDR]⟩,
  ⟨"NET_PORT_STATUS", 0xA0124, 0, 1, some .port, false,
    [F.NET_PORT_STATUS_UP, F.NET_PORT_STATUS_AN_DONE, F.NET_PORT_STATUS_TRAIN_DONE, F.NET_PORT_STATUS_FEC_LOCK, F.NET_PORT_STATUS_DOWN_LATCH, F.NET_PORT_STATUS_PRBS_LOCK]⟩,
  ⟨"NET_PORT_TEST", 0xA0128, 0, 1, some .port, false,
    [F.NET_PORT_TEST_LOOPBACK, F.NET_PORT_TEST_PRBS, F.NET_PORT_TEST_INJECT]⟩,
  ⟨"NET_PORT_ADMIT", 0xA012C, 0, 1, some .port, false,
    [F.NET_PORT_ADMIT_MBPS]⟩,
  ⟨"NET_FEC_CE_CNT", 0xA0130, 0, 1, some .port, false,
    [F.NET_FEC_CE_CNT_COUNT]⟩,
  ⟨"NET_FEC_UE_CNT", 0xA0134, 0, 1, some .port, false,
    [F.NET_FEC_UE_CNT_COUNT]⟩,
  ⟨"NET_PRBS_ERR", 0xA0138, 0, 1, some .port, false,
    [F.NET_PRBS_ERR_COUNT]⟩,
  ⟨"NET_RX_DROP_CNT", 0xA013C, 0, 1, some .port, false,
    [F.NET_RX_DROP_CNT_COUNT]⟩,
  ⟨"NET_LINK_DOWN_CNT", 0xA0140, 0, 1, some .port, false,
    [F.NET_LINK_DOWN_CNT_COUNT]⟩]

/-- The XPT block. -/
def regsXpt : List Reg := [
  ⟨"SESSION_SEL", 0xB0000, 0, 1, none, true,
    [F.SESSION_SEL_SEL]⟩,
  ⟨"XPT_CFG", 0xB0004, 0, 1, none, true,
    [F.XPT_CFG_RETRY_MAX, F.XPT_CFG_REQUIRE_SEAL, F.XPT_CFG_BE_LAG, F.XPT_CFG_RESUME_LAG]⟩,
  ⟨"XPT_TIMERS", 0xB0008, 0, 1, none, true,
    [F.XPT_TIMERS_RTO_US, F.XPT_TIMERS_IDLE_MS]⟩,
  ⟨"XPT_FAILBACK", 0xB000C, 0, 1, none, true,
    [F.XPT_FAILBACK_MS]⟩,
  ⟨"XPT_CE_LINES", 0xB0010, 0, 1, none, false,
    [F.XPT_CE_LINES_LINES]⟩,
  ⟨"XPT_RATE_MAX", 0xB0014, 0, 1, none, false,
    [F.XPT_RATE_MAX_LPS]⟩,
  ⟨"XPT_ADMIT_QDR", 0xB0018, 0, 1, none, false,
    [F.XPT_ADMIT_QDR_MBPS]⟩,
  ⟨"XPT_WIN_FREE", 0xB001C, 0, 1, none, false,
    [F.XPT_WIN_FREE_DESC]⟩,
  ⟨"XPT_SESS_STATUS", 0xB0100, 0, 1, some .session, false,
    [F.XPT_SESS_STATUS_STATE, F.XPT_SESS_STATUS_ROLE, F.XPT_SESS_STATUS_SEALED, F.XPT_SESS_STATUS_STRIPE, F.XPT_SESS_STATUS_SEND_PORT, F.XPT_SESS_STATUS_PATHS]⟩,
  ⟨"XPT_SESS_SUB", 0xB0104, 0, 1, some .session, false,
    [F.XPT_SESS_SUB_REND, F.XPT_SESS_SUB_RESERVED, F.XPT_SESS_SUB_LAG]⟩,
  ⟨"XPT_SESS_ID", 0xB0108, 0, 1, some .session, false,
    [F.XPT_SESS_ID_ID]⟩,
  ⟨"XPT_SESS_LAGNOW", 0xB010C, 0, 1, some .session, false,
    [F.XPT_SESS_LAGNOW_LINES]⟩,
  ⟨"XPT_SESS_WIN", 0xB0110, 0, 1, some .session, false,
    [F.XPT_SESS_WIN_WIN]⟩,
  ⟨"XPT_SESS_LIMIT", 0xB0114, 0, 1, some .session, false,
    [F.XPT_SESS_LIMIT_LIMIT]⟩,
  ⟨"XPT_SESS_RETX_CNT", 0xB0118, 0, 1, some .session, false,
    [F.XPT_SESS_RETX_CNT_COUNT]⟩,
  ⟨"XPT_SESS_THIN_CNT", 0xB011C, 0, 1, some .session, false,
    [F.XPT_SESS_THIN_CNT_COUNT]⟩,
  ⟨"XPT_SESS_GAP_CNT", 0xB0120, 0, 1, some .session, false,
    [F.XPT_SESS_GAP_CNT_COUNT]⟩,
  ⟨"XPT_RX_DROP_CNT", 0xB0124, 0, 1, some .session, false,
    [F.XPT_RX_DROP_CNT_COUNT]⟩,
  ⟨"XPT_AUTH_FAIL_CNT", 0xB0128, 0, 1, some .session, false,
    [F.XPT_AUTH_FAIL_CNT_COUNT]⟩]

/-- The MBUS block. -/
def regsMbus : List Reg := [
  ⟨"MBUS_BMB_CFG", 0xC0000, 0, 1, none, true,
    [F.MBUS_BMB_CFG_SPEED, F.MBUS_BMB_CFG_ALERT_EN]⟩,
  ⟨"MBUS_BMB_STATUS", 0xC0004, 0, 1, none, false,
    [F.MBUS_BMB_STATUS_BUSY, F.MBUS_BMB_STATUS_BUS_FREE, F.MBUS_BMB_STATUS_STUCK, F.MBUS_BMB_STATUS_TIMEOUT, F.MBUS_BMB_STATUS_ARB_FAIL, F.MBUS_BMB_STATUS_ALERT_LIVE]⟩,
  ⟨"MBUS_BMB_ARB", 0xC0008, 0, 1, none, false,
    [F.MBUS_BMB_ARB_BYTE, F.MBUS_BMB_ARB_BIT, F.MBUS_BMB_ARB_RETRIES, F.MBUS_BMB_ARB_ARB_LOST]⟩,
  ⟨"MBUS_BMB_ALERT", 0xC000C, 0, 1, none, false,
    [F.MBUS_BMB_ALERT_ADDR, F.MBUS_BMB_ALERT_VALID, F.MBUS_BMB_ALERT_SPURIOUS]⟩,
  ⟨"MBUS_BMB_ARB_CNT", 0xC0010, 0, 1, none, false,
    [F.MBUS_BMB_ARB_CNT_COUNT]⟩,
  ⟨"MBUS_BMB_NACK_CNT", 0xC0014, 0, 1, none, false,
    [F.MBUS_BMB_NACK_CNT_COUNT]⟩,
  ⟨"MBUS_BMB_CLEAR_CNT", 0xC0018, 0, 1, none, false,
    [F.MBUS_BMB_CLEAR_CNT_COUNT]⟩,
  ⟨"MBUS_BMP_CFG", 0xC0040, 0, 1, none, true,
    [F.MBUS_BMP_CFG_ADDR, F.MBUS_BMP_CFG_PKT_TIMEOUT_MS]⟩,
  ⟨"MBUS_BMP_STATUS", 0xC0044, 0, 1, none, false,
    [F.MBUS_BMP_STATUS_IN_READY, F.MBUS_BMP_STATUS_OUT_AVAIL, F.MBUS_BMP_STATUS_BUSY, F.MBUS_BMP_STATUS_IN_DISCARD, F.MBUS_BMP_STATUS_OUT_UNDERRUN, F.MBUS_BMP_STATUS_DIRECT_ERR, F.MBUS_BMP_STATUS_DIRECT_STATUS, F.MBUS_BMP_STATUS_OUT_LEN]⟩,
  ⟨"MBUS_BMP_DISCARD_CNT", 0xC0048, 0, 1, none, false,
    [F.MBUS_BMP_DISCARD_CNT_COUNT]⟩]

/-- The SEC block. -/
def regsSec : List Reg := [
  ⟨"SEC_STATUS", 0xD0004, 0, 1, none, false,
    [F.SEC_STATUS_RECOVERY, F.SEC_STATUS_RUN_COPY, F.SEC_STATUS_RESULT_A, F.SEC_STATUS_RESULT_B, F.SEC_STATUS_CUST_LOCK, F.SEC_STATUS_KEYS, F.SEC_STATUS_OTP_PENDING, F.SEC_STATUS_UPDATE, F.SEC_STATUS_UPDATE_RESULT]⟩,
  ⟨"SEC_OTP", 0xD0008, 0, 1, none, false,
    [F.SEC_OTP_ROLLBACK, F.SEC_OTP_REVOKE_RSA, F.SEC_OTP_REVOKE_SLH]⟩,
  ⟨"SEC_FW_A_BUILD", 0xD000C, 0, 1, none, false,
    [F.SEC_FW_A_BUILD_BUILD]⟩,
  ⟨"SEC_FW_B_BUILD", 0xD0010, 0, 1, none, false,
    [F.SEC_FW_B_BUILD_BUILD]⟩,
  ⟨"SEC_FW_SVN", 0xD0014, 0, 1, none, false,
    [F.SEC_FW_SVN_A, F.SEC_FW_SVN_B, F.SEC_FW_SVN_RSA_SLOT, F.SEC_FW_SVN_SLH_SLOT]⟩,
  ⟨"SEC_KERNEL", 0xD0018, 0, 1, none, false,
    [F.SEC_KERNEL_VALID, F.SEC_KERNEL_SIGNER, F.SEC_KERNEL_CODE_LEN]⟩,
  ⟨"SEC_KERNEL_GEN", 0xD001C, 0, 1, none, false,
    [F.SEC_KERNEL_GEN_GEN]⟩,
  ⟨"SEC_ATTEST_CNT", 0xD0020, 0, 1, none, false,
    [F.SEC_ATTEST_CNT_COUNT]⟩]

/-- The FLT block. -/
def regsFlt : List Reg := [
  ⟨"FLT_STATUS", 0xE0000, 0, 1, none, false,
    [F.FLT_STATUS_FATAL_CAUSE, F.FLT_STATUS_RECOVERING, F.FLT_STATUS_DUMP_QDR, F.FLT_STATUS_DUMP_FLASH, F.FLT_STATUS_COPY_FAILED]⟩,
  ⟨"FLT_CFG", 0xE0004, 0, 1, none, true,
    [F.FLT_CFG_AUTO_RESTART_S, F.FLT_CFG_TEMP_LIMIT_C]⟩,
  ⟨"FLT_WDOG", 0xE0008, 0, 1, none, true,
    [F.FLT_WDOG_PAIR_US]⟩,
  ⟨"FLT_RING_SEQ", 0xE000C, 0, 1, none, false,
    [F.FLT_RING_SEQ_SEQ]⟩,
  ⟨"FLT_RING_FLASHED", 0xE0010, 0, 1, none, false,
    [F.FLT_RING_FLASHED_SEQ]⟩,
  ⟨"FLT_RING_LOST_CNT", 0xE0014, 0, 1, none, false,
    [F.FLT_RING_LOST_CNT_COUNT]⟩,
  ⟨"FLT_SUPPRESSED_CNT", 0xE0018, 0, 1, none, false,
    [F.FLT_SUPPRESSED_CNT_COUNT]⟩,
  ⟨"FLT_RECOVER_CNT", 0xE001C, 0, 1, none, false,
    [F.FLT_RECOVER_CNT_COUNT]⟩,
  ⟨"FLT_RECOVER_MAX", 0xE0020, 0, 1, none, false,
    [F.FLT_RECOVER_MAX_NS]⟩,
  ⟨"FLT_PAIR_CNT", 0xE0024, 0, 1, none, false,
    [F.FLT_PAIR_CNT_CP0, F.FLT_PAIR_CNT_CP1]⟩,
  ⟨"FLT_DUMP_UE", 0xE0028, 0, 1, none, false,
    [F.FLT_DUMP_UE_COUNT]⟩,
  ⟨"FLT_DUMP_COUNT", 0xE002C, 0, 1, none, false,
    [F.FLT_DUMP_COUNT_COUNT]⟩]

/-- The ANA block. -/
def regsAna : List Reg := [
  ⟨"ANA_CFG", 0xF0000, 0, 1, none, true,
    [F.ANA_CFG_CHAN, F.ANA_CFG_STREAK_EN, F.ANA_CFG_BAND_EN, F.ANA_CFG_REF_EN]⟩,
  ⟨"ANA_STREAK", 0xF0004, 0, 1, none, true,
    [F.ANA_STREAK_SHIFT, F.ANA_STREAK_PERSIST, F.ANA_STREAK_CLEAR_N, F.ANA_STREAK_MIN_LEVEL]⟩,
  ⟨"ANA_STREAK_Z", 0xF0008, 0, 1, none, true,
    [F.ANA_STREAK_Z_ZSQ]⟩,
  ⟨"ANA_BAND", 0xF000C, 0, 1, none, true,
    [F.ANA_BAND_SHIFT, F.ANA_BAND_PERSIST, F.ANA_BAND_MAX_LINES, F.ANA_BAND_LEVEL]⟩,
  ⟨"ANA_REF", 0xF0010, 0, 1, none, true,
    [F.ANA_REF_LEVEL, F.ANA_REF_CLEAR_N, F.ANA_REF_LINE_OFF]⟩,
  ⟨"ANA_REF_COL", 0xF0014, 0, 1, none, true,
    [F.ANA_REF_COL_COL_OFF]⟩,
  ⟨"ANA_REF_STATUS", 0xF0018, 0, 1, none, false,
    [F.ANA_REF_STATUS_ROWS, F.ANA_REF_STATUS_REF_MISS]⟩,
  ⟨"ANA_REF_MISS_CNT", 0xF001C, 0, 1, none, false,
    [F.ANA_REF_MISS_CNT_COUNT]⟩,
  ⟨"ANA_BAND_REF", 0xF0020, 0, 1, none, false,
    [F.ANA_BAND_REF_B]⟩,
  ⟨"ANA_VERDICT_CNT", 0xF0024, 0, 1, none, false,
    [F.ANA_VERDICT_CNT_COUNT]⟩,
  ⟨"ANA_MERGED_CNT", 0xF0028, 0, 1, none, false,
    [F.ANA_MERGED_CNT_COUNT]⟩,
  ⟨"ANA_VQ_FILL", 0xF002C, 0, 1, none, false,
    [F.ANA_VQ_FILL_FILL]⟩,
  ⟨"ANA_KERNEL_OPS", 0xF0030, 0, 1, none, true,
    [F.ANA_KERNEL_OPS_OPS]⟩,
  ⟨"ANA_KERNEL_ROOTj", 0xF0034, 4, 4, none, false,
    [F.ANA_KERNEL_ROOTj_VALUE]⟩,
  ⟨"ANA_EVT_STATUS", 0xF0044, 0, 1, none, false,
    [F.ANA_EVT_STATUS_ASSERTED]⟩,
  ⟨"ANA_EVT_CFGk", 0xF0080, 4, 8, none, true,
    [F.ANA_EVT_CFGk_TYPES, F.ANA_EVT_CFGk_MODE, F.ANA_EVT_CFGk_POL, F.ANA_EVT_CFGk_PULSE]⟩]

/-- Every register of the block (R530). -/
def regTable : List Reg :=
  regsSys ++ regsPwr ++ regsTile ++ regsPipe ++ regsSched ++ regsLum ++ regsMot ++ regsMon ++ regsQdr ++ regsBmv ++ regsNet ++ regsXpt ++ regsMbus ++ regsSec ++ regsFlt ++ regsAna

/-- The register at a byte address, and its index within its array (R517: every other address is absent). -/
def Reg.indexOf (r : Reg) (addr : Nat) : Option Nat :=
  if r.stride = 0 then (if addr = r.addr then some 0 else none)
  else if r.addr ≤ addr ∧ (addr - r.addr) % r.stride = 0 ∧ (addr - r.addr) / r.stride < r.count
  then some ((addr - r.addr) / r.stride) else none

/-- Look an address up in a list of registers. -/
def findReg (addr : Nat) : List Reg → Option (Reg × Nat)
  | [] => none
  | r :: l =>
    match r.indexOf addr with
    | some k => some (r, k)
    | none => findReg addr l

/-- The registers of the block that an address lies in. -/
def blockRegs (addr : Nat) : List Reg :=
  match addr / 0x10000 with
  | 0 => regsSys
  | 1 => regsPwr
  | 2 => regsTile
  | 3 => regsPipe
  | 4 => regsSched
  | 5 => regsLum
  | 6 => regsMot
  | 7 => regsMon
  | 8 => regsQdr
  | 9 => regsBmv
  | 10 => regsNet
  | 11 => regsXpt
  | 12 => regsMbus
  | 13 => regsSec
  | 14 => regsFlt
  | 15 => regsAna
  | _ => []

/-- The register an address names (R517). -/
def regAt (addr : Nat) : Option (Reg × Nat) :=
  if addr % 4 = 0 then findReg addr (blockRegs addr) else none

/-- The key of a field's value in the register file: its address in the array, its lowest bit and the window instance. -/
def Fld.key (f : Fld) (k inst : Nat) : Nat := ((f.addr + f.stride * k) * 32 + f.lo) * 1024 + inst

/-- The key of a field by one index: the array index of an array register, else the window instance. -/
def Fld.cell (f : Fld) (i : Nat := 0) : Nat := if f.stride = 0 then f.key 0 i else f.key i 0

/-- The reset value of instance `k` of a field: the Reset column, but for the identity matrix of PIPE_CMX
(09_output_analytics.md R267). -/
def Fld.resetAt (f : Fld) (k : Nat) : Nat :=
  if f.addr = 0x300A0 then
    (if (f.lo = 0 ∧ (k = 0 ∨ k = 5)) ∨ (f.lo = 16 ∧ (k = 2 ∨ k = 7)) then 0x1000 else 0)
  else f.reset

end Sys2Proof.Machine
end

