-- ==== Sys2Proof/Machine/State.lean ====
section
/-! DEFINITION. The state of the block as plain data, why a run can stop, and the state after an always-on power-on.
Every register field lies in `State.regs` (21_register_map.md R530); the structures below hold what the chapters name
beside the registers. -/

namespace Sys2Proof.Machine

/-- Why a step can fault. No rule of the manual stops the block: every command and event has an effect or a status.
Raised by no meaning; safe. -/
inductive Fault where
  /-- An internal table is used beyond its end. Raised by no meaning; safe. -/
  | outside (what : String)
  deriving DecidableEq, Repr

/-- Why a step can be refused. -/
inductive Refusal where
  /-- The command has no meaning in this model yet, by the name of its row. Raised by `exec` only; safe. -/
  | notModelled (mnemonic : String)
  deriving DecidableEq, Repr

/-- The operating states (01_system_overview.md R18, coded as 21_register_map.md R532 gives). -/
inductive Op where
  | boot
  | idle
  | calibrating
  | armed
  | running
  | holding
  | draining
  | faultHold
  | service
  deriving DecidableEq, Repr

/-- The seasons of a power domain (18_power_startup.md R450), coded as PWR_DOM gives. -/
inductive Season where
  | winter
  | spring
  | summer
  | autumn
  deriving DecidableEq, Repr

/-- One access path's bank (21_register_map.md R527): its seven selects, its SYS_ERR, its LO latches and its held HI
writes (R520), each keyed by the LO register's address and instance. -/
structure Bank where
  sels : List Nat := [0, 0, 0, 0, 0, 0, 0]
  selRange : Bool := false
  selBcast : Bool := false
  selWhich : Nat := 0
  latches : List (Nat × Nat) := []
  held : List (Nat × Nat) := []
  deriving DecidableEq, Repr

/-- What a tile's lane carries (03_triry_link.md R57, R73): 64b/66b blocks, idle ones between frames, or the raw bits of the PRBS
x^deg + x^tap + 1. -/
inductive Signal where
  | blocks
  | raw (deg tap : Nat)
  deriving DecidableEq, Repr

/-- What the block puts out, newest first in `State.out`: the model's own record of replies, frames, pulses and pin
changes. Assumption log 5. -/
inductive Out where
  /-- A command's reply: path, opcode, status, detail and payload (15_command_set.md R391, R398). -/
  | reply (p : Path) (op status detail : Nat) (payload : List Byte)
  /-- A value that a single register read returned. -/
  | value (p : Path) (addr v : Nat)
  /-- A Moevo segment sent on a port to a host (14_host_network.md R365), with its 802.1Q tag as PCP and VID, and its DSCP (R360). -/
  | segment (port : Nat) (dst : HostAddr) (tag : Option (Nat × Nat)) (dscp : Nat) (bytes : List Byte)
  /-- A reply on a port to an ARP request or a Neighbour Solicitation (R362). -/
  | arpReply (port mac ip dstMac dstIp : Nat)
  | neighbourAdv (port mac ip dstMac dstIp : Nat)
  /-- Bytes the board management port returned to its controller (16_management_buses.md R423). -/
  | bmp (bytes : List Byte)
  | bmpNack
  /-- A BCB command frame and a tile's reply frame (03_triry_link.md R68). -/
  | bcb (seg : Nat) (bytes : List Byte)
  | tileReply (seg : Nat) (bytes : List Byte)
  /-- A line frame as a tile sends it (R58 to R61), scrambled (R56), and the idle blocks before it (R57). -/
  | frame (i : Nat) (blocks : List LaneBlock)
  | idles (i : Nat) (blocks : List LaneBlock)
  /-- What a tile's lane carries from now on (R73). -/
  | carries (i : Nat) (what : Signal)
  /-- BSTB on a segment, and LUM_GATE on a chain, with the instant of the edge (04_position_scheduler.md R112, R113). -/
  | bstb (seg : Nat) (high : Bool) (t : Nat)
  | gate (chain width t : Nat)
  /-- A ring frame and a commit mark (05_illumination.md R132, R135). -/
  | ring (chain : Nat) (bits : List Bool)
  | mark (chain : Nat)
  /-- A diagnostic pulse of a driver's string, with its start after the gate, and one that the next gate cuts short (R146). -/
  | diagPulse (driver channel start : Nat)
  | pulseCut (driver channel : Nat)
  /-- A string's on-time at a gate, in periods of 64 MHz, and one that the next gate ends (R139). -/
  | onTime (driver channel periods : Nat)
  | onCut (driver channel : Nat)
  /-- An event pin's new level (09_output_analytics.md R264) and a pulse on an event line. -/
  | pin (k : Nat) (high : Bool)
  | event (k : Nat)
  /-- Steps of an axis (10_motion.md R273), signed, as active-low pulses where STEP_INV is set, each `width` ns long (R274), and the new
  levels of its DRV_EN and DIR pins (R294). Of no steps at all it says that STEP is driven at its inactive level (R269). -/
  | steps (ax : Nat) (n : Int) (low : Bool) (width : Nat)
  | drvEn (ax : Nat) (high : Bool)
  | dir (ax : Nat) (high : Bool)
  /-- A BMB transaction (16_management_buses.md R416), a bus clear's pulses and its STOP. -/
  | bmb (addr : Nat) (wr : List Byte) (rd : Nat)
  | bmbClear (pulses : Nat)
  /-- An urgent conversion's excitation change (12_bar_monitor.md R322). -/
  | excite (x : Nat) (on reversed : Bool)
  deriving DecidableEq, Repr

/-- The header of a command whose reply is still to come (15_command_set.md R401). -/
structure Hdr where
  op : Nat := 0
  tag : Nat := 0
  sess : Nat := 0
  cseq : Nat := 0
  port : Nat := 0
  direct : Bool := false
  deriving DecidableEq, Repr

/-- A kept reply (R395): the CSEQ it answers and its chunk packets. -/
structure Kept where
  cseq : Nat
  chunks : List (List Byte)
  deriving DecidableEq, Repr

/-- A CMD segment waiting its turn (14_host_network.md R375). -/
structure QCmd where
  seq : Nat
  port : Nat
  body : List Byte
  deriving DecidableEq, Repr

/-- An object in staging (15_command_set.md R410): its key (tile and kind, or row) and the bytes received. -/
structure Stage where
  tile : Nat
  kind : Nat
  data : List Byte
  deriving DecidableEq, Repr

/-- The command layer of one access path (R394, R395). -/
structure CmdPath where
  next : Nat := 0
  anyOnce : Bool := true
  kept : List Kept := []
  run : Option Hdr := none
  queue : List QCmd := []
  coef : Option Stage := none
  raster : Option Stage := none
  deriving DecidableEq, Repr

/-- The board management port (16_management_buses.md R423 to R429): the packet under assembly and whether bytes are discarded up
to a STOP, the reply FIFO and the chunks still to enter it, the pointer, the address last written to pointer 0x20, whether the
reply of the command that runs is to be discarded, and the instant of the last MBOX_IN byte. -/
structure Bmp where
  inb : List Byte := []
  skip : Bool := false
  fifo : List Byte := []
  chunks : List (List Byte) := []
  ptr : Nat := 0
  regAddr : Nat := 0
  dropReply : Bool := false
  lastByte : Nat := 0
  deriving DecidableEq, Repr

/-- The defined job beside its registers (15_command_set.md R409). `warned` holds the keys of the burgees that are raised
once per job; `images` the tiles whose compatibility image is UNSAVED (08_calibration.md R214). -/
structure Job where
  defined : Bool := false
  scan : Bool := false
  first : Nat := 0
  count : Nat := 0
  rate : Nat := 0
  lineCount : Nat := 0
  phase : Int := 0
  serials : List Nat := []
  fdMax : Nat := 0
  warned : List Nat := []
  images : List Nat := []
  deriving DecidableEq, Repr

/-- A JOB_ARM under way (01_system_overview.md R19): the span tiles whose identity record is still to be read (02_sensor_bar.md
R42), then the lanes still to be measured or trained (03_triry_link.md R85), and whether it has left IDLE. -/
structure ArmOp where
  path : Path
  idents : List Nat
  lanes : List Nat
  left : Bool
  deriving DecidableEq, Repr

/-- An Equinox run or a capture point (08_calibration.md R220): 0 moving the strip, 1 dark refresh and commit, 2 dark
settle and capture, 3 white refresh and commit, 4 white settle and capture, 5 banks, 6 verification, 7 parking. `src`
0 JOB_ARM, 1 IDLE, 2 RUNNING, 3 CAL_ALIGN, 4 CAL_THERMAL. `settle` and `left` count the lines still to settle and to take,
`clipped` names the clipped photosites by tile and index, `again` the tiles copied a second time, `out` says that the strip
stands away from POS, `tSum` holds each tile's summed temperature over the white lines and their count, `light` what each
tile's section lit in them (06_engines_shading.md R169), `checking` names the engines whose new bank is still to be checked (R225). -/
structure Eqx where
  src : Nat
  path : Path
  phase : Nat
  settle : Nat
  left : Nat
  lampClip : Bool
  clipped : List (Nat × Nat)
  startPos : Int
  again : List Nat
  out : Bool
  reason : Nat
  tSum : List (Int × Nat)
  light : List Nat
  checking : List Nat
  deriving DecidableEq, Repr

/-- A CAL_ALIGN under way (R227). `bad` is the REASON for which its capture has failed, 0 for none (R229, 21_register_map.md
R533); `phase` is the media position of its line 0 in 48.16 pc. -/
structure AlignOp where
  path : Path
  mode : Nat
  motion : Nat
  group : Nat
  first : Nat
  count : Nat
  setFirst : Nat
  setCount : Nat
  pitch : Nat
  speed : Nat
  timeout : Nat
  t0 : Nat
  capturing : Bool
  bad : Nat
  phase : Int
  deriving DecidableEq, Repr

/-- A captured point of the thermal sweep (R233): per tile its temperature, lamp white less dark, and its photosite
means; `clips` names the photosites whose white samples clipped (R221). -/
structure ThermPt where
  temps : List Int
  lamps : List (Int × Int)
  dark : List (List Int)
  white : List (List Int)
  clips : List (Nat × Nat)
  deriving DecidableEq, Repr

/-- A CAL_THERMAL under way (R233). -/
structure ThermOp where
  path : Path
  first : Nat
  count : Nat
  sweepK : Nat
  t0 : Nat
  timeout : Nat
  heat : Nat
  points : List ThermPt
  deriving DecidableEq, Repr

/-- A LUM_DIAG under way (05_illumination.md R538): 0 CFG refresh, 1 CFG commit, 2 DUTY_DIAG refresh, 3 its commit,
4 the reading refresh, 5 done; per chain. `gates` holds each chain's last service gate. -/
structure LumDiag where
  path : Path
  secs : List Nat
  chains : List (Nat × Nat)
  gates : List (Nat × Nat)
  t0 : Nat
  deriving DecidableEq, Repr

/-- A firmware, kernel, key or OTP update (17_security.md R439): 0 kind not known yet, then as SEC_STATUS.UPDATE. -/
structure Update where
  path : Path
  size : Nat
  kind : Nat
  got : Nat
  data : List Byte
  deriving DecidableEq, Repr

/-- The operations that run on after their command (15_command_set.md R400), and the paths that wait on them. `checks` holds the engines
and banks that VERIFY still checks (06_engines_shading.md R178), `openBusy` the
roles that answer BUSY to phase 1 and until when, `openLate` the places that were held and expired, as index, role and
SESSION_ID (14_host_network.md R371). -/
structure Ops where
  arm : Option ArmOp := none
  eqx : Option Eqx := none
  align : Option AlignOp := none
  therm : Option ThermOp := none
  diag : Option LumDiag := none
  stats : Option (Path × Nat) := none
  tileCmd : Option Path := none
  update : Option Update := none
  discovery : Bool := false
  checks : List (Nat × Nat) := []
  bootWait : Bool := false
  abort : Option Path := none
  startWait : Option Path := none
  openBusy : List (Nat × Nat) := []
  openLate : List (Nat × Nat × Nat) := []
  deriving DecidableEq, Repr

/-- The state of one lane's training (03_triry_link.md R85). `stepNo` 0 to 7 measures a CTLE setting; 8 takes the first
metric at the best of them; 9 hill-climbs; 10 confirms the taps; 11 measures a lane restored at JOB_ARM. `ctleBest` holds the
best metric of the CTLE choice, `undo` says that the next round only undoes a step, `lost` that lock was lost meanwhile. -/
structure Train where
  stepNo : Nat
  ctle : Nat
  ctleBest : Nat
  best : Nat
  pass : Nat
  post : Bool
  up : Bool
  moved : Bool
  changed : Bool
  pre : Nat
  pst : Nat
  undo : Bool
  lost : Bool
  deriving DecidableEq, Repr

/-- An open frame slot (R64): the line its window carries (extended index, or time-mode index), whether it belongs to a
time-mode sequence, and whether it is captured. -/
structure Slot where
  line : Nat
  time : Bool
  capture : Nat
  fall : Nat
  deriving DecidableEq, Repr

/-- A PRBS checker (R89): the bits last received or generated, the newest in bit 0, the bits it has seeded from, the bits without an
error since, whether it is locked, the bits since the lock, and the places among the last 1,024 of those that were in error. -/
structure Prbs where
  reg : Nat := 0
  seeded : Nat := 0
  good : Nat := 0
  locked : Bool := false
  age : Nat := 0
  errs : List Nat := []
  deriving DecidableEq, Repr

/-- One lane's receiver (R54, R64, R65) beside its registers: the identity record in use, the one as last read (R48), the SERIAL last
read in one that checked, whether a header has carried another TILE_ID (R79), the FIRST_SITE host software wrote (R60), the
expected EXP_SEQ, the open slot, the sequence number of the last addressed BCB command, the settings of the last training that
passed, a training under way, the instant lock was lost, an injected error to come, the eye kept, the PRBS checker, and the taps that the tile
last confirmed (R91). -/
structure Lane where
  ident : List Byte := []
  shown : List Byte := []
  serial : Option Nat := none
  misId : Bool := false
  site : Option Nat := none
  expSeq : Nat := 0
  slot : Option Slot := none
  bcbSeq : Nat := 0
  saved : Option (Nat × Nat × Nat) := none
  train : Option Train := none
  lostAt : Option Nat := none
  injectNext : Bool := false
  eye : Nat × Nat := (0, 0)
  prbs : Prbs := {}
  taps : Nat × Nat := (0, 0)
  deriving DecidableEq, Repr

/-- The five modes of a tile (R73), coded as PING replies them. -/
inductive TileMode where
  | idle
  | train
  | test7
  | test31
  | run
  deriving DecidableEq, Repr

/-- A tile on the bar (R50, R73, R76). `fitted` says whether the bar position holds one; `window` is the line number that it latched at
the last rising BSTB edge and whether it inferred it, while the window is open. -/
structure TileDev where
  fitted : Bool := false
  ident : List Byte := []
  mode : TileMode := .idle
  pre : Nat := 0
  post : Nat := 0
  firstSite : Nat := 0
  pattern : Nat := 0
  lastSeq : Option Nat := none
  lastReply : List Byte := []
  prevLine : Nat := 0xFFFFFF
  lineSet : Option Nat := none
  window : Option (Nat × Bool) := none
  expSeq : Nat := 0
  lastExp : Nat := 0
  status : Nat := 0
  invalid : Nat := 0
  busyUntil : Nat := 0
  scram : BitVec 58 := 0
  deriving DecidableEq, Repr

/-- Which operation of firmware issued a BCB transaction. -/
inductive Origin where
  | command (p : Path)
  | discover
  | reread
  | second
  | armIdent
  | restore
  | training
  | setting
  | quiet
  deriving DecidableEq, Repr

/-- A BCB transaction (R71): address, opcode, data, origin, attempts allowed and made, and its sequence number. -/
structure Txn where
  addr : Nat
  op : Nat
  data : List Byte
  src : Origin
  tries : Nat
  made : Nat
  seq : Nat
  deriving DecidableEq, Repr

/-- One BCB segment (R70, R77): waiting transactions, the attempt in progress with the last stop bit of its command and the end of its
bound, the end of the last LINE_SET, and a LINE_SET held back by an attempt. -/
structure Bcb where
  queue : List Txn := []
  cur : Option Txn := none
  cmdEnd : Nat := 0
  curEnd : Nat := 0
  freeAt : Nat := 0
  setEnd : Nat := 0
  heldSet : Option Nat := none
  deriving DecidableEq, Repr

/-- An encoder (04_position_scheduler.md R96 to R99): position, TB_NOW of its last edge, filtered levels and the instants at which the
filters last accepted a change of each, and the last edge's count. -/
structure Enc where
  pos : Int := 0
  ts : Nat := 0
  a : Bool := false
  b : Bool := false
  z : Bool := false
  ta : Option Nat := none
  tb : Option Nat := none
  tz : Option Nat := none
  step : Int := 0
  deriving DecidableEq, Repr

/-- A line the scheduler has committed (R111): its index, the instant of its gate once issued and of its rising edge
(R112), what an Equinox run captures in it (0 nothing, 1 dark, 2 white), whether it carries a bank
swap (06_engines_shading.md R179), and whether it is a time-mode line (R127). -/
structure Commit where
  line : Nat
  gate : Option Nat
  rise : Nat
  capture : Nat
  swap : Bool
  time : Bool
  deriving DecidableEq, Repr

/-- The position scheduler (R103 to R127). p̂ is in 1/2^16 pc, v̂ in 2^−47 pc/ns. `edges` holds the last master edges,
newest first, as time and position; `good` counts edges with |e| below 0.25 pc, `short` the short intervals since low-rate
mode began; `target` is the next line to place, `tn` its prediction at the last edge, `cur` the committed line, `expo` the
line whose window is open; `skipped` says that lines were skipped since the last placed one, `active` that job lines are
placed; `rises` holds the rising edges of the job's last two placed lines, newest first, and `lastRise` the last of any placed line;
`t0` is the origin of time mode; `lastGate` is the last gate of any kind, `placedGate` that of a placed line, and `saved`
the target at the entry into time mode. -/
structure Sched where
  pHat : Int := 0
  vHat : Int := 0
  tk : Nat := 0
  edges : List (Nat × Int) := []
  good : Nat := 0
  short : Nat := 0
  pMax : Int := 0
  pTurn : Int := 0
  target : Nat := 0
  tn : Option Int := none
  cur : Option Commit := none
  expo : Option Commit := none
  lastRise : Option Nat := none
  rises : List Nat := []
  skipped : Bool := false
  active : Bool := false
  timeMode : Bool := false
  t0 : Nat := 0
  lastGate : Nat := 0
  placedGate : Option Nat := none
  saved : Nat := 0
  deriving DecidableEq, Repr

/-- A command slot of the ring (05_illumination.md R133). -/
structure CSlot where
  front : Nat
  rear : Nat
  nir : Nat
  cmd : Nat
  deriving DecidableEq, Repr

/-- One illumination chain (R132, R135, R136): the slots and derating factors of the refresh sent, whether it awaits its
status stream, whether it has passed and awaits a commit mark, whether the mark has been sent, consecutive failures, the
placed lines that no step of the derating factor has used yet and those that the refresh sent uses (R144), whether the refresh
carries only diagnosis, when the next mark is due, the channels that stay UNVERIFIED, as 3 × section + channel, with the refreshes they have,
whether it has latched since the Equinox run's phase began, and whether diagnosis waits for the commit that follows an Equinox run's
last white line (R146). -/
structure Chain where
  sent : List CSlot := []
  facs : List Nat := []
  waiting : Bool := false
  passed : Bool := false
  marked : Bool := false
  fails : Nat := 0
  eqxFails : Nat := 0
  placed : Nat := 0
  used : Nat := 0
  diag : Bool := false
  markDue : Option Nat := none
  unver : List (Nat × Nat) := []
  latched : Bool := false
  quiet : Bool := false
  deriving DecidableEq, Repr

/-- A section driver (R133 to R135, R138, R139, R145, R146): its shadow slot, whether a commit mark has come for it, its active duties
and DIAG_OFFSET, the strings that had an on-time of 2 µs since its last status slot and the instant of that slot, the last gate with
the periods before it and its on-times, the end and the channels of a pulse fired, its OPEN and SHORT latches, and whether it
rejected its last slot. -/
structure Driver where
  fitted : Bool := false
  shadow : Option CSlot := none
  committed : Bool := false
  front : Nat := 0
  rear : Nat := 0
  nir : Nat := 0
  diagOff : Nat := 0
  lit : List Bool := [false, false, false]
  period : Nat := 0
  lastGate : Option Nat := none
  lastSeen : Nat := 0
  slotAt : Nat := 0
  onAt : Nat := 0
  on : List Nat := [0, 0, 0]
  pulse : Option (Nat × List Bool) := none
  opens : List Bool := [false, false, false]
  shorts : List Bool := [false, false, false]
  cmdErr : Bool := false
  deriving DecidableEq, Repr

/-- One shaded colour row of one exposure (06_engines_shading.md R160, R172): extended exposure number, INVALID and SAT,
the exposure's LAMP_FAULT and DRIFT_HOLD, the bank that corrected it, and its 478 samples. -/
structure Row where
  exp : Nat
  inv : Bool
  sat : Bool
  lampF : Bool
  drift : Bool
  bank : Nat
  v : List Nat
  deriving DecidableEq, Repr

/-- A line record (07_alignment_seams.md R188, R190): its number and its RED, GRN, BLU and NIR rows. -/
structure LineRec where
  k : Nat
  rows : List Row
  deriving DecidableEq, Repr

/-- A column's streak state (09_output_analytics.md R251, R253). -/
structure Streak where
  mu : Int := 0
  v : Nat := 0
  upd : Nat := 0
  cand : Nat := 0
  clear : Nat := 0
  active : Bool := false
  dark : Bool := false
  last : Bool := false
  deriving DecidableEq, Repr

/-- A reference block's state (R259). -/
structure Blob where
  clear : Nat := 0
  active : Bool := false
  err : Nat := 0
  deriving DecidableEq, Repr

/-- What an engine records of the alignment target at one photosite of one row (08_calibration.md R229): its last line and sample, the
crossings of zone A in 1/64 line, newest first, and the sum and count of its samples in zone B. -/
structure Track where
  prev : Option (Nat × Nat) := none
  cross : List Int := []
  sum : Nat := 0
  cnt : Nat := 0
  deriving DecidableEq, Repr

/-- The geometry of a tile, in 1200 dpi lines (07_alignment_seams.md R185, 08_calibration.md R212), and its photosites. -/
structure Geo where
  yOff : Int := 0
  skew : Int := 0
  d : List Nat := [0, 0, 0, 0]
  xo : Int := 0
  scale : Int := 0
  gap : Nat := 0
  yDiff : Int := 0
  conf : Nat := 0
  sites : Nat := 0
  deriving DecidableEq, Repr

/-- One tile engine (06_engines_shading.md R150) beside its registers and its memories. `light` is what the sections lit in
the Equinox runs that built banks A and B (R169), `qDue` says that a commit has latched whose Q the next line takes up, `tSent` is the
temperature sent at a commit (R167), if one could be formed, and whether an RTD that brackets the tile was unsure, `geo` is the
geometry that JOB_ARM loaded (07_alignment_seams.md R187, R199), `rxBuf` the free receive buffer (R160), `imgs` the bank images
(R153) that firmware keeps of an engine outside the job's span. -/
structure Eng where
  filt : List Int := []
  rows : List (List Row) := [[], [], [], []]
  recs : List LineRec := []
  q : Nat := 0
  restarting : Option Nat := none
  starts : List Nat := []
  watch : Option Nat := none
  lampLow : Bool := false
  lampRun : Nat := 0
  streaks : List Streak := []
  blobs : List Blob := []
  refSum : List (List Nat) := []
  refRows : List (Nat × List Byte) := []
  refNow : Option Nat := none
  outbox : List (List Byte) := []
  invalidLast : Bool := false
  kernelOver : Bool := false
  light : List Nat := [0, 0]
  qDue : Bool := false
  tSent : Option (Option Int × Bool) := none
  tracks : List Track := []
  geo : Geo := {}
  rxBuf : Nat := 0
  imgs : List (List Byte) := [[], []]
  deriving DecidableEq, Repr

/-- A line of a rendition in the elastic buffer (14_host_network.md R380): extended number of the (binned) line, its
address and length in line memory, its pennant word and mask, and whether line memory has lost it (R384). -/
structure OutLine where
  n : Nat
  rend : Nat
  addr : Nat
  len : Nat
  pennant : Nat
  mask : List Byte
  lost : Bool
  deriving DecidableEq, Repr

/-- A produced member of a y bin (07_alignment_seams.md R209): its line, its sums over x, pennant bits and mask. -/
structure Member where
  line : Nat
  sums : List Nat
  bits : Nat
  mask : List Byte
  deriving DecidableEq, Repr

/-- A y bin under way (07_alignment_seams.md R209): rendition, bin number, produced members. -/
structure Bin where
  rend : Nat
  bin : Nat
  members : List Member
  deriving DecidableEq, Repr

/-- What a customer kernel reads of a line in one engine (06_engines_shading.md R158): the corrected samples of the line's record, its
columns as the renditions take them, and whether the engine presents identities for the line (R155). -/
structure KernelIn where
  engine : Nat
  idle : Bool
  samples : List (List Nat)
  cols : List (List Nat)
  deriving DecidableEq, Repr

/-- The settings of the band test. -/
structure BandCfg where
  en : Bool
  shift : Nat
  persist : Nat
  maxLines : Nat
  level : Nat
  deriving DecidableEq, Repr

/-- A line's tree packet at the root with its engines' records (09_output_analytics.md R266), what the kernel reads in each engine, and
the settings that hold for the line (R268): those of the band test, and its reference row with its place in it. -/
structure Tree where
  line : Nat
  sum : Nat
  cnt : Nat
  evt : Nat
  bits : Nat
  firstInv : Nat
  lastInv : Nat
  invTiles : Nat
  blocks : Nat
  flagged : Nat
  kernel : List KernelIn
  records : List (List Byte)
  oneBank : Bool
  counted : Bool
  band : BandCfg
  refAt : Option (Nat × Nat)
  deriving DecidableEq, Repr

/-- The production of output lines (07_alignment_seams.md R195, 11_reseam.md R299): the first placed line, the next
output line to decide on, the first and last lines produced and the recent ones, the recent exposures placed and one above the
newest, the recent exposures settled without a placed window (skipped or, in SCAN, withdrawn), one above the newest exposure an engine
has accepted, one above the sealed line while a recapture is to come, the line it resumes at and whether it is cold, the
delivery bits of the next line (RESEAM, GAP_BEFORE), the lines that carry OVERSPEED, one above the highest line analysed,
pending bins, the elastic buffer's lines, the tree packets of lines whose verdicts are to come, one above the newest line put
into the elastic buffer for each rendition, and what a new OWNER takes up
(01_system_overview.md R29): rendition mask, first line not delivered, pennant bits 51 to 56. -/
structure Produce where
  n0 : Option Nat := none
  next : Nat := 0
  firstOut : Option Nat := none
  last : Option Nat := none
  made : List Nat := []
  placed : List Nat := []
  placedTop : Nat := 0
  missed : List Nat := []
  acceptTop : Nat := 0
  sealNext : Option Nat := none
  resumeNo : Nat := 0
  cold : Bool := false
  reseam : Option Nat := none
  gap : Bool := false
  marked : List Nat := []
  analysed : Nat := 0
  bins : List Bin := []
  elastic : List OutLine := []
  tree : List Tree := []
  emitted : List Nat := [0, 0]
  takeover : Option (Nat × Nat × Nat) := none
  deriving DecidableEq, Repr

/-- The verdict unit (09_output_analytics.md R257, R260 to R264). `active` holds the active types of the last line, `refRows` names the reference rows in the store, `refNext` the
next row whose copy falls due. -/
structure Ana where
  bandSet : Bool := false
  cand : Nat := 0
  band : Bool := false
  bandLines : Nat := 0
  bankWait : Bool := false
  spanInv : Bool := false
  spanCols : Nat × Nat × Nat := (0, 0, 0)
  nextRec : Nat := 0
  refRows : List Nat := []
  refNext : Nat := 0
  refMiss : Bool := false
  pulses : List (Nat × Nat) := []
  active : Nat := 0
  pinsOn : Bool := false
  driven : Bool := false
  luts : List (Nat × Nat) := []
  deriving DecidableEq, Repr

/-- A move queue entry (10_motion.md R280). -/
structure Move where
  targets : List Int
  v : Nat
  a : Nat
  j : Nat
  blend : Bool
  paced : Bool
  tag : Nat
  relative : Bool
  deriving DecidableEq, Repr

/-- The running move of a group (R277 to R279): its master axis, the steps each axis has to go and the master's steps
made, the present rate and the rate it ends at in 1/(256·10^9) steps/s, the acceleration reached in 1/1,000 steps/s²,
the master's phase accumulator (R273), whether it has begun to brake, and the rate at which the next move begins where their joint
is blended (R281). -/
structure Run where
  mv : Move
  master : Nat
  delta : List Int
  made : Nat
  rate : Nat
  endRate : Nat
  acc : Int
  phase : Nat
  braking : Bool
  joint : Option Nat := none
  deriving DecidableEq, Repr

/-- A homing search (R293): its axis, its phase (1 away, 2 toward the switch, 3 coming to rest, 4 back, 5 forward, 6
halting at HOME_MAX), the steps emitted, the rate in 1/(256·10^9) steps/s and the phase accumulator. -/
structure Homing where
  axis : Nat
  phase : Nat
  emitted : Nat
  rate : Nat
  acc : Nat
  deriving DecidableEq, Repr

/-- An axis group (R269 to R289). `used` is set while firmware uses the group, `back` while what it still does is to take the strip back
to PARK (08_calibration.md R219). -/
structure Group where
  queue : List Move := []
  run : Option Run := none
  halting : Bool := false
  homing : Option Homing := none
  used : Bool := false
  back : Bool := false
  deriving DecidableEq, Repr

/-- An axis (R284, R290): logical position and emitted steps, the pair taken for the following error, ticks out of
window, enable in progress, the direction that DIR shows, the instant its group came to rest, whether its pins are driven (R269), and
the instants of its last steps and of DIR's last change (R275). -/
structure Axis where
  pos : Int := 0
  steps : Int := 0
  posRef : Int := 0
  encRef : Int := 0
  ferrOver : Nat := 0
  enabling : Option Nat := none
  canMove : Bool := false
  positive : Bool := true
  hold : Bool := true
  restAt : Nat := 0
  driven : Bool := false
  lastStep : Option Nat := none
  dirAt : Option Nat := none
  deriving DecidableEq, Repr

/-- The hold path beside its registers (11_reseam.md R302, R305): stall retries used in the job, and the media axis's position
at the turn. -/
structure Scan where
  retries : Nat := 0
  back : Int := 0
  deriving DecidableEq, Repr

/-- A sequence entry as a conversion took it up at its start (12_bar_monitor.md R331): inputs, GAIN_CODE, OSR_CODE, and its use of an
excitation. -/
structure EntryCfg where
  inp : Nat := 45
  inn : Nat := 45
  gain : Nat := 0
  osr : Nat := 5
  refEx : Bool := false
  ex : Nat := 0
  use : Bool := false
  chop : Bool := false
  lead : Nat := 50
  deriving DecidableEq, Repr

/-- A converter's sequence (12_bar_monitor.md R316, R320): phase 0 idle, 1 waiting for an excitation, 2 LEAD, 3 settling and
converting, 4 interrupted by an urgent conversion, 5 interrupted while waiting; the reversed half of a CHOP entry, the first half's
output and its BREAK and CLIP; the urgent kind in conversion (0 HOLDUP, 1 HEADROOM) and the pending requests; the passes made and the
pass and gain of the result in MON_DATA. `cfg` is the entry in conversion, `since` and `due` the instants at which its filter was reset
and at which its LEAD or its 4th output is over (R317), `brkIn` the inputs found broken in it, `outUrg` says that the last output was an
urgent conversion's (R319). -/
structure Conv where
  phase : Nat := 0
  half : Bool := false
  first : Int := 0
  brk : Bool := false
  clip : Bool := false
  urgent : Option Nat := none
  urgHold : Bool := false
  urgHead : Option Nat := none
  pass : Nat := 0
  dataPass : Nat := 0
  dataGain : Nat := 0
  cfg : EntryCfg := {}
  since : Nat := 0
  due : Nat := 0
  brkIn : List Nat := []
  outUrg : Bool := false
  deriving DecidableEq, Repr

/-- The last valid codes of an RTD, each with its pass and GAIN_CODE (R325), and whether its entries have returned BREAK or are wrongly
connected (R328, R329). -/
structure Rtd where
  lead : Option (Nat × Int × Nat) := none
  main : Option (Nat × Int × Nat) := none
  broken : Bool := false
  wrong : Bool := false
  deriving DecidableEq, Repr

/-- The bar monitor beside its registers. `watch` holds each broken input's clean conversions (R328). -/
structure Mon where
  convs : List Conv := List.replicate 4 {}
  rtds : List Rtd := List.replicate 8 {}
  watch : List (Nat × Nat) := []
  deriving DecidableEq, Repr

/-- An unacknowledged segment of a session's LINE stream (14_host_network.md R376, R377): its line, rendition and offset, the
delivery bits of its line, whether it is the line's last, its last transmission, retransmissions, whether it waits to be
sent again, its port, and its last fast retransmission. -/
structure LSeg where
  seq : Nat
  n : Nat
  rend : Nat
  off : Nat
  deliv : Nat
  last : Bool
  sentAt : Nat
  retx : Nat
  due : Bool
  port : Nat
  fastAt : Option Nat
  deriving DecidableEq, Repr

/-- A record of a session's EVT stream: the instant of its entry, its number in the verdict ring if it is a verdict, and its
bytes. -/
structure EvRec where
  t : Nat
  num : Option Nat
  bytes : List Byte
  deriving DecidableEq, Repr

/-- An unacknowledged segment of a session's EVT stream. -/
structure ESeg where
  seq : Nat
  recs : List EvRec
  sentAt : Nat
  retx : Nat
  due : Bool
  port : Nat
  fastAt : Option Nat
  deriving DecidableEq, Repr

/-- A RSP segment to be sent: its SEQ, port, the instant of its entry, and its body. -/
structure RspOut where
  seq : Nat
  port : Nat
  t : Nat
  bytes : List Byte
  deriving DecidableEq, Repr

/-- A thinning episode (R382): its lines thinned, first and last, the newest line at its last thinning. -/
structure Episode where
  breach : Bool
  first : Nat
  last : Nat
  count : Nat
  newest : Nat
  rend : Nat
  deriving DecidableEq, Repr

/-- A run of gapped lines whose CLEAR record is still to come (R383, R384): first and last line, none while no OWNER has yet
received one, cause, pennant bits 51 to 56, and rendition. -/
structure GapRun where
  first : Nat
  last : Option Nat
  cause : Nat
  aux : Nat
  rend : Nat
  deriving DecidableEq, Repr

/-- A session's opening and identity (R371, R373). `st` is 0 free, 1 opening, 2 open. -/
structure SessId where
  st : Nat := 0
  role : Nat := 0
  isSealed : Bool := false
  maxSeg : Nat := 0
  win : Nat := 0
  primary : Nat := 0
  stripe : Bool := false
  ports : Nat := 0
  nH : List Byte := []
  nD : List Byte := []
  id : Nat := 0
  ks : List Byte := []
  holdUntil : Nat := 0
  lastValid : Nat := 0
  paths : List (Nat × HostAddr) := []
  sendPort : Nat := 0
  rr : Nat := 0
  rto : Nat := 0
  idleMs : Nat := 0
  retryMax : Nat := 0
  beLag : Nat := 0
  resume : Nat := 0
  badTags : Nat := 0
  primarySeen : Bool := false
  deriving DecidableEq, Repr

/-- A session's streams and subscription (R376 to R385). `owed` holds the lines not yet resolved whose segments are not
all cut, oldest first, as extended number and rendition, and `cutting` the one being cut, with its segments cut and its
delivery bits; `gapNext` names the first line on which GAP_BEFORE is due, `thinNext` the line after which THINNED is, `served`
the octets served to a reserved OBSERVER against its rate. -/
structure SessTx where
  ctl : Option Nat := none
  limit : Nat := 0
  lineSeq : Nat := 0
  evtSeq : Nat := 0
  rspSeq : Nat := 0
  rend : Nat := 0
  reserved : Bool := false
  lag : Nat := 0
  owed : List (Nat × Nat) := []
  cutting : Option (Nat × Nat × Nat × Nat) := none
  segs : List LSeg := []
  evts : List ESeg := []
  recs : List EvRec := []
  rsps : List RspOut := []
  gapNext : Option Nat := none
  thinNext : Option Nat := none
  reseamNext : Bool := false
  episodes : List Episode := []
  gapRun : Option GapRun := none
  served : Nat := 0
  deriving DecidableEq, Repr

/-- A session. -/
structure Session where
  id : SessId := {}
  tx : SessTx := {}
  deriving DecidableEq, Repr

/-- A port's configuration as it came up with it (14_host_network.md R389): NET_UDP_PORT, its mode and addresses, and the PCP and DSCP of the
three classes of its segments, RSP and EVT, OWNER LINE and OBSERVER LINE. -/
structure PortCfg where
  udp : Nat
  mode : Nat
  vlan : Bool
  vid : Nat
  pcp : List Nat
  dscp : List Nat
  mac : Nat
  ip4 : Nat
  ip6 : Nat
  deriving DecidableEq, Repr

/-- A port beside its registers: the configuration it came up with and when (R387, R389), the unreserved OBSERVER served last
(R378), and the PRBS checkers of its lanes (R388). -/
structure Port where
  live : Option PortCfg := none
  upAt : Nat := 0
  rrObs : Nat := 0
  prbs : List Prbs := List.replicate 4 {}
  deriving DecidableEq, Repr

/-- The bar management bus (16_management_buses.md R416 to R421): the operation to be retried after a NACK and when, losses of
arbitration of the present transaction, alert reads in a row that left the line low, the end of ignoring it, and the instant of
the next clear of a stuck bus. -/
structure Bmb where
  retry : Option (Nat × List Byte × Nat) := none
  retryAt : Nat := 0
  losses : Nat := 0
  alertReads : Nat := 0
  ignoreUntil : Option Nat := none
  nextClear : Nat := 0
  deriving DecidableEq, Repr

/-- The security core (17_security.md R432, R443): the one-time-programmable fields that can change, the role keys (OWNER,
OBSERVER, SERVICE), the loaded kernel's code and digest, the running copy's REVOKE and SVN, and the config block in use. The
vendor key hashes and the hardware unique key are `Config`'s. -/
structure Sec where
  revRsa : Nat := 0
  revSlh : Nat := 0
  rollback : Nat := 0
  custRsa : List Byte := []
  custSlh : List Byte := []
  custLock : Bool := false
  keys : List (Option (List Byte)) := [none, none, none]
  kernel : List Byte := []
  kernelDigest : List Byte := []
  revokeWant : Nat := 0
  runSvn : Nat := 0
  cfgAddr : Option Nat := none
  deriving DecidableEq, Repr

/-- A suppression window (19_faults_recovery.md R483): key, opening instant, records written and suppressed. -/
structure Supp where
  key : Nat
  t0 : Nat
  n : Nat
  dropped : Nat
  deriving DecidableEq, Repr

/-- Burgees and recoveries (R476 to R492). `ring` holds the records newest first. `recov` holds the covered recoveries in
progress, by unit and instant of detection: a pair after a mismatch 0 and 1, after its watchdog 2 and 3, engine i 512 + i after an SRAM error
and 1,024 + i after its watchdog.
`served` is each pair's last checkpoint, `copying` a flash copy of the dump under way, `direct` what that copy holds when no dump
lies in line memory, as offset and bytes, and `restartAt` the instant of an automatic restart. -/
structure Flt where
  ring : List (List Byte) := []
  seq : Nat := 0
  windows : List Supp := []
  recov : List (Nat × Nat) := []
  restartAt : Option Nat := none
  deferAt : Option Nat := none
  deferRaised : Bool := false
  copying : Bool := false
  direct : List (Nat × List Byte) := []
  served : List Nat := [0, 0]
  deriving DecidableEq, Repr

/-- The levels at the pins the block samples, as they last were (20_electrical.md R497, 18_power_startup.md R464, R466,
16_management_buses.md R422), and the bits that the counting frame of a broken ring returns (05_illumination.md R137).
Assumption log 6. -/
structure Env where
  pwrFail : Bool := false
  estop : Bool := false
  testMode : Bool := false
  strap : Nat := 0
  holdupCode : Nat := 0
  rings : List (Option Nat) := []
  deriving DecidableEq, Repr

/-- The state of the block. `pending` is the queue of commands that wait; `free` counts the free values drawn
(`Config.freeValue`) and `out` records what the block puts out, newest first: both are the model's own. `bad` names the words
of line memory that hold an uncorrectable error, `scrub` the scrubber's next word (13_memory_block_mover.md R337, R339). -/
structure State where
  pending : List Instr
  free : Nat
  out : List Out
  env : Env
  tb : Nat
  op : Op
  seasons : List Season
  regs : List (Nat × Nat)
  mem : List Host.Cell
  bad : List Nat
  scrub : Nat
  banks : List Bank
  cmds : List CmdPath
  bmp : Bmp
  job : Job
  ops : Ops
  lanes : List Lane
  bar : List TileDev
  bcbs : List Bcb
  encs : List Enc
  sched : Sched
  chains : List Chain
  drivers : List Driver
  engs : List Eng
  prod : Produce
  ana : Ana
  groups : List Group
  axes : List Axis
  scan : Scan
  mon : Mon
  sessions : List Session
  ports : List Port
  bmb : Bmb
  sec : Sec
  flt : Flt
  deriving DecidableEq, Repr

/-- The block right after an always-on power-on (18_power_startup.md R458): BOOT, every field at its Reset value, memory
with nothing listed, TB_NOW 0, the burgee ring empty, every axis with MICROSTEP_UNKNOWN and POSITION_LOST (R291). What
the manual gives no reset value for is named in assumption log 7, 8 and 9: only the always-on domain is in Summer, the bar
has no tile and no driver, and the flash is erased. -/
def State.reset : State where
  pending := []
  free := 0
  out := []
  env := {}
  tb := 0
  op := .boot
  seasons := List.replicate 145 .winter ++ [.summer]
  regs := [F.MOT_AXIS_STATUS_POSITION_LOST, F.MOT_AXIS_STATUS_MICROSTEP_UNKNOWN].flatMap (fun f =>
    (List.range 8).map (fun ax => (f.key 0 ax, 1)))
  mem := []
  bad := []
  scrub := 0
  banks := List.replicate 10 {}
  cmds := List.replicate 10 {}
  bmp := {}
  job := {}
  ops := {}
  lanes := List.replicate 512 {}
  bar := List.replicate 512 {}
  bcbs := List.replicate 4 {}
  encs := List.replicate 8 {}
  sched := {}
  chains := List.replicate 4 {}
  drivers := List.replicate 256 {}
  engs := List.replicate 512 {}
  prod := {}
  ana := {}
  groups := List.replicate 4 {}
  axes := List.replicate 8 {}
  scan := {}
  mon := {}
  sessions := List.replicate 8 {}
  ports := List.replicate 17 {}
  bmb := {}
  sec := {}
  flt := {}

end Sys2Proof.Machine
end

