-- ==== Sys2Proof/Machine/Ops.lean ====
section
/-! DEFINITION. The named operations over memory, the register file, time, output, event lines and burgees. -/

namespace Sys2Proof.Machine

/-! Memory: one sparse list over the 40-bit addresses of the block mover (13_memory_block_mover.md R348). -/

/-- What an address that is not listed reads as: 0xFF in the flash (space 0x4), which an erase leaves; the identity curve of
09_output_analytics.md R241 in an engine's table memory (space 0x2), four channels of 4,096 half-words with entry k = 16·k;
and 0 elsewhere (R334, 18_power_startup.md R450). Assumption log 11. -/
def Memory.dflt (a : Nat) : Byte :=
  if a / 2 ^ 36 = 4 then 0xFF
  else if a / 2 ^ 36 = 2 ∧ a % 2 ^ 18 < 32768 then BitVec.ofNat 8 (16 * (a / 2 % 4096) / 256 ^ (a % 2))
  else 0

/-- The canonical form: addresses strictly rising from `lo`, no entry equal to what it would read as unlisted. -/
def Memory.wfFrom (lo : Nat) : List Host.Cell → Bool
  | [] => true
  | (a, b) :: m => decide (lo ≤ a) && (b != Memory.dflt a) && Memory.wfFrom (a + 1) m

/-- Memory is in its canonical form. -/
def Memory.wf (m : List Host.Cell) : Bool := Memory.wfFrom 0 m

/-- One byte of memory. -/
def Memory.get (a : Nat) : List Host.Cell → Byte
  | [] => Memory.dflt a
  | (k, b) :: m => if k = a then b else Memory.get a m

/-- `n` bytes from address `a`, given the cells at or above `a`. -/
def Memory.readGo : Nat → Nat → List Host.Cell → List Byte
  | 0, _, _ => []
  | n + 1, a, [] => Memory.dflt a :: Memory.readGo n (a + 1) []
  | n + 1, a, (k, b) :: m =>
    if k = a then b :: Memory.readGo n (a + 1) m
    else Memory.dflt a :: Memory.readGo n (a + 1) ((k, b) :: m)

/-- `n` bytes from address `a`. -/
def Memory.read (m : List Host.Cell) (a n : Nat) : List Byte := Memory.readGo n a (m.dropWhile (fun c => c.1 < a))

/-- The cells that bytes from address `a` make. -/
def Memory.cells : Nat → List Byte → List Host.Cell
  | _, [] => []
  | a, b :: l => if b = Memory.dflt a then Memory.cells (a + 1) l else (a, b) :: Memory.cells (a + 1) l

/-- The bytes `l` written from address `a`. -/
def Memory.write (m : List Host.Cell) (a : Nat) (l : List Byte) : List Host.Cell :=
  m.takeWhile (fun c => c.1 < a) ++ Memory.cells a l ++ m.dropWhile (fun c => c.1 < a + l.length)

/-- The cells of `n` addresses from `a` made to read as unlisted. -/
def Memory.clear (m : List Host.Cell) (a n : Nat) : List Host.Cell :=
  m.takeWhile (fun c => c.1 < a) ++ m.dropWhile (fun c => c.1 < a + n)

/-- One byte put into its place. -/
def Memory.insert (a : Nat) (b : Byte) : List Host.Cell → List Host.Cell
  | [] => if b = Memory.dflt a then [] else [(a, b)]
  | (k, c) :: m =>
    if a < k then (if b = Memory.dflt a then (k, c) :: m else (a, b) :: (k, c) :: m)
    else if a = k then (if b = Memory.dflt a then m else (a, b) :: m)
    else (k, c) :: Memory.insert a b m

/-- The canonical form of a list of cells. -/
def Memory.tidy (m : List Host.Cell) : List Host.Cell :=
  if Memory.wf m then m else m.foldr (fun c acc => Memory.insert c.1 c.2 acc) []

/-- The bases of the address spaces of R348. -/
def spaceQdr : Nat := 0
def spaceSram : Nat := 2 ^ 36
def spaceTable : Nat := 2 * 2 ^ 36
def spaceCtl : Nat := 3 * 2 ^ 36
def spaceFlash : Nat := 4 * 2 ^ 36

/-- Offset `o` of engine `i`'s local SRAM (R348). -/
def sramAddr (i o : Nat) : Nat := spaceSram + i * 2 ^ 18 + o

/-- Bank A (0) or B (1) of engine `i` (R348). -/
def bankAddr (i bank : Nat) : Nat := sramAddr i (if bank = 0 then 0x1E60 else 0x4B60)

def State.readMem (s : State) (a n : Nat) : List Byte := Memory.read s.mem a n

/-- Bytes written; an uncorrectable word of line memory that they replace whole is correct again (13_memory_block_mover.md
R337). -/
def State.writeMem (s : State) (a : Nat) (l : List Byte) : State :=
  { s with mem := Memory.write s.mem a l, bad := s.bad.filter (fun w => decide (w < a) || decide (a + l.length < w + 8)) }
def State.clearMem (s : State) (a n : Nat) : State := { s with mem := Memory.clear s.mem a n }

/-! The register file: fields that hold a value other than their Reset value, by key, in rising order. -/

/-- The register file's form: keys strictly rising. -/
def Regs.wfFrom (lo : Nat) : List (Nat × Nat) → Bool
  | [] => true
  | (a, _) :: m => decide (lo ≤ a) && Regs.wfFrom (a + 1) m

def Regs.wf (m : List (Nat × Nat)) : Bool := Regs.wfFrom 0 m

/-- The listed value of a key. -/
def Regs.get (k : Nat) : List (Nat × Nat) → Option Nat
  | [] => none
  | (a, v) :: m => if a = k then some v else if k < a then none else Regs.get k m

/-- The key bound to a value. -/
def Regs.set (k v : Nat) : List (Nat × Nat) → List (Nat × Nat)
  | [] => [(k, v)]
  | (a, w) :: m =>
    if k < a then (k, v) :: (a, w) :: m
    else if k = a then (k, v) :: m
    else (a, w) :: Regs.set k v m

/-- The key unlisted. -/
def Regs.del (k : Nat) : List (Nat × Nat) → List (Nat × Nat)
  | [] => []
  | (a, w) :: m => if k = a then m else if k < a then (a, w) :: m else (a, w) :: Regs.del k m

/-- The canonical form of a register file. -/
def Regs.tidy (m : List (Nat × Nat)) : List (Nat × Nat) :=
  if Regs.wf m then m else m.foldr (fun c acc => Regs.set c.1 c.2 acc) []

/-- The stored value of instance `k`, `inst` of a field. -/
def State.fldAt (s : State) (f : Fld) (k inst : Nat) : Nat := (Regs.get (f.key k inst) s.regs).getD (f.resetAt k)

/-- A field's value stored, unlisted where it is the Reset value. -/
def State.setFldAt (s : State) (f : Fld) (k inst v : Nat) : State :=
  { s with regs :=
      if v % 2 ^ f.width = f.resetAt k then Regs.del (f.key k inst) s.regs
      else Regs.set (f.key k inst) (v % 2 ^ f.width) s.regs }

/-- A field by one index: the array index of an array register, else the window instance. -/
def State.fld (s : State) (f : Fld) (i : Nat := 0) : Nat :=
  if f.stride = 0 then s.fldAt f 0 i else s.fldAt f i 0

/-- A field stored by one index. -/
def State.setFld (s : State) (f : Fld) (v : Nat) (i : Nat := 0) : State :=
  if f.stride = 0 then s.setFldAt f 0 i v else s.setFldAt f i 0 v

/-- A one-bit field as a truth value. -/
def State.bit (s : State) (f : Fld) (i : Nat := 0) : Bool := s.fld f i = 1

/-- A signed field. -/
def State.sfld (s : State) (f : Fld) (i : Nat := 0) : Int := toSigned f.width (s.fld f i)

/-- A signed value stored in a field. -/
def State.setSFld (s : State) (f : Fld) (v : Int) (i : Nat := 0) : State := s.setFld f (ofSigned f.width v) i

/-- A saturating counter increased. -/
def State.count (s : State) (f : Fld) (i : Nat := 0) (n : Nat := 1) : State := s.setFld f (satAdd f.width (s.fld f i) n) i

/-- A wrapping counter increased. -/
def State.wrapInc (s : State) (f : Fld) (i : Nat := 0) : State := s.setFld f (s.fld f i + 1) i

/-- Several fields stored. -/
def State.setFlds (s : State) (l : List (Fld × Nat)) (i : Nat := 0) : State :=
  l.foldl (fun s x => s.setFld x.1 x.2 i) s

/-- Every field of a block of addresses unlisted, so that each reads its Reset value, but for the keys `keep` selects. -/
def State.resetRegs (s : State) (keep : Nat → Bool) : State := { s with regs := s.regs.filter (fun c => keep c.1) }

/-! Time, output, event lines. -/

/-- By how much TB_NOW advances at a time (04_position_scheduler.md R95): by 1, and by 40 at each REFCLK cycle while the timebase
PLL, which lies in UNC (18_power_startup.md R448), is off. -/
def State.tbStep (s : State) : Nat := if nthD .winter s.seasons 144 = .winter then 40 else 1

/-- TB_NOW brought to the instant `t` of an event; it never goes backwards (R95). -/
def State.at (s : State) (t : Nat) : State := { s with tb := s.tb + (t - s.tb) / s.tbStep * s.tbStep }

/-- An output recorded. -/
def State.emit (s : State) (o : Out) : State := { s with out := o :: s.out }

/-- What every command leaves in order: the queue as the command found it, time that has not gone back (R95), and memory
and register file in their canonical forms. -/
def State.finish (s0 s : State) : State :=
  { s with pending := s0.pending, tb := max s0.tb s.tb, mem := Memory.tidy s.mem, regs := Regs.tidy s.regs }

/-- The outcome of a command whose effect is `s`. -/
def done (s0 s : State) : Host.Outcome State Fault Refusal := .next (State.finish s0 s)

/-- One cycle of the timebase with no command waiting (R94, R95). Assumption log 10. -/
def idleTick (s : State) : State := { s with tb := s.tb + s.tbStep }

/-- A free value drawn (assumption log 2). -/
def State.draw (s : State) : Nat × State := (Config.freeValue s.free, { s with free := s.free + 1 })

/-- The index of a path among the ten banks (21_register_map.md R527). -/
def pathIdx : Path → Nat
  | .sess k => k
  | .bmp => 8
  | .fw => 9

def State.bank (s : State) (p : Path) : Bank := nthD {} s.banks (pathIdx p)
def State.modBank (s : State) (p : Path) (f : Bank → Bank) : State := { s with banks := modifyNth f (pathIdx p) s.banks }
def State.cmd (s : State) (p : Path) : CmdPath := nthD {} s.cmds (pathIdx p)
def State.modCmd (s : State) (p : Path) (f : CmdPath → CmdPath) : State := { s with cmds := modifyNth f (pathIdx p) s.cmds }
def State.lane (s : State) (i : Nat) : Lane := nthD {} s.lanes i
def State.modLane (s : State) (i : Nat) (f : Lane → Lane) : State := { s with lanes := modifyNth f i s.lanes }
def State.tile (s : State) (i : Nat) : TileDev := nthD {} s.bar i
def State.modTile (s : State) (i : Nat) (f : TileDev → TileDev) : State := { s with bar := modifyNth f i s.bar }
def State.bcb (s : State) (g : Nat) : Bcb := nthD {} s.bcbs g
def State.modBcb (s : State) (g : Nat) (f : Bcb → Bcb) : State := { s with bcbs := modifyNth f g s.bcbs }
def State.enc (s : State) (k : Nat) : Enc := nthD {} s.encs k
def State.modEnc (s : State) (k : Nat) (f : Enc → Enc) : State := { s with encs := modifyNth f k s.encs }
def State.chain (s : State) (c : Nat) : Chain := nthD {} s.chains c
def State.modChain (s : State) (c : Nat) (f : Chain → Chain) : State := { s with chains := modifyNth f c s.chains }
def State.driver (s : State) (d : Nat) : Driver := nthD {} s.drivers d
def State.modDriver (s : State) (d : Nat) (f : Driver → Driver) : State := { s with drivers := modifyNth f d s.drivers }
def State.eng (s : State) (i : Nat) : Eng := nthD {} s.engs i
def State.modEng (s : State) (i : Nat) (f : Eng → Eng) : State := { s with engs := modifyNth f i s.engs }
def State.group (s : State) (g : Nat) : Group := nthD {} s.groups g
def State.modGroup (s : State) (g : Nat) (f : Group → Group) : State := { s with groups := modifyNth f g s.groups }
def State.axis (s : State) (x : Nat) : Axis := nthD {} s.axes x
def State.modAxis (s : State) (x : Nat) (f : Axis → Axis) : State := { s with axes := modifyNth f x s.axes }
def State.session (s : State) (k : Nat) : Session := nthD {} s.sessions k
def State.modSess (s : State) (k : Nat) (f : Session → Session) : State := { s with sessions := modifyNth f k s.sessions }
def State.modId (s : State) (k : Nat) (f : SessId → SessId) : State := s.modSess k (fun x => { x with id := f x.id })
def State.modTx (s : State) (k : Nat) (f : SessTx → SessTx) : State := s.modSess k (fun x => { x with tx := f x.tx })
def State.port (s : State) (q : Nat) : Port := nthD {} s.ports q
def State.modPort (s : State) (q : Nat) (f : Port → Port) : State := { s with ports := modifyNth f q s.ports }
def State.conv (s : State) (k : Nat) : Conv := nthD {} s.mon.convs k
def State.modConv (s : State) (k : Nat) (f : Conv → Conv) : State :=
  { s with mon := { s.mon with convs := modifyNth f k s.mon.convs } }

/-- The season of a domain, and of tile `i`'s quad (18_power_startup.md R448). -/
def State.season (s : State) (d : Nat) : Season := nthD .winter s.seasons d
def State.setSeason (s : State) (d : Nat) (v : Season) : State := { s with seasons := s.seasons.set d v }
def State.quad (s : State) (i : Nat) : Season := s.season (i / 4)
def State.quadUp (s : State) (i : Nat) : Bool := s.quad i = .summer

/-- A pulse on event line `k` (21_register_map.md R534): its count and instant, the trigger of an armed event swap (R179,
R181). Pulses in the same nanosecond make one (13_memory_block_mover.md R352). -/
def State.pulseEv (s : State) (k : Nat) : State :=
  if s.fld F.SYS_EV_CNTk_COUNT k ≠ 0 ∧ s.fld F.SYS_EV_LASTk_NS k = s.tb % 2 ^ 32 then s
  else
    let s := ((s.wrapInc F.SYS_EV_CNTk_COUNT k).setFld F.SYS_EV_LASTk_NS s.tb k).emit (.event k)
    if s.bit F.PIPE_BANK_STATUS_ARMED ∧ s.fld F.PIPE_BANK_CTRL_SWAP_MODE = 1 ∧ s.fld F.PIPE_BANK_CTRL_SWAP_EV = k then
      (if s.bit F.PIPE_BANK_STATUS_PENDING then s.setFld F.PIPE_BANK_STATUS_MERGED 1
       else s.setFld F.PIPE_BANK_STATUS_PENDING 1)
    else s

/-- The codes of the operating states (21_register_map.md R532). -/
def Op.code : Op → Nat
  | .boot => 0
  | .idle => 1
  | .calibrating => 2
  | .armed => 3
  | .running => 4
  | .holding => 5
  | .draining => 6
  | .faultHold => 7
  | .service => 8

/-- The codes of the seasons (18_power_startup.md R469). -/
def Season.code : Season → Nat
  | .winter => 0
  | .spring => 1
  | .summer => 2
  | .autumn => 3

/-- A range of tiles, of the 512 that the bar has (02_sensor_bar.md R40). -/
def tilesOf (first count : Nat) : List Nat := ((List.range count).map (· + first)).filter (fun i => decide (i < 512))

/-- The span tiles of the defined job (R40), empty with no job. -/
def State.span (s : State) : List Nat := if s.job.defined then tilesOf s.job.first s.job.count else []

/-- Tile `i` lies in the span. -/
def State.inSpan (s : State) (i : Nat) : Bool :=
  s.job.defined && decide (s.job.first ≤ i) && decide (i < s.job.first + s.job.count)

/-- The tiles that an operation works on: the measured range of a CAL_ALIGN or CAL_THERMAL (08_calibration.md R227, R233),
else the span of the defined job. -/
def State.work (s : State) : Option (Nat × Nat) :=
  match s.ops.align, s.ops.therm with
  | some a, _ => some (a.first, a.count)
  | none, some h => some (h.first, h.count)
  | none, none => if s.job.defined then some (s.job.first, s.job.count) else none

def State.workTiles (s : State) : List Nat :=
  match s.work with
  | some (f, n) => tilesOf f n
  | none => []

def State.inWork (s : State) (i : Nat) : Bool :=
  match s.work with
  | some (f, n) => decide (f ≤ i) && decide (i < f + n)
  | none => false

/-- The illumination chains and BCB and BSTB segments that serve a tile worked on (R44). -/
def State.drives (s : State) (c : Nat) : Bool :=
  match s.work with
  | some (f, n) => decide (f < 128 * (c + 1)) && decide (128 * c < f + n)
  | none => false

def State.driven (s : State) : List Nat := (List.range 4).filter s.drives

/-- Position of the line master (04_position_scheduler.md R99). -/
def State.masterIdx (s : State) : Nat := s.fld F.SCHED_CTRL_MASTER
def State.masterPos (s : State) : Int := (s.enc s.masterIdx).pos

/-- The states in which a job is armed or runs (R19). -/
def Op.inJob : Op → Bool
  | .calibrating | .armed | .running | .holding | .draining => true
  | _ => false

/-! Burgees (19_faults_recovery.md R481 to R484). -/

/-- Classes of a burgee. -/
def clsWarn : Nat := 1
def clsRecovered : Nat := 2
def clsFatal : Nat := 3

/-- A suppression key: SOURCE, CODE and INDEX. -/
def suppKey (src code idx : Nat) : Nat := (src * 256 + code) * 65536 + idx

/-- A record put into the ring, whatever the windows say (R483): the sequence number increases first, and a record that
overwrites one not yet copied to flash counts as lost. -/
def State.pushBurgee (s : State) (src cls code idx act recov detail : Nat) : State :=
  let seq := s.flt.seq + 1
  let pos := if s.bit F.ENC_CFG_ENABLE s.masterIdx then ofSigned 48 s.masterPos else 0
  let rec_ := be 8 s.tb ++ be 6 pos ++ be 1 src ++ be 1 cls ++ be 2 code ++ be 2 idx ++ be 1 act ++ be 1 s.op.code
    ++ be 2 seq ++ be 4 recov ++ be 4 detail
  let s := if 1024 ≤ s.flt.ring.length ∧ s.fld F.FLT_RING_FLASHED_SEQ < seq - 1024
    then s.count F.FLT_RING_LOST_CNT_COUNT else s
  { s with flt := { s.flt with ring := rec_ :: s.flt.ring.take 1023, seq := seq } }

/-- A window's end (R483): one SUPPRESSED record where it suppressed any. -/
def State.closeWindow (s : State) (w : Supp) : State :=
  let s := { s with flt := { s.flt with windows := s.flt.windows.filter (fun x => x.key ≠ w.key) } }
  if w.dropped = 0 then s
  else s.pushBurgee 0 clsWarn 6 (w.key / 65536 % 256) 0 0 w.dropped

/-- A burgee raised (R481, R483): the first 16 of a key within 1 s are written, further ones counted. -/
def State.burgee (s : State) (src cls code : Nat) (idx : Nat := 0xFFFF) (act : Nat := 0) (detail : Nat := 0)
    (recov : Nat := 0) : State :=
  if cls = clsFatal then s.pushBurgee src cls code idx act recov detail
  else
    let key := suppKey src code idx
    let s := match s.flt.windows.find? (fun w => w.key = key) with
      | some w => if w.t0 + 1000000000 ≤ s.tb then s.closeWindow w else s
      | none => s
    match s.flt.windows.find? (fun w => w.key = key) with
    | none =>
      let s := s.pushBurgee src cls code idx act recov detail
      { s with flt := { s.flt with windows := { key := key, t0 := s.tb, n := 1, dropped := 0 } :: s.flt.windows } }
    | some w =>
      let set := fun (w' : Supp) (s : State) =>
        { s with flt := { s.flt with windows := w' :: s.flt.windows.filter (fun x => x.key ≠ key) } }
      if w.n < 16 then set { w with n := w.n + 1 } (s.pushBurgee src cls code idx act recov detail)
      else set { w with dropped := w.dropped + 1 } (s.count F.FLT_SUPPRESSED_CNT_COUNT)

/-- A burgee raised once per job for `key` (R63 and the rules like it). -/
def State.burgeeOnce (s : State) (key : Nat) (src code idx : Nat) (detail : Nat := 0) : State :=
  if s.job.warned.contains key then s
  else ({ s with job := { s.job with warned := key :: s.job.warned } }).burgee src clsWarn code idx 0 detail

/-- A covered recovery ended (R471): its counters and its burgee, with the time since detection. -/
def State.recovered (s : State) (src code idx act detail t0 : Nat) : State :=
  let ns := s.tb - t0
  let s := s.count F.FLT_RECOVER_CNT_COUNT
  let s := s.setFld F.FLT_RECOVER_MAX_NS (max (s.fld F.FLT_RECOVER_MAX_NS) (min ns 0xFFFFFFFF))
  s.burgee src clsRecovered code idx act detail ns

end Sys2Proof.Machine
end

