-- ==== Sys2Proof/Machine/MotionOps.lean ====
section
/-! DEFINITION. Axes and groups (10_motion.md): following error, current, step generation, profiles, joints, stops, the
enabling of an axis and the phases of a homing search. -/

namespace Sys2Proof.Machine

/-- The rate unit: 1/(256·10^9) steps/s, in which the profile generator's values are exact (R277). -/
def rateUnit : Nat := 256 * 10 ^ 9

/-- An unsigned 24.8 rate in rate units. -/
def rateOf (v : Nat) : Nat := v * 10 ^ 9

/-- The velocity word of a rate (R273), at most 0x0666_6666_6666. -/
def velWord (rate : Nat) : Nat := min 0x066666666666 (rheDiv (rate * 2 ^ 48) (rateUnit * 200000000)).toNat

/-- The axes of group `g` (R270). -/
def State.axesOf (s : State) (g : Nat) : List Nat := (List.range 8).filter (fun x => s.fld F.MOT_AXIS_CFG_GROUP x = g)

/-- VSTART of a group. -/
def State.vstart (s : State) (g : Nat) : Nat := rateOf (s.fld F.MOT_GRP_VSTART_RATE g)

/-- The 24.8 rate of an axis brings its rising edges closer than 2 × PW × 5 ns (R274). -/
def State.pulsesClash (s : State) (x v : Nat) : Bool := decide (10 ^ 8 * 256 < v * s.fld F.MOT_AXIS_TIMING_PW x)

/-- The highest 24.8 rate that no axis of the group's pulses forbids (R274). -/
def State.pulseTop (s : State) (g : Nat) : Nat :=
  (s.axesOf g).foldl (fun v x => min v (10 ^ 8 * 256 / max 1 (s.fld F.MOT_AXIS_TIMING_PW x))) (5000000 * 256)

/-- The encoder position of an axis's bound encoder (R284). -/
def State.encOf (s : State) (x : Nat) : Int := (s.enc (s.fld F.MOT_AXIS_CFG_ENC x)).pos

/-- The steps that the encoder shows since POS_REF and E_REF were taken (R284). -/
def State.encSteps (s : State) (x : Nat) : Int :=
  rheShift (s.sfld F.MOT_AXIS_RATIO_RATIO x * wrapS 48 (s.encOf x - (s.axis x).encRef)) 16

/-- The following error of an axis; 0 without an encoder (R284). -/
def State.followErr (s : State) (x : Nat) : Int :=
  if s.bit F.MOT_AXIS_CFG_ENC_EN x then wrapS 48 ((s.axis x).pos - (s.axis x).posRef) - s.encSteps x else 0

/-- POS_REF and E_REF taken together (R284). -/
def State.takeRefs (s : State) (x : Nat) : State :=
  s.modAxis x (fun a => { a with posRef := a.pos, encRef := s.encOf x, ferrOver := 0 })

/-- The position taken from the encoder (R288). -/
def State.takeEnc (s : State) (x : Nat) : State :=
  (s.modAxis x (fun a => { a with pos := wrapS 48 (a.posRef + s.encSteps x) })).takeRefs x

/-- The group is moving or homing (R270, R294). -/
def State.groupMoving (s : State) (g : Nat) : Bool := (s.group g).run.isSome || (s.group g).homing.isSome

/-- The group moves or holds queued moves. -/
def State.groupBusy (s : State) (g : Nat) : Bool := s.groupMoving g || !(s.group g).queue.isEmpty

/-- The axis emits steps or homes. -/
def State.axisMoving (s : State) (x : Nat) : Bool :=
  let g := s.group (s.fld F.MOT_AXIS_CFG_GROUP x)
  decide (s.fld F.MOT_AXIS_CFG_GROUP x < 4) &&
    ((g.run.any (fun r => nthD 0 r.delta x ≠ 0)) || g.homing.any (fun h => h.axis = x))

/-- The axis is being homed. -/
def State.axisHoming (s : State) (x : Nat) : Bool :=
  decide (s.fld F.MOT_AXIS_CFG_GROUP x < 4) &&
    (s.group (s.fld F.MOT_AXIS_CFG_GROUP x)).homing.any (fun h => h.axis = x)

/-- A group comes to rest; with the strip back at PARK firmware uses it no longer (R272). -/
def State.restGroup (s : State) (g : Nat) : State :=
  let s := s.modGroup g (fun x => if x.back && x.queue.isEmpty then { x with used := false, back := false } else x)
  (s.axesOf g).foldl (fun s x => s.modAxis x (fun a => { a with restAt := s.tb })) s

/-- An immediate stop of a group (R287, R288): accumulators and queue emptied, positions taken from the encoders or
lost. -/
def State.immediateStop (s : State) (g : Nat) : State :=
  let s := s.modGroup g (fun x => { x with queue := [], run := none, homing := none, halting := false, used := x.used && !x.back, back := false })
  (s.axesOf g).foldl (fun s x =>
    let s := s.modAxis x (fun a => { a with restAt := s.tb })
    if s.bit F.MOT_AXIS_CFG_ENC_EN x then s.takeEnc x else s.setFld F.MOT_AXIS_STATUS_POSITION_LOST 1 x) s

/-- The level of AXn_DIR for a direction (10_motion.md, "Axes and groups"): 0 for positive motion, inverted by DIR_INV. -/
def State.dirLevel (s : State) (x : Nat) (positive : Bool) : Bool := positive = s.bit F.MOT_AXIS_CFG_DIR_INV x

/-- Every DRV_EN taken to its disabled level (R287). -/
def State.disableAxis (s : State) (x : Nat) : State :=
  ((s.modAxis x (fun a => { a with canMove := false, enabling := none })).setFlds
    [(F.MOT_AXIS_STATUS_ENABLED, 0), (F.MOT_AXIS_STATUS_IREF, 0), (F.MOT_AXIS_STATUS_BOOSTING, 0)] x).emit (.drvEn x (s.bit F.MOT_AXIS_CFG_EN_POL x))

/-- An immediate stop of all groups (R287), with the drivers disabled when ESTOP_DRV_DIS is set. -/
def State.stopAllAxes (s : State) : State :=
  let s := (List.range 4).foldl State.immediateStop s
  if s.bit F.MOT_CFG_ESTOP_DRV_DIS then (List.range 8).foldl State.disableAxis s else s

/-- A halt on the profile (R289): a running move brakes to VSTART, the queue is emptied. -/
def State.haltGroup (s : State) (g : Nat) : State :=
  let x := s.group g
  if x.run.isSome then
    s.modGroup g (fun x => { x with queue := x.queue.take 1, halting := true })
  else match x.homing with
    | some h => s.modGroup g (fun x => { x with queue := [], homing := some { h with phase := 6 }, halting := true })
    | none => s.modGroup g (fun x => { x with queue := [] })

/-- The current reference code of an axis (R285), low in FAULT_HOLD (20_electrical.md R509). -/
def State.irefCode (s : State) (x : Nat) : Nat × Bool :=
  if !s.bit F.MOT_AXIS_STATUS_ENABLED x ∨ s.op = .faultHold then (0, false)
  else
    let base : Int := if (s.axis x).hold then s.fld F.MOT_AXIS_IREF_HOLD x else s.fld F.MOT_AXIS_IREF_RUN x
    let boost : Int := s.fld F.MOT_AXIS_BOOST_BOOST x
    let th := s.fld F.MOT_AXIS_WINDOW_BOOST_TH x
    let e := (s.followErr x).natAbs
    let i := if !s.bit F.MOT_AXIS_CFG_ENC_EN x ∨ e ≤ th then base
      else maxI base (minI boost (base + rheDiv ((boost - base) * (e - th : Nat)) (s.fld F.MOT_AXIS_WINDOW_WINDOW x - th)))
    (i.toNat, decide (base < i))

/-- The current reference of an axis put out. -/
def State.setIref (s : State) (x : Nat) : State :=
  s.setFlds [(F.MOT_AXIS_STATUS_IREF, (s.irefCode x).1), (F.MOT_AXIS_STATUS_BOOSTING, b2n (s.irefCode x).2)] x

/-- The pins of an axis driven once the config block has been loaded (R269): STEP and DIR at their inactive levels, DRV_EN at its
disabled one. -/
def State.axisPins (s : State) (x : Nat) : State :=
  let s := s.modAxis x (fun a => { a with driven := true, positive := true })
  let s := s.emit (.steps x 0 (s.bit F.MOT_AXIS_CFG_STEP_INV x) 0)
  (s.emit (.dir x (s.dirLevel x true))).emit (.drvEn x (s.bit F.MOT_AXIS_CFG_EN_POL x))

/-- The axis is enabled (R292): DRV_EN active, free to move after 1 ms, references taken afresh, STALL cleared. -/
def State.driveOn (s : State) (x : Nat) : State :=
  let s := if s.bit F.MOT_AXIS_CFG_ENC_EN x then s.takeRefs x else s
  let s := s.setFlds [(F.MOT_AXIS_STATUS_ENABLED, 1), (F.MOT_AXIS_STATUS_STALL, 0)] x
  let s := s.modAxis x (fun a => { a with enabling := if a.canMove then none else some (s.tb + 1000000), ferrOver := 0 })
  (s.setIref x).emit (.drvEn x !s.bit F.MOT_AXIS_CFG_EN_POL x)

/-- The enabling of an axis (R292): `false` with POS_MISMATCH set when the held position and the encoder disagree. -/
def State.enableAxis (s : State) (x : Nat) (takeEnc : Bool) : State × Bool :=
  if s.bit F.MOT_AXIS_CFG_ENC_EN x ∧ takeEnc then ((s.takeEnc x).setFld F.MOT_AXIS_STATUS_POS_MISMATCH 0 x |>.driveOn x, true)
  else if s.bit F.MOT_AXIS_CFG_ENC_EN x ∧ (s.fld F.MOT_AXIS_WINDOW_WINDOW x : Int) < (s.followErr x).natAbs then
    ((s.disableAxis x).setFld F.MOT_AXIS_STATUS_POS_MISMATCH 1 x, false)
  else (s.driveOn x, true)

/-! Profiles (R277, R278, R281, R282). -/

/-- Time in ns, rounded up, to fall by `dv` rate units on an S-curve of acceleration `a` steps/s² and jerk `j` (1,000
steps/s³). -/
def scurveNs (dv a j : Nat) : Nat :=
  if a * a * rateUnit ≤ dv * j * 1000 then ceilDiv (dv * 10 ^ 9) (a * rateUnit) + ceilDiv (a * 10 ^ 6) j
  else 2 * (isqrt (ceilDiv (dv * 10 ^ 15) (j * rateUnit)) + 1)

/-- The rate at which a braking move makes its last step (R278): what one step at A leaves of the end rate. -/
def lastRate (e a : Nat) : Nat := isqrt (e * e + 2 * a * rateUnit * rateUnit)

/-- The braking distance from rate `r` to `e` at A and J, rounded up to a whole step (R278). `acc` is the acceleration
that must first fall to 0, in 1/1,000 steps/s²; the S-curve ends at the last step's rate. -/
def brakeSteps (r e a j acc : Nat) : Nat :=
  if r ≤ e then 0
  else if j = 0 then ceilDiv (r * r - e * e) (2 * a * rateUnit * rateUnit)
  else
    let e := lastRate e a
    let t1 := ceilDiv (acc * 1000) j
    let r1 := r + ceilDiv (acc * acc * 128) j
    ceilDiv (r1 * t1) (rateUnit * 10 ^ 9) - acc ^ 3 / (6 * 10 ^ 15 * j ^ 2) + ceilDiv ((r1 + e) * scurveNs (r1 - e) a j) (2 * rateUnit * 10 ^ 9)

/-- One bisection round of the highest rate from which `e` can be reached within `n` steps. -/
def maxEntryGo (e a j n : Nat) : Nat → Nat → Nat
  | 0, r => r
  | k + 1, r => maxEntryGo e a j n k (if brakeSteps (r + 2 ^ k) e a j 0 ≤ n then r + 2 ^ k else r)

/-- The highest rate, at most `top`, from which `e` can be reached within `n` steps (R282). -/
def maxEntry (e a j n top : Nat) : Nat := min top (maxEntryGo e a j n 61 0)

/-- The index of the largest |Δ|, the lowest on a tie (R279). -/
def masterOf (d : List Int) : Nat :=
  let m := maxN (d.map Int.natAbs)
  ((List.range d.length).find? (fun i => (nthD 0 d i).natAbs = m)).getD 0

/-- |Δ| of the master. -/
def masterLen (d : List Int) : Nat := maxN (d.map Int.natAbs)

/-- The junction rates of two moves (R281): the end rate of the first and the start rate of the second, or none when the
joint is not blended. -/
def junction (m1 : Move) (d1 : List Int) (m2 : Move) (d2 : List Int) (tol vs : Nat) : Option (Nat × Nat) :=
  let n1 := masterLen d1
  let n2 := masterLen d2
  let s1 := nthD 0 d1 (masterOf d1)
  let s2 := nthD 0 d2 (masterOf d2)
  let reversed := (List.range 8).any (fun x => decide (nthD 0 d1 x * nthD 0 d2 x < 0))
  if !m2.blend || tol = 0 || n1 = 0 || n2 = 0 || reversed then none
  else
    let num := maxN ((List.range 8).map (fun x =>
      (m1.v * nthD 0 d1 x * s2 - m2.v * nthD 0 d2 x * s1).natAbs))
    let den := n1 * n2
    let k := fun (v : Nat) => if num ≤ tol * 256 * den then rateOf v
      else (rheDiv (rateOf v * (tol * 256 * den)) num).toNat
    if k m1.v < vs ∨ k m2.v < vs then none else some (k m1.v, k m2.v)

/-- The steps of each axis from position `pos` for an entry (R280). -/
def entryDelta (s : State) (g : Nat) (pos : List Int) (m : Move) : List Int :=
  (List.range 8).map (fun x =>
    if (s.axesOf g).contains x then
      (if m.relative then nthD 0 m.targets x else wrapS 48 (nthD 0 m.targets x - nthD 0 pos x))
    else 0)

/-- The joint of a move with `rest` (R281, R282), planned backwards from the newest entry: its end rate, and the start rate of the next
move where the joint is blended. -/
def planEnd (s : State) (g tol vs : Nat) (pos : List Int) (m : Move) (d : List Int) : List Move → Nat × Option Nat
  | [] => (vs, none)
  | m2 :: rest =>
    let pos2 := (List.range 8).map (fun x => wrapS 48 (nthD 0 pos x + nthD 0 d x))
    let d2 := entryDelta s g pos2 m2
    match junction m d m2 d2 tol vs with
    | none => (vs, none)
    | some (k1, k2) =>
      let e2 := (planEnd s g tol vs pos2 m2 d2 rest).1
      let s2 := maxEntry e2 m2.a m2.j (masterLen d2) k2
      let e1 := min k1 (rheDiv (s2 * m.v) m2.v).toNat
      if s2 < vs ∨ e1 < vs then (vs, none) else (e1, some s2)

/-- The start rate of the next move after a joint at rate `rate` (R282): the planned one, lowered with the rate that the move did reach;
none where that falls below VSTART, or where the joint is a stop. -/
def jointRate (vs e rate : Nat) (joint : Option Nat) : Option Nat :=
  match joint with
  | none => none
  | some r2 =>
    let r := if e ≤ rate then r2 else (rheDiv (r2 * rate) (max 1 e)).toNat
    if r < vs then none else some r

/-- The positions of the eight axes. -/
def State.axisPos (s : State) : List Int := s.axes.map (fun a => a.pos)

/-- The direction of the media axis's forward motion (R284, R295). -/
def State.mediaSign (s : State) (x : Nat) : Int := if s.sfld F.MOT_AXIS_RATIO_RATIO x < 0 then -1 else 1

/-- The media axis of a group, if any (R295). -/
def State.mediaAxis (s : State) (g : Nat) : Option Nat :=
  (s.axesOf g).find? (fun x => s.bit F.MOT_AXIS_CFG_MEDIA x)

/-- DIR of an axis brought to a direction (R275): it changes no earlier than DIR_SETUP after the falling edge of the last step, and the
axis is ready to step, in the microsecond that ends now, DIR_SETUP after the change. -/
def State.turnAxis (s : State) (x : Nat) (positive : Bool) : State × Bool :=
  let a := s.axis x
  let setup := 5 * s.fld F.MOT_AXIS_TIMING_DIR_SETUP x
  if a.positive = positive then (s, a.dirAt.all (fun t => decide (t + setup + 1000 ≤ s.tb)))
  else if a.lastStep.all (fun t => decide (t + 5 * s.fld F.MOT_AXIS_TIMING_PW x + setup ≤ s.tb)) then
    ((s.modAxis x (fun a => { a with positive := positive, dirAt := some s.tb })).emit (.dir x (s.dirLevel x positive)), false)
  else (s, false)

/-- The axes that a move steps. -/
def movedAxes (d : List Int) : List Nat := (List.range 8).filter (fun x => nthD 0 d x ≠ 0)

/-- Every axis of a move shows its direction and may step. -/
def State.axesReady (s : State) (d : List Int) : Bool :=
  (movedAxes d).all (fun x => (s.turnAxis x (decide (0 < nthD 0 d x))).2)

/-- The directions of a move put out as far as R275 allows. -/
def State.turnAxes (s : State) (d : List Int) : State :=
  (movedAxes d).foldl (fun s x => (s.turnAxis x (decide (0 < nthD 0 d x))).1) s

/-- A group's axes carry their running current (R285). -/
def State.runCurrent (s : State) (g : Nat) : State := (s.axesOf g).foldl (fun s x => s.modAxis x (fun a => { a with hold := false })) s

/-- A run started for an entry at rate `r0` (R273, R275), no faster than its axes' pulses allow (R274). -/
def State.startRun (s : State) (g : Nat) (m : Move) (d : List Int) (r0 frac : Nat) : State :=
  let m := { m with v := min m.v (s.pulseTop g) }
  let r : Run := ⟨m, masterOf d, d, 0, min r0 (rateOf m.v), 0, 0, frac, false, none⟩
  ((s.runCurrent g).turnAxes d).modGroup g (fun x => { x with run := some r })

/-- The completion of an entry (R283): DONE_TAG, DONE.COUNT and the event line. -/
def State.entryDone (s : State) (g tag : Nat) (counted : Bool) : State :=
  let s := s.setFld F.MOT_GRP_STATUS_DONE_TAG tag g
  let s := if counted then s.wrapInc F.MOT_GRP_DONE_COUNT g else s
  if s.bit F.MOT_GRP_CFG_DONE_EV_EN g then s.pulseEv (s.fld F.MOT_GRP_CFG_DONE_EV g) else s

/-- The oldest entry of a group begins (R280), from rest or, over a blended joint, at a rate and with the accumulator's fraction; a move
of Δ 0 completes at once. -/
def State.startNext (s : State) (g : Nat) (start : Option (Nat × Nat)) : Nat → State
  | 0 => s
  | fuel + 1 =>
    match (s.group g).queue with
    | [] => s.restGroup g
    | m :: rest =>
      if !((s.axesOf g).all (fun x => (s.axis x).canMove)) then s
      else if m.paced then
        match s.mediaAxis g with
        | none => s
        | some x => s.startRun g m ((List.range 8).map (fun y => if y = x then s.mediaSign x * 2 ^ 62 else 0)) (s.vstart g) 0
      else
        let d := entryDelta s g s.axisPos m
        if masterLen d = 0 then
          State.startNext ((s.modGroup g (fun x => { x with queue := rest })).entryDone g m.tag true) g none fuel
        else
          match start with
          | some (r0, frac) => s.startRun g m d (min (rateOf m.v) r0) frac
          | none => s.startRun g m d (s.vstart g) 0

/-- `n` steps of axis `x` in direction `sg` emitted (R290), each pulse PW × 5 ns long (R274). -/
def State.emitSteps (s : State) (x : Nat) (n : Nat) (sg : Int) : State :=
  if n = 0 then s
  else (s.modAxis x (fun a => { a with pos := wrapS 48 (a.pos + sg * n), steps := a.steps + sg * n, lastStep := some s.tb })).emit
    (.steps x (sg * n) (s.bit F.MOT_AXIS_CFG_STEP_INV x) (5 * s.fld F.MOT_AXIS_TIMING_PW x))

/-- The sign of a step count. -/
def dirOf (d : Int) : Int := if d < 0 then -1 else 1

/-- The steps of the running move at the master's step `k` emitted, from `r.made` (R279). -/
def State.stepAxes (s : State) (r : Run) (k : Nat) : State :=
  (List.range 8).foldl (fun s x =>
    let d := nthD 0 r.delta x
    let upTo := fun n => (rheDiv ((n * d.natAbs : Nat) : Int) (masterLen r.delta)).toNat
    s.emitSteps x (upTo k - upTo r.made) (dirOf d)) s

/-- The paced entry's cruise rate, in rate units (R284, R296). -/
def State.pacedRate (s : State) (x pcs : Nat) : Nat :=
  min (5000000 * rateUnit) ((rheShift (pcs * (s.sfld F.MOT_AXIS_RATIO_RATIO x).natAbs) 16).toNat * rateUnit)

/-- The new rate and acceleration of a run toward `target` (R277): up at A, or along J, or down likewise. An acceleration that still
points the other way falls at J, and the rate goes on with it. -/
def nextRate (rate target : Nat) (a j : Nat) (acc : Int) : Nat × Int :=
  let top : Int := a * 1000
  if j = 0 then
    if rate ≤ target then (min target (rate + a * 256000), 0) else (max target (rate - a * 256000), 0)
  else
    let gap := if rate ≤ target then target - rate else rate - target
    let up := decide (rate ≤ target)
    let along := if up then acc else -acc
    let along' := if along < 0 then minI 0 (along + j)
      else if (gap : Int) * j ≤ along * along * 128 then maxI 0 (along - j) else minI top (along + j)
    let along'' := if along' = 0 ∧ 0 ≤ along ∧ gap ≠ 0 then minI top j else along'
    let d := (along'' * 256).natAbs
    let acc' := if up then along'' else -along''
    if along'' < 0 then (if up then rate - d else rate + d, acc')
    else (if up then min target (rate + d) else max target (rate - d), acc')

/-- One microsecond of a run at `target` rate: rate, acceleration, phase, and the master's steps made. -/
def Run.advance (r : Run) (target : Nat) : Nat × Int × Nat × Nat :=
  let (rate, acc) := nextRate r.rate target r.mv.a r.mv.j r.acc
  let ph := r.phase + 200 * velWord rate
  (rate, acc, ph % 2 ^ 48, min (masterLen r.delta) (r.made + ph / 2 ^ 48))

/-- One microsecond of the running move of a group (R277 to R283), once its axes show their directions. It brakes as soon as a further
microsecond without braking would leave fewer steps than its braking distance (R278). -/
def State.runTick (s : State) (g : Nat) (r : Run) : State :=
  if !s.axesReady r.delta then s.turnAxes r.delta
  else
    let x := s.group g
    let vs := s.vstart g
    let len := masterLen r.delta
    let planned := planEnd s g (s.fld F.MOT_GRP_CORNER_TOL g) vs (((List.range 8).map (fun y =>
      nthD 0 s.axisPos y - (rheDiv (r.made * nthD 0 r.delta y) (max 1 len))))) r.mv r.delta (x.queue.drop 1)
    let e := if r.braking then r.endRate else planned.1
    let joint := if r.braking then r.joint else planned.2
    let on := r.advance (rateOf r.mv.v)
    let braking := r.braking || decide (len - on.2.2.2 < brakeSteps on.1 e r.mv.a r.mv.j on.2.1.toNat)
      || decide (len - r.made ≤ brakeSteps r.rate e r.mv.a r.mv.j r.acc.toNat)
    let target :=
      if x.halting then vs
      else if r.mv.paced then min (s.pacedRate r.master (s.fld F.SCAN_VCMD_PCS)) (rateOf (s.pulseTop g))
      else if braking then max e (min r.rate (lastRate e r.mv.a))
      else rateOf r.mv.v
    let (rate, acc, ph, k) := r.advance target
    let s := s.stepAxes r k
    let r' : Run := { r with made := k, rate := rate, endRate := e, acc := acc, phase := ph, braking := braking, joint := joint }
    if x.halting ∧ rate ≤ vs then
      (s.modGroup g (fun x => { x with run := none, halting := false, queue := x.queue.drop 1 })).restGroup g
    else if k = len ∧ !r.mv.paced then
      let s := s.modGroup g (fun x => { x with run := none, halting := false, queue := x.queue.drop 1 })
      let s := s.entryDone g r.mv.tag true
      s.startNext g (if x.halting then none else (jointRate vs e rate joint).map (fun r2 => (r2, ph))) 64
    else s.modGroup g (fun x => { x with run := some r' })

/-! Homing (R293). -/

/-- The home switch of an axis reads active. -/
def State.homeActive (s : State) (x : Nat) : Bool :=
  (s.enc (s.fld F.MOT_AXIS_HOME_INPUT x)).z != s.bit F.MOT_AXIS_HOME_POL x

/-- A successful homing (R293): the latched point takes HOME_POS, flags cleared, DONE pulse with tag 0xFFFF. -/
def State.homed (s : State) (g x : Nat) : State :=
  let s := s.modGroup g (fun y => { y with homing := none, halting := false })
  let s := (s.modAxis x (fun a => { a with pos := s.sfld F.MOT_AXIS_HOME_POS_POS x })).takeRefs x
  let s := s.setFlds [(F.MOT_AXIS_STATUS_POSITION_LOST, 0), (F.MOT_AXIS_STATUS_MICROSTEP_UNKNOWN, 0),
    (F.MOT_AXIS_STATUS_STALL, 0), (F.MOT_AXIS_STATUS_POS_MISMATCH, 0), (F.MOT_AXIS_STATUS_HOMED, 1)] x
  (s.restGroup g).entryDone g 0xFFFF false

/-- The phase a search is in once the switch reads as it does. -/
def homePhase (active : Bool) (phase : Nat) : Nat :=
  match phase with
  | 1 => if active then 1 else 2
  | 2 => if active then 3 else 2
  | 4 => if active then 4 else 5
  | p => p

/-- The search advanced by the level of its switch (R293); a reversal starts from rest (R273). -/
def State.homeAdvance (s : State) (g : Nat) (h : Homing) : State :=
  let active := s.homeActive h.axis
  if h.phase = 5 ∧ active then s.homed g h.axis
  else
    let p := homePhase active h.phase
    let rate := if p = h.phase ∨ p = 3 then h.rate else if p = 2 then s.vstart g
      else s.fld F.MOT_AXIS_HOME_V_SLOW h.axis * rateUnit
    let acc := if p = h.phase ∨ p = 3 then h.acc else 0
    s.modGroup g (fun y => { y with homing := some { h with phase := p, rate := rate, acc := acc } })

/-- The search of an axis begun. -/
def State.startHoming (s : State) (g x : Nat) : State :=
  let p := if s.homeActive x then 1 else 2
  let s := (s.runCurrent g).setFld F.MOT_AXIS_STATUS_HOMED 0 x
  let h : Homing := ⟨x, p, 0, if p = 1 then s.fld F.MOT_AXIS_HOME_V_SLOW x * rateUnit else s.vstart g, 0⟩
  s.modGroup g (fun y => { y with homing := some h })

/-- The direction of a search in its phase (R293): away from the switch in phases 1 and 4; a halt goes on as DIR shows. -/
def State.homeSign (s : State) (h : Homing) : Int :=
  let fwd : Int := if s.bit F.MOT_AXIS_HOME_DIR h.axis then 1 else -1
  if h.phase = 6 then (if (s.axis h.axis).positive then 1 else -1) else if h.phase = 1 ∨ h.phase = 4 then -fwd else fwd

/-- One microsecond of a search, once DIR shows its direction (R275). -/
def State.homeTick (s : State) (g : Nat) (h : Homing) : State :=
  let x := h.axis
  let sg := s.homeSign h
  let turn := s.turnAxis x (decide (0 < sg))
  if !turn.2 then turn.1
  else
  let a := s.fld F.MOT_GRP_HOME_A_A g
  let vs := s.vstart g
  let slow := s.fld F.MOT_AXIS_HOME_V_SLOW x * rateUnit
  let rate := match h.phase with
    | 2 => min (s.fld F.MOT_AXIS_HOME_V_FAST x * rateUnit) (h.rate + a * 256000)
    | 3 => max vs (h.rate - a * 256000)
    | 6 => max vs (h.rate - a * 256000)
    | _ => slow
  let ph := h.acc + 200 * velWord rate
  let n := ph / 2 ^ 48
  let s := s.emitSteps x n sg
  let h' : Homing := { h with emitted := h.emitted + n, rate := rate, acc := ph % 2 ^ 48 }
  if h.phase = 6 ∧ rate ≤ vs then
    let s := (s.modGroup g (fun y => { y with homing := none, halting := false })).restGroup g
    if s.fld F.MOT_AXIS_HOME_MAX_STEPS x < h'.emitted then
      (s.setFld F.MOT_AXIS_STATUS_HOME_FAIL 1 x).burgee 6 clsWarn 2 x
    else s
  else if h.phase ≠ 6 ∧ s.fld F.MOT_AXIS_HOME_MAX_STEPS x < h'.emitted then
    s.modGroup g (fun y => { y with homing := some { h' with phase := 6 } })
  else if h.phase = 3 ∧ rate ≤ vs then
    (s.modGroup g (fun y => { y with homing := some { h' with phase := 4, rate := slow, acc := 0 } })).homeAdvance g
      { h' with phase := 4, rate := slow, acc := 0 }
  else s.modGroup g (fun y => { y with homing := some h' })

/-! Current reference and stall (R285, R286). -/

/-- The following error of an enabled axis beyond WINDOW counted (R286); a disabled axis moved by hand is
POS_MISMATCH's matter (R292), DEDUCED in assumption log 21. -/
def State.countOver (s : State) (x : Nat) : State :=
  if s.bit F.MOT_AXIS_STATUS_ENABLED x ∧ s.fld F.MOT_AXIS_WINDOW_WINDOW x < (s.followErr x).natAbs then
    s.modAxis x (fun a => { a with ferrOver := a.ferrOver + 1 })
  else s.modAxis x (fun a => { a with ferrOver := 0 })

/-- The axes of a group whose error has exceeded WINDOW at 2 consecutive ticks (R286). -/
def State.stalled (s : State) (g : Nat) : List Nat := (s.axesOf g).filter (fun x => 2 ≤ (s.axis x).ferrOver)

/-- A stall of an axis with error `e` marked (R286): its STALL is set, its burgee raised. -/
def State.markStall (s : State) (x : Nat) (e : Int) : State :=
  ((s.setFld F.MOT_AXIS_STATUS_STALL 1 x).modAxis x (fun a => { a with ferrOver := 0 })).burgee 6 clsWarn 1 x 8 (ofSigned 32 (clampS 32 e))

/-- The stalls of a group (R286): it stops at once, and every stalled axis is marked with the error it stalled with. -/
def State.stallGroup (s : State) (g : Nat) : State :=
  let xs := (s.stalled g).map (fun x => (x, s.followErr x))
  if xs.isEmpty then s else xs.foldl (fun s x => s.markStall x.1 x.2) (s.immediateStop g)

/-- One tick of the axes in no group, of which the tick of G0 takes care: their current and their stalls (R284 to R286). DEDUCED, assumption
log 173. -/
def State.looseTick (s : State) : State :=
  ((List.range 8).filter (fun x => decide (4 ≤ s.fld F.MOT_AXIS_CFG_GROUP x))).foldl (fun s x =>
    let s := (s.countOver x).setIref x
    if 2 ≤ (s.axis x).ferrOver then (s.takeEnc x).markStall x (s.followErr x) else s) s

/-- One profile tick of a group (R277, R284 to R286), without the hold path's share. -/
def State.profileTick (s : State) (g : Nat) : State :=
  let s := match (s.group g).run, (s.group g).homing with
    | some r, _ => s.runTick g r
    | none, some h => if (s.axis h.axis).canMove then s.homeTick g h else s
    | none, none => if (s.group g).queue.isEmpty then s else s.startNext g none 64
  let s := ((s.axesOf g).foldl (fun s x => (s.countOver x).setIref x) s).stallGroup g
  if g = 0 then s.looseTick else s

end Sys2Proof.Machine
end

