-- ==== Sys2Proof/Machine/Flags.lean ====
section
/-! DEFINITION. What the block computes from its state wherever a rule needs it: calibration records, usability, geometry,
grid positions, minimum period, domains, sections, the hold-up check. -/

namespace Sys2Proof.Machine

/-! Calibration records in the QDR calibration copy (08_calibration.md R212, R214). -/

/-- The address of slot `i` of the QDR calibration copy. -/
def recAddr (i : Nat) : Nat := 12288 * i

/-- `n` bytes of tile `i`'s record from byte `o`. -/
def State.recBytes (s : State) (i o n : Nat) : List Byte := s.readMem (recAddr i + o) n

/-- `n` bytes of a record as a little-endian number. -/
def State.recLe (s : State) (i o n : Nat) : Nat := ofLe (s.recBytes i o n)

/-- A signed little-endian half-word of a record. -/
def State.recS (s : State) (i o : Nat) : Int := toSigned 16 (s.recLe i o 2)

/-- PRESENT and UNSAVED of slot `i` (R214). -/
def State.recPresent (s : State) (i : Nat) : Bool := bitAt (s.recLe i 11888 1) 0
def State.recUnsaved (s : State) (i : Nat) : Bool := bitAt (s.recLe i 11888 1) 1

/-- FLAGS bits of record `i`: 0 GEOM_VALID, 1 BASE_VALID, 2 COMPAT_VALID, 3 NO_SWEEP (R212). -/
def State.recFlag (s : State) (i b : Nat) : Bool := s.recPresent i && bitAt (s.recLe i 5 1) b

/-- The joint to tile `i`'s right is marked JOINT_RANGE (02_sensor_bar.md R35). -/
def State.jointRange (s : State) (i : Nat) : Bool := s.recPresent i && bitAt (s.recLe i 83 1) 0

/-- A record's bytes written and its UNSAVED bit set (R215). -/
def State.writeRec (s : State) (i o : Nat) (l : List Byte) : State :=
  (s.writeMem (recAddr i + o) l).writeMem (recAddr i + 11888) [3]

/-- SERIAL and the other fields of a tile's identity record (02_sensor_bar.md R46). -/
def identSerial (l : List Byte) : Nat := beAt l 6 4
def identVendor (l : List Byte) : Nat := beAt l 2 2
def identModel (l : List Byte) : Nat := beAt l 4 2
def identSites (l : List Byte) : Nat := beAt l 10 2
def identDelay (l : List Byte) : Nat := byteAt l 16
def identPre (l : List Byte) : Nat := byteAt l 17 / 16
def identPost (l : List Byte) : Nat := byteAt l 17 % 16

/-- The identity record's CRC-32C checks (R46). -/
def identOk (l : List Byte) : Bool := l.length = 32 && crc32Ok l

/-- Every field of an identity record within its accepted values (R46, 03_triry_link.md R83). -/
def identInLimits (l : List Byte) : Bool :=
  byteAt l 0 = 1 && byteAt l 1 = 8 && decide (1 ≤ identVendor l) && decide (identVendor l ≤ 0xFFFE)
    && identSerial l ≠ 0 && decide (476 ≤ identSites l) && decide (identSites l ≤ 480)
    && decide (40000 ≤ beAt l 12 2) && decide (beAt l 12 2 ≤ 44667) && decide (beAt l 14 2 ≤ 63500)
    && within (identPre l) 2 6 && within (identPost l) 4 12 && allZero (slice l 18 10)

/-- The calibration store holds a record for the tile's SERIAL (R41, 08_calibration.md R215). -/
def State.calMatch (s : State) (i : Nat) : Bool :=
  s.recPresent i && s.bit F.TILE_STATUS_PRESENT i && s.recLe i 8 4 = identSerial (s.lane i).ident

/-- TILE_STATUS.USABLE (R49): present, identified, within limits, with a record of its SERIAL. -/
def State.usableBits (s : State) (i : Nat) : Bool :=
  s.bit F.TILE_STATUS_PRESENT i && s.bit F.TILE_STATUS_IDENT_OK i && s.bit F.TILE_STATUS_IDENT_IN_LIMITS i
    && s.calMatch i

/-- A usable tile (R41): one that answers on the lane of its index besides (03_triry_link.md R79). -/
def State.usable (s : State) (i : Nat) : Bool := s.usableBits i && !(s.lane i).misId

/-! Positions and periods (04_position_scheduler.md). -/

/-- The line pitch and phase in use: the job's (R107), or those of a CAL_ALIGN's 1200 dpi grid (08_calibration.md R227, R229). -/
def State.linePitch (s : State) : Nat :=
  match s.ops.align with
  | some a => a.pitch
  | none => s.fld F.LINE_PITCH_HI_INT * 2 ^ 32 + s.fld F.LINE_PITCH_LO_FRAC
def State.linePhase (s : State) : Int :=
  match s.ops.align with
  | some a => a.phase
  | none => wrapS 64 (toSigned 64 (s.fld F.LINE_PHASE_HI_PHASE * 2 ^ 32 + s.fld F.LINE_PHASE_LO_PHASE) + s.job.phase)

/-- Grid position Y_n in 1/2^16 pc (R107): the product formed exactly, then rounded half to even. -/
def State.gridPos (s : State) (n : Nat) : Int := s.linePhase + rheShift (n * s.linePitch : Nat) 16

/-- The commit lead L_C (R111). -/
def State.commitLead (s : State) : Nat := max 6000 (s.fld F.SCHED_LUM_LEAD_NS + 1000)

/-- T_MIN from EXPO_NS, FD_MAX and L_C (R116). -/
def tMinOf (expo fdMax lc : Nat) : Nat := max (max 33333 (expo + 500)) (max (expo + 100 * fdMax + 20378) lc)

/-- The largest FRAME_DELAY among tiles (R116). -/
def State.fdMaxOf (s : State) (tiles : List Nat) : Nat := maxN (tiles.map (fun i => identDelay (s.lane i).ident))

/-- T_MIN of the tiles worked on (R116), with the values that EXPO_NS, SCHED_LUM and the identity records now have. -/
def State.tMinNow (s : State) : Nat := tMinOf (s.fld F.EXPO_NS_NS) (s.fdMaxOf s.workTiles) s.commitLead

/-- SCHED_TMIN shown for the defined job (R116), clamped to its 24 bits (00_scope.md R5). -/
def State.showTMin (s : State) : State :=
  if s.job.defined then s.setFld F.SCHED_TMIN_NS (min 0xFFFFFF s.tMinNow) else s

/-- T_MIN (R116): as SCHED_TMIN shows it for a job; that of the measured range in a CAL_ALIGN or CAL_THERMAL. -/
def State.tMin (s : State) : Nat :=
  if s.ops.align.isSome || s.ops.therm.isSome then s.tMinNow else s.fld F.SCHED_TMIN_NS

/-- wn_ns = rhe(2^48 · 2π · FN_HZ / 10^9) (R103), from π to 40 decimals. -/
def wnOf (fn : Nat) : Nat :=
  (rheDiv (2 ^ 49 * 31415926535897932384626433832795028841972 * fn) (10 ^ 49)).toNat

/-- LAT and PRIME of the armed job (07_alignment_seams.md R193). -/
def State.lat (s : State) : Nat := s.fld F.PIPE_ALIGN_STATUS_LAT
def State.prime (s : State) : Nat := s.fld F.PIPE_ALIGN_STATUS_PRIME

/-- The grid factor b_g (R186). -/
def State.gridFactor (s : State) : Nat :=
  match s.fld F.PIPE_ALIGN_CFG_GRID with
  | 0 => 1
  | 1 => 2
  | _ => 4

/-- The last exposure of a bounded job (15_command_set.md R409). -/
def State.lastExposure (s : State) : Option Nat :=
  if s.job.lineCount = 0 then none else some (s.job.lineCount - 1 + s.lat)

/-- The job drives axes: SCAN mode's paced group (11_reseam.md R295). -/
def State.pacedGroup (s : State) : Nat := s.fld F.SCAN_CFG_GROUP

/-- The sections of chain `c` that have a driver (05_illumination.md R137): the first FOUND of it. -/
def State.sectionPresent (s : State) (d : Nat) : Bool := decide (d % 64 < s.fld F.LUM_CHAIN_STATUS_FOUND (d / 64))

/-- Section `d` lights a tile worked on (02_sensor_bar.md R44). -/
def State.sectInSpan (s : State) (d : Nat) : Bool := s.inWork (2 * d) || s.inWork (2 * d + 1)

/-- The quads that hold a tile worked on (02_sensor_bar.md R43). -/
def State.spanQuads (s : State) : List Nat := ((List.range 128).filter (fun q => (List.range 4).any (fun j => s.inWork (4 * q + j))))

/-- Line memory is usable (13_memory_block_mover.md R334). -/
def State.qdrUsable (s : State) : Bool := s.bit F.QDR_STATUS_USABLE

/-- The job uses compatibility banks (08_calibration.md R214): PIPE_SHADE_CFG.FORM 1. CAL_ALIGN and CAL_THERMAL work in the
native form, in which they write base banks (R232, R234). -/
def State.compat (s : State) : Bool := s.bit F.PIPE_SHADE_CFG_FORM && s.ops.align.isNone && s.ops.therm.isNone

/-- Bank image `b` of span tile `i` in the bank-image area (13_memory_block_mover.md R345). -/
def State.imageAddr (s : State) (i b : Nat) : Nat :=
  0x1C00000 + (i - s.job.first) * (if s.bit F.PIPE_SHADE_CFG_FORM then 34560 else 23040) + 11520 * b

/-- The image of bank `b` of tile `i` (06_engines_shading.md R153), 11,520 bytes: in the bank-image area for a span tile; the firmware's own
for another tile that a CAL_ALIGN or CAL_THERMAL works on, which the area has no place for. DESIGN CHOICE, assumption log 169. -/
def State.imageOf (s : State) (i b : Nat) : List Byte :=
  if s.inSpan i then s.readMem (s.imageAddr i b) 11520 else nthD [] (s.eng i).imgs b

/-- A bank's image kept. -/
def State.keepImage (s : State) (i b : Nat) (l : List Byte) : State :=
  if s.inSpan i then s.writeMem (s.imageAddr i b) l else s.modEng i (fun e => { e with imgs := e.imgs.set b l })

/-- The size of the bank-image area for a span of `n` tiles. -/
def bankArea (compat : Bool) (n : Nat) : Nat := (if compat then 34560 else 23040) * n

/-! Bar temperatures (12_bar_monitor.md R329, 06_engines_shading.md R167). -/

/-- The RTDs that `sel` selects, as index and position in µm. -/
def State.rtdsAt (s : State) (sel : Nat → Bool) : List (Nat × Int) :=
  ((List.range 8).filter sel).map (fun r => (r, (100 * s.fld F.MON_RTD_POS_POS r : Nat)))

/-- The nearest entry at or left of `x`, and at or right of it. -/
def nearLeft (x : Int) (l : List (Nat × Int)) : Option (Nat × Int) :=
  l.foldl (fun b r => if r.2 ≤ x then (match b with
    | some q => if q.2 < r.2 then some r else b
    | none => some r) else b) none
def nearRight (x : Int) (l : List (Nat × Int)) : Option (Nat × Int) :=
  l.foldl (fun b r => if x ≤ r.2 then (match b with
    | some q => if r.2 < q.2 then some r else b
    | none => some r) else b) none

/-- T of an RTD, signed 8.8 °C. -/
def State.rtdT (s : State) (r : Nat) : Int := s.sfld F.MON_RTD_T_T r

/-- The bar temperature at `x` µm as an exact fraction in 1/256 °C, or none when no RTD has a value. -/
def State.tempAt (s : State) (x : Int) : Option (Int × Nat) :=
  let l := s.rtdsAt (fun r => s.bit F.MON_RTD_CFG_EN r && !s.bit F.MON_RTD_T_NONE r)
  match nearLeft x l, nearRight x l with
  | some a, some b =>
    if a.2 = b.2 then some (s.rtdT a.1, 1)
    else some (s.rtdT a.1 * (b.2 - x) + s.rtdT b.1 * (x - a.2), (b.2 - a.2).toNat)
  | some a, none => some (s.rtdT a.1, 1)
  | none, some b => some (s.rtdT b.1, 1)
  | none, none => none

/-- A true bracketing RTD of `x` holds a stale value or has none (R235, R329). -/
def State.rtdUnsure (s : State) (x : Int) : Bool :=
  let l := s.rtdsAt (fun r => s.bit F.MON_RTD_CFG_EN r)
  let bad := fun (o : Option (Nat × Int)) => o.any (fun a => s.bit F.MON_RTD_T_STALE a.1 || s.bit F.MON_RTD_T_NONE a.1)
  bad (nearLeft x l) || bad (nearRight x l) || (s.tempAt x).isNone

/-- T_i of tile `i`, rounded half to even to signed 8.8 °C (R167). -/
def tileX (i : Nat) : Int := 10160 * i + 5080
def State.tileTemp (s : State) (i : Nat) : Option Int := (s.tempAt (tileX i)).map (fun q => rheDiv q.1 q.2)

/-! Roles (01_system_overview.md R26). -/

def State.sessOpen (s : State) (k : Nat) : Bool := (s.session k).id.st = 2
def State.openSessions (s : State) : List Nat := (List.range 8).filter s.sessOpen
def State.roleOf (s : State) (k : Nat) : Nat := (s.session k).id.role

/-- The OWNER session, if one is open. -/
def State.owner (s : State) : Option Nat := s.openSessions.find? (fun k => s.roleOf k = 0)

/-! Flash stores (18_power_startup.md R466). -/

def flashConfig (b : Nat) : Nat := spaceFlash + 0x1000000 + 0x10000 * b
def flashFw (b : Nat) : Nat := spaceFlash + 0x800000 * b
def flashKernel (b : Nat) : Nat := spaceFlash + 0x1030000 + 0x10000 * b
def flashIdent : Nat := spaceFlash + 0x1020000
def flashLog : Nat := spaceFlash + 0x1100000
def flashDump : Nat := spaceFlash + 0x1200000
def flashCal (b i : Nat) : Nat := spaceFlash + 0x1600000 + 0x1000000 * b + 0x8000 * i

/-- `l` programmed into the `n` erased bytes at `a` of the flash and read back, one retry allowed (08_calibration.md R216,
18_power_startup.md R464): the state, and whether a read-back succeeded. After two failures the bytes are the old ones or, as `whole`
says, the new ones or erased. Assumption log 95. -/
def State.flashPut (s : State) (a n : Nat) (l : List Byte) (whole : Bool) : State × Bool :=
  let blank := s.clearMem a n
  let s' : State :=
    if Config.progOk s.free || Config.progOk (s.free + 1) then blank.writeMem a l
    else if Config.progOk (s.free + 2) then s
    else if whole then blank.writeMem a l else blank
  ({ s' with free := s.free + 3 }, Config.progOk s.free || Config.progOk (s.free + 1))

/-- The hold-up check for a store of `nEr` erased 32 KiB units, `nPg` pages, `nB` bytes and `otp` ns of OTP programming
(R466). V_H² and the energies are kept exactly over a common denominator: V_H = code·1.25·DIV/(2^23·G·256). -/
def State.holdupCheck (s : State) (nEr nPg nB otpNs : Nat) : Bool × State :=
  let needNs := nEr * s.fld F.PWR_FLASH_T_T_ER32_MS * 1000000 + nPg * s.fld F.PWR_FLASH_T_T_PP_US * 1000
    + ceilDiv (nB * 10) 4 + otpNs
  -- energies in units of 1e-15 J: P_mW · ns · 1e3
  let need := s.fld F.PWR_STORE_P_P_MW * needNs * 1000
  let gain := 2 ^ s.fld F.MON_URG_HOLDUP_CFG_GAIN
  let num := s.env.holdupCode * 5 * s.fld F.PWR_HOLDUP_V_DIV
  let den := 2 ^ 23 * 4 * gain * 256
  let vmin := s.fld F.PWR_HOLDUP_V_VMIN_MV
  -- ½·C·(V² − VMIN²), C in µF, VMIN in mV
  let availNum := s.fld F.PWR_HOLDUP_C_UF * (num * num * 1000000 - vmin * vmin * (den * den)) * 1000
  let avail := availNum / (2 * (den * den))
  let mv := min 0xFFFF (num * 1000 / den)
  let fail := if s.env.pwrFail then 3 else if 3 * need ≤ 2 * avail then 1 else 2
  let s := if s.env.pwrFail then s.setFld F.PWR_HOLDUP_LAST_RESULT 3
    else s.setFlds [(F.PWR_HOLDUP_LAST_V_MV, mv), (F.PWR_HOLDUP_LAST_RESULT, fail),
      (F.PWR_HOLDUP_E_AVAIL_MJ, min 0xFFFFFFFF (avail / 10 ^ 12)), (F.PWR_HOLDUP_NEED_NEED_MJ, min 0xFFFFFFFF (need / 10 ^ 12))]
  (fail == 1, s)

/-- A transaction put into a segment's queue of the bar control bus (03_triry_link.md R71, R77). -/
def State.bcbPush (s : State) (g addr op : Nat) (data : List Byte) (src : Origin) (tries : Nat) : State :=
  s.modBcb g (fun b => { b with queue := b.queue ++ [⟨addr, op, data, src, tries, 0, 0⟩] })

/-- The key of a field and window instance. -/
def keyInst (k : Nat) : Nat := k % 1024

end Sys2Proof.Machine
end

