-- ==== Sys2Proof/Machine/Units.lean ====
section
/-! DEFINITION. Operations that several families share: coefficient banks and their checks, quads going up and down,
chains, OTP programming, the copy of burgees to the flash log, renditions, and what a session still has to receive. -/

namespace Sys2Proof.Machine

/-! Coefficient banks (06_engines_shading.md R175 to R181). -/

def bankForm (l : List Byte) : Nat := byteAt l 0
def bankGen (l : List Byte) : Nat := ofLe (slice l 8 4)

/-- The bank's CRC-32C (R175) checks: over bytes 0 to 43, then 48 to 11,519. -/
def bankCrc (l : List Byte) : Nat := crc32c (l.take 44 ++ l.drop 48)

/-- The bank with its CRC set. -/
def bankSeal (l : List Byte) : List Byte := l.take 44 ++ le 4 (bankCrc l) ++ l.drop 48

/-- A bank passes verification for a tile of serial number `serial` (R178). -/
def bankGood (l : List Byte) (serial : Nat) : Bool :=
  l.length = 11520 && ofLe (slice l 44 4) = bankCrc l && (bankForm l = 1 || bankForm l = 2)
    && ofLe (slice l 4 4) = serial
    && (bankForm l = 2 ||
      (decide (toSigned 16 (ofLe (slice l 14 2)) ≤ 0) && decide (0 ≤ toSigned 16 (ofLe (slice l 16 2)))
        && decide (ofLe (slice l 20 2) + 0x100 ≤ ofLe (slice l 18 2))))

def State.bankBytes (s : State) (i b : Nat) : List Byte := s.readMem (bankAddr i b) 11520

/-- VALID of bank `b` of engine `i`, and its other flags. -/
def fldValid (b : Nat) : Fld := if b = 0 then F.TILE_ENG_STATUS_BANK_A_VALID else F.TILE_ENG_STATUS_BANK_B_VALID
def fldForm (b : Nat) : Fld := if b = 0 then F.TILE_ENG_STATUS_BANK_A_FORM else F.TILE_ENG_STATUS_BANK_B_FORM
def fldGen (b : Nat) : Fld := if b = 0 then F.TILE_ENG_GEN_A_GEN else F.TILE_ENG_GEN_B_GEN

/-- Engine `i` checks bank `b` (R178). -/
def State.verifyBank (s : State) (i b : Nat) : State :=
  let l := s.bankBytes i b
  if bankGood l (identSerial (s.lane i).ident) then
    s.setFlds [(fldValid b, 1), (fldForm b, b2n (bankForm l = 2)), (fldGen b, bankGen l)] i
  else s.setFld F.TILE_ENG_STATUS_VERIFY_ERR 1 i

/-- PIPE_BANK_STATUS.VERIFY_BUSY (R178): engines still check a bank, for VERIFY or within an Equinox run. -/
def State.noteVerify (s : State) : State :=
  s.setFld F.PIPE_BANK_STATUS_VERIFY_BUSY (b2n (!s.ops.checks.isEmpty || s.ops.eqx.any (fun e => !e.checking.isEmpty)))

/-- The active bank of engine `i`. -/
def State.active (s : State) (i : Nat) : Nat := s.fld F.TILE_ENG_STATUS_ACTIVE i

/-- The check of a swap over the span (R180): every inactive bank VALID, with the job's FORM. -/
def State.swapOk (s : State) : Bool :=
  s.workTiles.all (fun i =>
    let b := 1 - s.active i
    s.bit (fldValid b) i && s.fld (fldForm b) i = b2n s.compat)

/-- The pending swap carried out or refused at line `n` (R180); a swap clears the drift latches (08_calibration.md R235). -/
def State.swapAt (s : State) (n : Nat) : State :=
  if s.swapOk then
    let s := s.workTiles.foldl (fun s i => s.setFld F.TILE_ENG_STATUS_ACTIVE (1 - s.active i) i) s
    let s := { s with ana := { s.ana with bankWait := true } }
    let s := s.workTiles.foldl (fun s i => s.setFld F.TILE_CAL_STATUS_DRIFT_HOLD 0 i) s
    s.setFlds [(F.PIPE_BANK_STATUS_ACTIVE, 1 - s.fld F.PIPE_BANK_STATUS_ACTIVE), (F.PIPE_SWAP_AT_LINE, n),
      (F.PIPE_BANK_STATUS_SWAP_DONE, 1), (F.PIPE_BANK_STATUS_ARMED, 0), (F.PIPE_BANK_STATUS_PENDING, 0)]
  else
    (s.setFlds [(F.PIPE_BANK_STATUS_SWAP_REFUSED, 1), (F.PIPE_BANK_STATUS_ARMED, 0),
      (F.PIPE_BANK_STATUS_PENDING, 0)]).burgee 3 clsWarn 1

/-- A triggered swap outside a job takes effect at once (R179). PIPE_SWAP_AT records SCHED_LINE.LINE: assumption log 183. -/
def State.swapIdle (s : State) : State :=
  if s.bit F.PIPE_BANK_STATUS_PENDING ∧ !s.op.inJob then s.swapAt (s.fld F.SCHED_LINE_LINE) else s

/-! Quads (18_power_startup.md R448 to R453, 06_engines_shading.md R152). -/

/-- The key belongs to the registers of tile `i`'s receiver or engine, which lie in its quad's domain. -/
def quadKey (i key : Nat) : Bool :=
  let a := key / 1024 / 32
  key % 1024 = i && ((decide (0x20140 ≤ a) && decide (a < 0x20164)) || (decide (0x20200 ≤ a) && decide (a < 0x2025C)))

/-- The tables of 09_output_analytics.md R241 loaded into engine `i`: the identity curve is what its table memory reads
unlisted, and the entries host software has written differ from it. -/
def State.loadTables (s : State) (i : Nat) : State :=
  let base := spaceTable + i * 2 ^ 18
  s.ana.luts.foldl (fun s e => s.writeMem (base + 2 * e.1) (le 2 e.2)) (s.clearMem base 32768)

/-- An engine's SRAM, program and bank A at its quad's entry into Summer (R152). -/
def State.loadEngine (s : State) (i : Nat) : State :=
  let s := s.loadTables i
  let s := s.setFld F.TILE_ENG_STATUS_RUNNING 1 i
  if s.usable i then
    let l := s.recBytes i 128 11520
    ((s.keepImage i 0 l).writeMem (bankAddr i 0) l).verifyBank i 0
  else s

/-- What tile `i`'s receiver and engine lose in Winter (R451, 21_register_map.md R521). -/
def State.wipeTile (s : State) (i : Nat) : State :=
  let s := { s with regs := s.regs.filter (fun c => !quadKey i c.1) }
  let s := s.clearMem (sramAddr i 0) (2 ^ 18)
  let s := s.clearMem (spaceTable + i * 2 ^ 18) (2 ^ 18)
  let s := s.modEng i (fun _ => {})
  s.modLane i (fun l => { l with slot := none, train := none, lostAt := none, injectNext := false, prbs := {} })

/-- The seasons of the tree domains, which follow the quads (R449). -/
def State.treeSeasons (s : State) : State :=
  let any := fun (k : Nat) (v : Season) => (List.range 32).any (fun j => s.season (32 * k + j) = v)
  let one := fun k => if any k .summer || any k .autumn then Season.summer else if any k .spring then .spring else .winter
  let l := (List.range 4).map one
  let l := if l.any (· = .summer) then l.set 0 .summer else l
  { s with seasons := s.seasons.take 128 ++ l ++ s.seasons.drop 132 }

/-- Quad `q` brought from Winter into Spring (R450). -/
def State.quadSpring (s : State) (q : Nat) : State :=
  if s.season q = .winter then
    (((List.range 4).foldl (fun s j => s.wipeTile (4 * q + j)) s).setSeason q .spring).treeSeasons
  else s

/-- Quad `q` brought into Summer, its engines loaded (R450, R152). -/
def State.quadSummer (s : State) (q : Nat) : State :=
  if s.season q = .summer then s
  else
    let s := s.quadSpring q
    (((List.range 4).foldl (fun s j => s.loadEngine (4 * q + j)) s).setSeason q .summer).treeSeasons

/-- The engines of quad `q` check no bank any more. -/
def State.dropChecks (s : State) (q : Nat) : State :=
  if s.ops.checks.any (fun x => x.1 / 4 = q) then
    ({ s with ops := { s.ops with checks := s.ops.checks.filter (fun x => x.1 / 4 ≠ q) } }).noteVerify
  else s

/-- Quad `q` taken into Winter (R451). -/
def State.quadWinter (s : State) (q : Nat) : State :=
  if s.season q = .winter then s
  else (((List.range 4).foldl (fun s j => s.wipeTile (4 * q + j)) (s.dropChecks q)).setSeason q .winter).treeSeasons

/-- Every quad into Winter, in descending domain number (R454). -/
def State.allQuadsWinter (s : State) : State := (List.range 128).foldl (fun s k => s.quadWinter (127 - k)) s

/-- Span quads from Summer into Autumn (R453). -/
def State.quadsAutumn (s : State) : State :=
  (s.spanQuads.foldl (fun s q => if s.season q = .summer then s.setSeason q .autumn else s) s).treeSeasons

/-! Illumination chains at rest (05_illumination.md R138, R142). -/

/-- A chain held in reset: no refresh under way, VREF code 0 (R142). -/
def State.chainRest (s : State) (c : Nat) : State :=
  (s.modChain c (fun x => { x with sent := [], waiting := false, passed := false, marked := false, diag := false,
                                   markDue := none, fails := 0, quiet := false })).setFlds
    [(F.LUM_CHAIN_STATUS_REFRESHING, 0), (F.LUM_VREF_CODE, 0)] c

def State.chainsRest (s : State) : State := (List.range 4).foldl State.chainRest s

/-! The bar's tiles (03_triry_link.md R78). -/

/-- MODE_SET of a mode broadcast on segment `g`. -/
def State.broadcastMode (s : State) (g mode : Nat) : State := s.bcbPush g 0x1FF 0x03 [BitVec.ofNat 8 mode] .quiet 1

/-- MODE_SET IDLE on every segment driven (R78). -/
def State.tilesIdle (s : State) : State := s.driven.foldl (fun s g => s.broadcastMode g 0) s

/-! OTP programming (17_security.md R433, R440). -/

/-- The revocation or rollback bits the running copy asks for, blown at an entry into IDLE (R440). `revokeWant` holds
REVOKE_RSA in [3:0] and REVOKE_SLH in [7:4]. Each bit is read back, and the fields keep what the bits that did blow give them
(R433); ROLLBACK is one more than its highest blown bit (R432). -/
def State.otpBlow (s : State) : State :=
  let rsa := Nat.lor s.sec.revRsa (s.sec.revokeWant % 16)
  let slh := Nat.lor s.sec.revSlh (s.sec.revokeWant / 16)
  let roll := max s.sec.rollback s.sec.runSvn
  let refused := decide ((rsa = 15 ∨ slh = 15) ∧ ¬(rsa = s.sec.revRsa ∧ slh = s.sec.revSlh))
  let s := if refused then ({ s with sec := { s.sec with revokeWant := 0 } }).burgee 0x0D clsWarn 3 else s
  let rsa := if refused then s.sec.revRsa else rsa
  let slh := if refused then s.sec.revSlh else slh
  if rsa = s.sec.revRsa ∧ slh = s.sec.revSlh ∧ roll = s.sec.rollback then s.setFld F.SEC_STATUS_OTP_PENDING 0
  else
    let (ok, s) := s.holdupCheck 0 0 0 10000000
    if ok then
      let m := Config.otpBlew s.free
      let rsa' := Nat.lor s.sec.revRsa (Nat.land rsa m)
      let slh' := Nat.lor s.sec.revSlh (Nat.land slh (m / 16))
      let bits := (List.range (roll - s.sec.rollback)).map (· + s.sec.rollback)
      let roll' := (((bits.filter (fun b => bitAt m (8 + b))).map (· + 1)).getLast?).getD s.sec.rollback
      let all := rsa' = rsa ∧ slh' = slh ∧ bits.all (fun b => bitAt m (8 + b))
      let s := { s with free := s.free + 1, sec := { s.sec with revRsa := rsa', revSlh := slh', rollback := roll' } }
      let s := s.setFlds [(F.SEC_OTP_ROLLBACK, roll'), (F.SEC_OTP_REVOKE_RSA, rsa'), (F.SEC_OTP_REVOKE_SLH, slh'),
        (F.SEC_STATUS_OTP_PENDING, 0)]
      if all then s else s.burgee 0x0D clsWarn 2
    else s.setFld F.SEC_STATUS_OTP_PENDING 1

/-! The flash fault log (19_faults_recovery.md R484). -/

/-- The bytes of log slot `k`. -/
def State.logSlot (s : State) (k : Nat) : List Byte := s.readMem (flashLog + 32 * (k % 32768)) 32

/-- The slot is erased. -/
def slotErased (l : List Byte) : Bool := l.all (· == 0xFF)

/-- The head of the log from the `fuel` slots at and after `k`: the written slot whose successor is erased or out of
sequence (R484). -/
def State.logHeadGo (s : State) : Nat → Nat → Option Nat
  | 0, _ => none
  | fuel + 1, k =>
    let a := s.logSlot k
    let b := s.logSlot (k + 1)
    if slotErased a then State.logHeadGo s fuel (k + 1)
    else if slotErased b ∨ beAt b 22 2 ≠ (beAt a 22 2 + 1) % 65536 then some k
    else State.logHeadGo s fuel (k + 1)

def State.logHead (s : State) : Option Nat := s.logHeadGo 32768 0

/-- The records of the ring not yet copied, oldest first. -/
def State.uncopied (s : State) : List (List Byte) :=
  (s.flt.ring.take (s.flt.seq - s.fld F.FLT_RING_FLASHED_SEQ)).reverse

/-- One record put at log slot `k` with log number `n`; a unit is erased as the head enters it. -/
def State.logPut (s : State) (k n : Nat) (r : List Byte) : State :=
  let s := if k % 1024 = 0 then s.clearMem (flashLog + 32 * (k % 32768)) 32768 else s
  s.writeMem (flashLog + 32 * (k % 32768)) (r.take 22 ++ be 2 n ++ r.drop 24)

/-- The copy of uncopied records to the log (R484): true when it was made or nothing waited. -/
def State.logCopy (s : State) : State × Bool :=
  let rs := s.uncopied
  if rs.isEmpty then (s, true)
  else
    let (ok, s) := s.holdupCheck (ceilDiv rs.length 1024) (ceilDiv (32 * rs.length) 256) (32 * rs.length) 0
    if ok then
      let start := match s.logHead with
        | some k => (k + 1, (beAt (s.logSlot k) 22 2 + 1) % 65536)
        | none => (0, 0)
      let r := rs.foldl (fun acc x => (acc.1 + 1, (acc.2.1 + 1) % 65536, acc.2.2.logPut acc.1 acc.2.1 x))
        (start.1, start.2, s)
      let s := r.2.2.setFld F.FLT_RING_FLASHED_SEQ s.flt.seq
      ({ s with flt := { s.flt with deferAt := none } }, true)
    else
      let s := { s with flt := { s.flt with deferAt := some (s.tb + 10000000000) } }
      if s.flt.deferRaised then (s, false)
      else (({ s with flt := { s.flt with deferRaised := true } }).burgee 0x0E clsWarn 1, false)

/-! Renditions (07_alignment_seams.md R208, 09_output_analytics.md R243 to R245). -/

/-- RES of rendition `m` as a factor of 1200 dpi: 1, 2 or 4. -/
def State.resFactor (s : State) (m : Nat) : Nat :=
  match s.fld F.PIPE_RENDm_CFG_RES m with
  | 0 => 1
  | 1 => 2
  | _ => 4

def State.binX (s : State) (m : Nat) : Nat := s.resFactor m
def State.binY (s : State) (m : Nat) : Nat := max 1 (s.resFactor m / s.gridFactor)

/-- The channels of a rendition in order (R243). -/
def rendChans (c : Nat) : List Nat :=
  match c with
  | 0 => [0, 1, 2]
  | 1 => [0, 1, 2, 3]
  | 2 => [1]
  | _ => [3]

/-- W_px and the first column of rendition `m` (R243, R245). -/
def State.rendWidth (s : State) (m : Nat) : Nat :=
  if s.fld F.PIPE_RENDm_W_PIXELS m = 0 then 480 * s.job.count / s.binX m else s.fld F.PIPE_RENDm_W_PIXELS m
def State.rendX0 (s : State) (m : Nat) : Nat :=
  if s.fld F.PIPE_RENDm_W_PIXELS m = 0 then 480 * s.job.first else s.fld F.PIPE_RENDm_X0_COL m

/-- The bytes of one line of rendition `m` (R245). -/
def State.lineBytes (s : State) (m : Nat) : Nat :=
  s.rendWidth m * (rendChans (s.fld F.PIPE_RENDm_CFG_CHAN m)).length * (1 + s.fld F.PIPE_RENDm_CFG_DEPTH m)

/-- Renditions that take part in the job. -/
def State.rends (s : State) : List Nat := (List.range 2).filter (fun m => s.bit F.PIPE_RENDm_CFG_EN m)

/-! Sessions' unresolved lines (14_host_network.md R377, 11_reseam.md R297). -/

/-- Duplicates dropped, the first of each kept. -/
def dedup {α : Type} [DecidableEq α] : List α → List α
  | [] => []
  | a :: l => a :: (dedup l).filter (fun b => b ≠ a)

/-- The lines of a session not yet resolved, as number and rendition. -/
def SessTx.unresolved (x : SessTx) : List (Nat × Nat) :=
  dedup (x.segs.map (fun g => (g.n, g.rend)) ++ x.owed)

/-- The session subscribes to rendition `m`. -/
def SessTx.subscribes (x : SessTx) (m : Nat) : Bool := bitAt x.rend m

/-- The fill F (R297): produced grid lines that the OWNER has not wholly acknowledged in every rendition. -/
def State.fill (s : State) : Nat :=
  match s.owner with
  | none => match s.prod.last, s.prod.firstOut with
    | some _, some _ => s.fld F.SCAN_FILL_F
    | _, _ => 0
  | some k =>
    let x := (s.session k).tx
    let binned := x.unresolved.flatMap (fun e => (List.range (s.binY e.2)).map (fun j => e.1 + j))
    let open_ := (s.prod.bins.filter (fun b => x.subscribes b.rend)).flatMap (fun b =>
      (List.range (s.binY b.rend)).map (fun j => b.bin * s.binY b.rend + j))
    let made := fun n => match s.prod.last with
      | some l => decide (n ≤ l)
      | none => false
    ((dedup (binned ++ open_)).filter made).length

/-- An Equinox run's first failure noted (08_calibration.md R226); a run whose strip is on its way back is decided. -/
def State.eqxFault (s : State) (k : Nat) : State :=
  { s with ops := { s.ops with eqx := s.ops.eqx.map (fun (e : Eqx) => if e.reason = 0 ∧ e.phase ≠ 7 then { e with reason := k } else e) } }

/-- The capture of a CAL_ALIGN under way fails for a REASON of 21_register_map.md R533 (R229): the first stands. -/
def State.alignBad (s : State) (why : Nat) : State :=
  { s with ops := { s.ops with align := s.ops.align.map (fun (a : AlignOp) =>
      if a.capturing && a.bad = 0 then { a with bad := why } else a) } }

/-- SCAN_FILL brought up to date. -/
def State.noteFill (s : State) : State := s.setFld F.SCAN_FILL_F s.fill

end Sys2Proof.Machine
end

