-- ==== Sys2Proof/Machine/Reply.lean ====
section
/-! DEFINITION. Replies to commands (15_command_set.md R391 to R398): status codes, packets and their trailers, the kept
replies of a path. -/

namespace Sys2Proof.Machine

/-- Status codes (R398). -/
def stOk : Nat := 0
def stBadOpcode : Nat := 1
def stBadLength : Nat := 2
def stBadParam : Nat := 3
def stState : Nat := 4
def stRole : Nat := 5
def stBusy : Nat := 6
def stAuth : Nat := 7
def stResource : Nat := 8
def stSequence : Nat := 9
def stIntegrity : Nat := 10
def stDeferred : Nat := 11
def stFault : Nat := 12

/-- The outcome of a command: status, DETAIL and reply payload. -/
structure Rsp where
  status : Nat
  detail : Nat
  payload : List Byte
  deriving DecidableEq, Repr

def rspOk (pl : List Byte) : Rsp := ⟨stOk, 0, pl⟩
def rspErr (st detail : Nat) : Rsp := ⟨st, detail, []⟩

/-- The header of a packet (R391). -/
def pktHeader (op tag sess flags len cseq status detail chunk : Nat) : List Byte :=
  be 2 op ++ be 2 tag ++ be 1 sess ++ be 1 flags ++ be 2 len ++ be 4 cseq ++ be 1 status ++ be 1 detail ++ be 2 chunk

/-- The trailer of a packet: a tag under K_s in a sealed session, a CRC-32C and 12 zero bytes otherwise (R392). -/
def pktTrailer (key : Option (List Byte)) (l : List Byte) : List Byte :=
  match key with
  | some k => (Config.hmacSha256 k l).take 16
  | none => be 4 (crc32c l) ++ zeros 12

/-- One reply chunk (R396). -/
def replyChunk (key : Option (List Byte)) (h : Hdr) (r : Rsp) (pl : List Byte) (idx : Nat) (more : Bool) : List Byte :=
  let flags := b2n more + 2 * b2n key.isSome
  let l := pktHeader (h.op % 0x8000 + 0x8000) h.tag h.sess flags pl.length h.cseq r.status r.detail idx ++ pl
  l ++ pktTrailer key l

/-- The chunks of a reply (R396): 8,192 bytes of payload in each but the last. -/
def replyChunks (key : Option (List Byte)) (h : Hdr) (r : Rsp) : List (List Byte) :=
  let ps := if r.payload.isEmpty then [[]] else chunksOf 8192 128 r.payload
  mapIdxFrom (fun i pl => replyChunk key h r pl i (decide (i + 1 < ps.length))) 0 ps

/-- The key that seals a path's packets (R392). -/
def State.pathKey (s : State) (p : Path) : Option (List Byte) :=
  match p with
  | .sess k => if (s.session k).id.isSealed then some (s.session k).id.ks else none
  | _ => none

/-- Bytes for the controller in the reply FIFO, which holds 8,224, and behind it (16_management_buses.md R425). -/
def Bmp.load (b : Bmp) (l : List Byte) : Bmp :=
  { b with fifo := l.take 8224, chunks := if l.length ≤ 8224 then [] else [l.drop 8224] }

/-- Every byte of the reply not yet read. -/
def Bmp.waiting (b : Bmp) : List Byte := b.fifo ++ b.chunks.flatten

/-- Chunks handed to the path's carrier: RSP segments of consecutive SEQ on the port of their command (14_host_network.md R373),
or the BMP reply FIFO (R396). -/
def State.carry (s : State) (p : Path) (port : Nat) (cs : List (List Byte)) : State :=
  match p with
  | .sess k => s.modTx k (fun x =>
      { x with rsps := x.rsps ++ mapIdxFrom (fun i c => RspOut.mk (x.rspSeq + i) port s.tb c) 0 cs,
               rspSeq := x.rspSeq + cs.length })
  | .bmp => if s.bmp.dropReply then { s with bmp := { s.bmp with dropReply := false } }
      else { s with bmp := s.bmp.load (s.bmp.waiting ++ cs.flatten) }
  | .fw => s

/-- The reply of the command that runs on a path: recorded, kept (R395) and handed to the carrier. -/
def State.sendReply (s : State) (p : Path) (r : Rsp) : State :=
  match (s.cmd p).run with
  | none => s
  | some h =>
    let s := (s.modCmd p (fun c => { c with run := none })).emit (.reply p h.op r.status r.detail r.payload)
    if h.direct then s
    else
      let cs := replyChunks (s.pathKey p) h r
      let s := s.modCmd p (fun c => { c with kept := (Kept.mk h.cseq cs :: c.kept).take 16 })
      s.carry p h.port cs

end Sys2Proof.Machine
end

