-- ==== Sys2Proof/Machine/Stops.lean ====
section
/-! DEFINITION. How a job leaves its running states (01_system_overview.md R19): the seal of the hold path
(11_reseam.md R299 to R301, R308, R310), the entry into DRAINING and the entry into IDLE. -/

namespace Sys2Proof.Machine

/-- Event pin `k` put at its inactive level. -/
def State.pinOff (s : State) (k : Nat) : State :=
  if bitAt (s.fld F.ANA_EVT_STATUS_ASSERTED) k then
    (s.setFld F.ANA_EVT_STATUS_ASSERTED (s.fld F.ANA_EVT_STATUS_ASSERTED - 2 ^ k)).emit (.pin k (s.bit F.ANA_EVT_CFGk_POL k))
  else s

/-- Event pin `k` asserted. -/
def State.pinOn (s : State) (k : Nat) : State :=
  if bitAt (s.fld F.ANA_EVT_STATUS_ASSERTED) k then s
  else (s.setFld F.ANA_EVT_STATUS_ASSERTED (s.fld F.ANA_EVT_STATUS_ASSERTED + 2 ^ k)).emit (.pin k !s.bit F.ANA_EVT_CFGk_POL k)

/-- The pins when the device leaves RUNNING and HOLDING (09_output_analytics.md R264): MODE 1 pins inactive at once, MODE 0
pulses run out, and no verdict asserts a pin until RUNNING. -/
def State.pinsRelease (s : State) : State :=
  let s := (List.range 8).foldl (fun s k => if s.bit F.ANA_EVT_CFGk_MODE k then s.pinOff k else s) s
  { s with ana := { s.ana with pinsOn := false } }

/-- Every pin inactive at once, a pulse in progress cut short (19_faults_recovery.md R487). -/
def State.pinsCut (s : State) : State :=
  let s := (List.range 8).foldl State.pinOff s
  { s with ana := { s.ana with pinsOn := false, pulses := [] } }

/-- A session's unresolved lines for which `drop` holds are withdrawn. -/
def SessTx.dropLines (x : SessTx) (drop : Nat → Bool) : SessTx :=
  let cutting := x.cutting.filter (fun c => !drop c.1)
  { x with owed := x.owed.filter (fun e => !drop e.1), segs := x.segs.filter (fun g => !drop g.n), cutting := cutting }

/-- The lines of all sessions and of the elastic buffer for which `drop` holds are withdrawn. -/
def State.dropLines (s : State) (drop : Nat → Bool) : State :=
  let kept := s.prod.elastic.filter (fun l => !drop l.n)
  let ss := s.sessions.map (fun x => { x with tx := x.tx.dropLines drop })
  { s with prod := { s.prod with elastic := kept }, sessions := ss }

/-- Every line not yet acknowledged is discarded (R21). -/
def State.dropAllLines (s : State) : State :=
  let s := s.dropLines (fun _ => true)
  { s with prod := { s.prod with elastic := [], bins := [], tree := [] } }

/-- A committed line whose gate has not been issued is withdrawn (04_position_scheduler.md R121), with a LINE_SET of it that is
held back. -/
def State.dropCommit (s : State) : State :=
  if s.sched.cur.any (fun c => c.gate.isNone) then
    let free := fun (b : Bcb) => if b.heldSet.isSome then { b with heldSet := none, setEnd := 0 } else b
    { s with sched := { s.sched with cur := none }, bcbs := s.bcbs.map free }
  else s

/-- The scheduler places no further line: a committed line whose gate has not been issued is not exposed
(04_position_scheduler.md R121). -/
def State.stopPlacing (s : State) : State :=
  let s := s.dropCommit
  { s with sched := { s.sched with active := false, tn := none } }

/-- Time mode entered (04_position_scheduler.md R127): its first edge is due 50,000 ns on. A gated line keeps its window. -/
def State.timeEnter (s : State) : State :=
  let s := s.dropCommit
  { s with sched := { s.sched with timeMode := true, t0 := s.tb + 50000, saved := s.sched.target, target := 0 } }

/-- Time mode left: the target of position mode stands again. A gated line keeps its window. -/
def State.timeLeave (s : State) : State :=
  let s := s.dropCommit
  { s with sched := { s.sched with timeMode := false, target := s.sched.saved, tn := none } }

/-- The strobe of an open window brought low at once. -/
def State.strobeLow (s : State) : State :=
  if s.sched.expo.isSome then s.driven.foldl (fun s g => s.emit (.bstb g false s.tb)) s else s

/-- The entry into DRAINING (R19): no new lines, gates stopped, span quads in Autumn (18_power_startup.md R453), the paced
group on its way to rest (11_reseam.md R311). -/
def State.enterDraining (s : State) : State :=
  let s := ({ s with op := .draining }).stopPlacing.pinsRelease
  let s := if s.job.scan then (s.haltGroup s.pacedGroup).setFld F.SCAN_STATUS_PHASE 0 else s
  s.quadsAutumn

/-- The entry into IDLE from any state (R18, R19, R78): tiles to IDLE, gates and chains at rest, a triggered swap made,
quads in Winter, the log copied (19_faults_recovery.md R484) and OTP bits blown (17_security.md R440). -/
def State.enterIdle (s : State) : State :=
  let s := ({ s with op := .idle }).pinsRelease.tilesIdle.chainsRest.swapIdle.strobeLow.dropCommit
  let s := { s with sched := { s.sched with cur := none, expo := none, active := false, tn := none, timeMode := false } }
  let s := (s.setFld F.SCHED_CTRL_TIME_MODE 0).setFld F.SCAN_STATUS_PHASE 0
  let s := { s with groups := s.groups.map (fun (g : Group) => { g with used := g.used && g.back }) }
  let s := s.allQuadsWinter
  (s.logCopy.1).otpBlow

/-! The hold path (11_reseam.md R299 to R310). -/

/-- Every engine discards its line and row records and primes again (R300). -/
def State.coldEngines (s : State) : State :=
  s.span.foldl (fun s i => s.modEng i (fun e => { e with rows := [[], [], [], []], recs := [] })) s

/-- The first line that the job produces (07_alignment_seams.md R195). -/
def State.firstLine (s : State) : Nat := s.prod.n0.getD s.sched.target + s.prime

/-- Whether the recapture of output line `ls1` (one above L_s) can be warm (R300): no engine has accepted an exposure above
L_s + LAT, and every exposure up to it was placed. -/
def State.warmOk (s : State) (ls1 : Nat) : Bool :=
  decide (s.prod.acceptTop ≤ ls1 + s.lat) && decide (ls1 + s.lat ≤ s.prod.placedTop) && s.prod.n0.isSome

/-- A seal carried out: L_s, N_R, the recapture's kind, the withdrawal of lines above L_s, the paced group braking
(R299, R300, R302, R308). `ls1` is one above L_s. -/
def State.sealAt (s : State) (bit ls1 : Nat) (cold : Bool) (fresh : Bool) : State :=
  let cold := cold || !s.warmOk ls1
  let nextOut := match s.prod.firstOut with
    | some _ => s.prod.next
    | none => max s.prod.next s.firstLine
  let ls1 := if cold then min ls1 nextOut else ls1
  let nr := if cold then ls1 - s.prime else ls1 + s.lat
  let causes := if fresh then 2 ^ bit else Nat.lor (s.fld F.SCAN_STATUS_CAUSE) (2 ^ bit)
  let s := s.setFlds [(F.SCAN_STATUS_CAUSE, causes), (F.SCAN_STATUS_COLD, b2n cold), (F.SCAN_LS_LINE, ls1 + 2 ^ 32 - 1),
    (F.SCAN_NR_LINE, nr)]
  let s := s.dropLines (fun n => decide (ls1 ≤ n))
  let s := if cold then s.coldEngines else s
  let made := s.prod.made.filter (fun n => decide (n < ls1))
  { s with prod := { s.prod with sealNext := some ls1, resumeNo := nr, cold := cold, last := made.head?, made := made, next := min nextOut ls1,
                                 acceptTop := if cold then nr else s.prod.acceptTop, reseam := some ls1,
                                 emitted := s.prod.emitted.map (min ls1),
                                 bins := s.prod.bins.map (fun (b : Bin) =>
                                   { b with members := b.members.filter (fun m => decide (m.line < ls1)) }) } }

/-- A hold cause arises (R299, R310): in SCAN, RUNNING or HOLDING. The seal at or beyond the job's last line drains
instead (R301). A STALL or an ESTOP in a hold stops the group, which then has to be enabled and backed again (R305). -/
def State.hold (s : State) (bit ls1 : Nat) (cold : Bool) : State :=
  if !s.job.scan || !(s.op = .running || s.op = .holding) then s
  else
    let ls1' := max ls1 s.firstLine
    let cold := cold || decide (ls1 < s.firstLine)
    let phase := s.fld F.SCAN_STATUS_PHASE
    if s.op = .holding ∧ phase ≠ 5 then
      match s.prod.sealNext with
      | none => s
      | some l =>
        if l < ls1' then s
        else
          let s := s.sealAt bit ls1' (cold || s.prod.cold) false
          if bit = 6 ∨ bit = 7 then s.setFld F.SCAN_STATUS_PHASE 2 else s
    else if s.job.lineCount ≠ 0 ∧ s.job.lineCount ≤ ls1' then s.enterDraining
    else
      let s := s.sealAt bit ls1' cold true
      let s := ({ s with op := .holding }).setFld F.SCAN_STATUS_PHASE 2
      (s.count F.SCAN_HOLD_CNT_COUNT).haltGroup s.pacedGroup

/-- A hold cause that names the last produced line (R299). -/
def State.holdLast (s : State) (bit : Nat) : State :=
  s.hold bit (match s.prod.last with
    | some l => l + 1
    | none => s.firstLine) false

/-- A hold cause that names exposure `m` (R299). -/
def State.holdExposure (s : State) (bit m : Nat) : State :=
  s.hold bit (m - s.lat) (decide (m < s.lat))

/-- The job ends as under JOB_STOP (R19, R22): lines up to L_s in a hold. -/
def State.stopJob (s : State) : State :=
  if s.op = .running ∨ s.op = .holding then s.enterDraining else s

end Sys2Proof.Machine
end

