-- ==== Sys2Proof/Machine/LumOps.lean ====
section
/-! DEFINITION. Illumination chains (05_illumination.md): command and status slots, refreshes and commits, derating, supply
tracking, diagnosis, and the section drivers at a gate. -/

namespace Sys2Proof.Machine

/-- The commands of a slot (R133). -/
def cmdDuty : Nat := 0
def cmdDiag : Nat := 1
def cmdCfg : Nat := 2
def cmdClear : Nat := 3

/-- The parity bit that makes the count of ones even. -/
def parity (n : Nat) : Nat → Bool
  | 0 => false
  | k + 1 => bitAt n k != parity n k

/-- The bits of a command slot, least significant first (R132, R133). -/
def slotBits (x : CSlot) : List Bool :=
  let v := x.front % 65536 + x.rear % 65536 * 65536 + x.nir % 65536 * 2 ^ 32 + x.cmd % 8 * 2 ^ 48
  (List.range 55).map (bitAt v) ++ [parity v 55]

/-- The number that bits spell, least significant first. -/
def bitsNat (l : List Bool) : Nat := l.foldr (fun b a => b2n b + 2 * a) 0

/-- The 24-bit status slots of a returned stream, least significant bit first. -/
def statusSlots (bits : List Bool) (n : Nat) : List Nat := (List.range n).map (fun k => bitsNat ((bits.drop (24 * k)).take 24))

/-- Bits with those at the places `flips` inverted. -/
def flipBits (flips : List Nat) (l : List Bool) : List Bool :=
  if flips.isEmpty then l else mapIdxFrom (fun k b => if flips.contains k then !b else b) 0 l

/-- The stream checks (R136): COUNT × 24 bits, every slot of even parity. -/
def streamOk (bits : List Bool) (n : Nat) : Bool :=
  bits.length = 24 * n && (statusSlots bits n).all (fun v => !parity v 24)

/-- COUNT of a chain. -/
def State.chainCount (s : State) (c : Nat) : Nat := s.fld F.LUM_CHAIN_CFG_COUNT c

/-- The duty sent for a set duty (R140). -/
def State.scaledDuty (s : State) (d f : Nat) : Nat :=
  let k := 16 - s.fld F.LUM_CFG_PWM_BITS
  min 0xFFFF ((rheDiv (d * f) (2 ^ 14 * 2 ^ k)).toNat * 2 ^ k)

/-- The target derating factor of section `d`, unsigned 2.14 (R144, 12_bar_monitor.md R329). -/
def State.derateTarget (s : State) (d : Nat) : Nat :=
  let knee := s.fld F.LUM_DERATE_KNEE_C
  let floor_ := s.fld F.LUM_DERATE_FLOOR_C
  let pct := s.fld F.LUM_DERATE_FLOOR_PCT
  let low := (rheDiv (16384 * pct) 100).toNat
  match s.tempAt (20320 * d + 10160) with
  | none => low
  | some (n, q) =>
    if n ≤ knee * 256 * q then 16384
    else if (floor_ * 256 * q : Int) ≤ n then low
    else
      let span := (floor_ - knee) * 256 * q
      (rheDiv (16384 * (100 * span - (100 - pct : Nat) * (n - knee * 256 * q))) (100 * span)).toNat

/-- The factor after a step toward the target (R144): at most SLOPE × 0.0001 per 100 placed lines. The slots of a commit are
sent before it, so that a line placed after its refresh began counts toward the next step. DEDUCED, assumption log 154. -/
def State.derateStep (s : State) (c d : Nat) : Nat :=
  let f := s.fld F.LUM_SEC_DERATE_FACTOR d
  let t := s.derateTarget d
  let m := (rheDiv (16384 * s.fld F.LUM_DERATE_SLOPE * (s.chain c).placed) 1000000).toNat
  if f < t then min t (f + m) else max t (f - m)

/-- The Equinox run holds duties and factors (08_calibration.md R220): its phases 1 to 4. -/
def State.eqxHolds (s : State) : Bool := s.ops.eqx.any (fun e => 1 ≤ e.phase && e.phase ≤ 4)

/-- The Equinox run asks for duty 0 (phases 0 and 1). -/
def State.eqxDark (s : State) : Bool := s.ops.eqx.any (fun e => e.phase ≤ 1)

/-- The slot of section `d` reports UNVERIFIED. -/
def State.unverified (s : State) (d : Nat) : Bool := bitsOf (s.fld F.LUM_SEC_STATUS_SLOT d) 14 3 ≠ 0

/-- DIAG_OFFSET of a job's diagnostic pulse (R146). -/
def State.diagOffset (s : State) : Nat := ceilDiv (s.fld F.SCHED_LUM_LEAD_NS + s.fld F.EXPO_NS_NS + 1000) 250

/-- A diagnostic pulse may be sent on chain `c` (R146): in SCAN where no image line can receive it, in INSPECT where it fits between
two windows, and not from an Equinox run's dark refresh until the commit that follows its last white line. -/
def State.diagAllowed (s : State) (c : Nat) : Bool :=
  s.bit F.LUM_CFG_DIAG_EN && !(s.chain c).quiet &&
    (if s.job.scan then s.op = .holding || s.op = .calibrating
     else match s.sched.rises with
       | a :: b :: _ => s.op.inJob && decide (b + s.fld F.EXPO_NS_NS + s.fld F.SCHED_LUM_LEAD_NS + 6000 ≤ a)
       | _ => false)

/-- A chain's last refresh carries duty 0 in every slot (08_calibration.md R220). -/
def Chain.sentDark (x : Chain) : Bool := x.sent.all (fun v => v.front = 0 && v.rear = 0 && v.nir = 0 && v.cmd = cmdDuty)

/-- Section `d` takes a diagnostic slot in the next refresh. -/
def State.wantsDiag (s : State) (d : Nat) : Bool := s.diagAllowed (d / 64) && s.sectInSpan d && s.unverified d

/-- The phase of a LUM_DIAG on chain `c` (R538): 0 CFG refresh, 1 its commit, 2 DUTY_DIAG refresh, 3 its commit, 4 the
reading refresh, 5 done. -/
def State.diagPhase (s : State) (c : Nat) : Option Nat := s.ops.diag.bind (fun g => assocGet c g.chains)

/-- Section `d` is named by the LUM_DIAG under way. -/
def State.diagNames (s : State) (d : Nat) : Bool := s.ops.diag.any (fun g => g.secs.contains d)

/-- The factor the next refresh of chain `c` carries for section `d`. -/
def State.nextFactor (s : State) (c d : Nat) : Nat :=
  if s.eqxHolds || !(s.op = .running || s.op = .armed || s.op = .calibrating || s.op = .service) then
    s.fld F.LUM_SEC_DERATE_FACTOR d
  else s.derateStep c d

/-- A slot with the set duties of section `d`, scaled by a factor (R140). -/
def State.setSlot (s : State) (d f cmd : Nat) : CSlot :=
  ⟨s.scaledDuty (s.fld F.LUM_SEC_DUTY0_FRONT d) f, s.scaledDuty (s.fld F.LUM_SEC_DUTY0_REAR d) f, s.scaledDuty (s.fld F.LUM_SEC_DUTY1_NIR d) f, cmd⟩

/-- The slot of section `d` that changes duties: 0 outside the tiles worked on and for the dark lines, the heating duty of a
thermal sweep, else the set duties scaled (R140, R44, 08_calibration.md R220, R233). -/
def State.dutySlot (s : State) (c d : Nat) : CSlot :=
  if s.eqxDark || !s.sectInSpan d then ⟨0, 0, 0, cmdDuty⟩
  else
    let f := s.nextFactor c d
    match s.ops.therm, s.ops.eqx with
    | some h, none => ⟨s.scaledDuty h.heat f, s.scaledDuty h.heat f, s.scaledDuty h.heat f, cmdDuty⟩
    | _, _ => s.setSlot d f cmdDuty

/-- The slot that carries the duties a driver holds active (R135). -/
def State.heldSlot (s : State) (d cmd : Nat) : CSlot := ⟨(s.driver d).front, (s.driver d).rear, (s.driver d).nir, cmd⟩

/-- The duties of section `d` in the refreshes of a LUM_DIAG (R538): what a driver holds in SERVICE is 0 unless LUM_SET has set another,
and what it has set enters the next refresh (R149). The refresh of step 4, which is not committed, carries them too. DEDUCED,
assumption log 167. -/
def State.serviceSlot (s : State) (d cmd : Nat) : CSlot := s.setSlot d (s.fld F.LUM_SEC_DERATE_FACTOR d) cmd

/-- The command slots of the next refresh of chain `c`, and whether it carries only diagnosis. -/
def State.refreshSlots (s : State) (c : Nat) : List CSlot × Bool :=
  let ds := (List.range (s.chainCount c)).map (fun k => 64 * c + k)
  let diagSlot := fun (d off : Nat) =>
    if (s.driver d).diagOff = off then s.heldSlot d cmdDiag else ⟨off, 0, 0, cmdCfg⟩
  match s.diagPhase c with
  | some ph => (ds.map (fun d =>
      if s.diagNames d ∧ ph ≤ 1 then ⟨4, 0, 0, cmdCfg⟩
      else s.serviceSlot d (if s.diagNames d ∧ ph ≤ 3 then cmdDiag else cmdDuty)), true)
  | none =>
    if s.op = .holding ∧ ds.any s.wantsDiag then
      (ds.map (fun d => if s.wantsDiag d then diagSlot d s.diagOffset else s.heldSlot d cmdDuty), true)
    else
      (ds.map (fun d => if s.wantsDiag d ∧ s.op ≠ .holding then
          (let x := s.dutySlot c d
           if (s.driver d).diagOff = s.diagOffset then { x with cmd := cmdDiag } else ⟨s.diagOffset, 0, 0, cmdCfg⟩)
        else s.dutySlot c d), false)

/-- Chain `c` is refreshed in the present state (R132, R44, R538). -/
def State.refreshes (s : State) (c : Nat) : Bool :=
  match s.op with
  | .armed | .calibrating | .running | .holding => s.drives c
  | .service => (s.diagPhase c).any (fun p => p ≠ 1 && p ≠ 3 && p ≠ 5) || ((s.ops.eqx.isSome || s.ops.therm.isSome ||
      s.ops.align.isSome) && s.drives c)
  | _ => false

/-- The drivers of chain `c` in ring order (R130): those fitted from driver 0 on. -/
def State.ringDrivers (s : State) (c : Nat) : Nat := ((List.range 64).takeWhile (fun k => (s.driver (64 * c + k)).fitted)).length

/-- A driver takes its command slot (R133): one that fails parity or carries a reserved CMD changes nothing, and CMD_ERR is set. -/
def Driver.take (d : Driver) (v now : Nat) : Driver :=
  if parity v 56 || decide (4 ≤ bitsOf v 48 3) then { d with cmdErr := true, lastSeen := now }
  else { d with shadow := some ⟨bitsOf v 0 16, bitsOf v 16 16, bitsOf v 32 16, bitsOf v 48 3⟩, cmdErr := false, lastSeen := now }

/-- A frame of command slots on chain `c` (R132): driver k takes the first slot that reaches it. `flips` are the bits that arrive
inverted. -/
def State.ringFrame (s : State) (c : Nat) (slots : List CSlot) (flips : List Nat) : State :=
  let bits := slots.flatMap slotBits
  let arrived := flipBits flips bits
  (List.range (s.ringDrivers c)).foldl (fun s k => s.modDriver (64 * c + k) (fun d =>
    if k < slots.length then d.take (bitsNat ((arrived.drop (56 * k)).take 56)) s.tb else { d with lastSeen := s.tb }))
    (s.emit (.ring c bits))

/-- How long string `k`'s present on-time has lasted at `now` since the driver's last status slot, in ns (R134, R139). -/
def Driver.litNs (d : Driver) (k now : Nat) : Nat := min (d.onAt + nthD 0 d.on k * 125 / 8) now - max d.onAt d.slotAt

/-- The strings that had an on-time of at least 2 µs since the last status slot (R134, R145). -/
def Driver.seen (d : Driver) (now : Nat) : List Bool :=
  (List.range 3).map (fun k => nthD false d.lit k || decide (2000 ≤ d.litNs k now))

/-- A driver's status slot (R134), which begins its next status interval: a string is tested in an on-time of at least 2 µs and in a
pulse that ran to its end (R145, R146). -/
def Driver.status (d : Driver) (x : DriverSense) (now : Nat) : Nat × Driver :=
  let lit := d.seen now
  let ended := d.pulse.filter (fun p => decide (p.1 ≤ now))
  let tested := fun k => nthD false lit k || ended.any (fun p => nthD false p.2 k)
  let opens := (List.range 3).map (fun k => nthD false d.opens k || (tested k && bitAt x.opens k))
  let shorts := (List.range 3).map (fun k => nthD false d.shorts k || (tested k && bitAt x.shorts k))
  let dark := (List.range 3).map (fun k => decide (0 < nthD 0 [d.front, d.rear, d.nir] k) && !nthD false lit k)
  let v := (if lit.any id then x.headroom % 256 else 255) + bitsNat (opens ++ shorts ++ dark ++ [ended.isSome, x.hot, d.cmdErr]) * 2 ^ 8
  (v + b2n (parity v 23) * 2 ^ 23,
    { d with lit := [false, false, false], slotAt := now, opens := opens, shorts := shorts,
             pulse := if ended.isSome then none else d.pulse })

/-- What comes back of chain `c`'s frame (R132, R137): the slots that no driver took, then every driver's status slot. -/
def State.ringStatus (s : State) (c : Nat) (l : List DriverSense) : List Bool × State :=
  let n := s.ringDrivers c
  let status := fun k => (s.driver (64 * c + k)).status (nthD {} l k) s.tb
  (((s.chain c).sent.drop n).flatMap slotBits ++ (List.range n).flatMap (fun k => (List.range 24).map (bitAt (status k).1)),
    (List.range n).foldl (fun s k => s.modDriver (64 * c + k) (fun d => (d.status (nthD {} l k) s.tb).2)) s)

/-- A refresh begins (R132): reset and slots sent, each driver keeps its own as a shadow. -/
def State.refreshBegin (s : State) (c : Nat) (flips : List Nat) : State :=
  let (slots, diag) := s.refreshSlots c
  let facs := (List.range (s.chainCount c)).map (fun k => if diag then s.fld F.LUM_SEC_DERATE_FACTOR (64 * c + k)
    else s.nextFactor c (64 * c + k))
  let s := s.modChain c (fun x => { x with sent := slots, facs := facs, waiting := true, passed := false, diag := diag,
                                           used := if diag then 0 else x.placed,
                                           markDue := none })
  (s.setFld F.LUM_CHAIN_STATUS_REFRESHING 1 c).ringFrame c slots flips

/-- A refresh may begin: the chain is refreshed, no stream is awaited, no mark waits for its gate, and a passed refresh waits for
its commit (R132, R135) but in a hold without a diagnostic refresh, where none follows. DEDUCED, assumption log 79. -/
def State.refreshDue (s : State) (c : Nat) : Bool :=
  s.refreshes c && !(s.chain c).waiting && !(s.chain c).marked &&
    (!(s.chain c).passed || (s.diagPhase c).isSome || (s.op = .holding && !(s.chain c).diag))

/-- A chain's flag raised once per section and job (R147). -/
def State.sectWarn (s : State) (d code : Nat) : State := s.burgeeOnce (suppKey 5 code d) 5 code d

/-- The status slots of a passed refresh taken up (R134, R147): a channel that stays UNVERIFIED over 2 refreshes without a pulse that
ran to its end is reported. -/
def State.takeStatus (s : State) (c : Nat) (vs : List Nat) : State :=
  (List.range vs.length).foldl (fun s k =>
    let d := 64 * c + k
    let v := nthD 0 vs k
    let s := s.setFld F.LUM_SEC_STATUS_SLOT v d
    if !s.sectInSpan d then s
    else
      let s := if bitsOf v 8 3 ≠ 0 then s.sectWarn d 4 else s
      let s := if bitsOf v 11 3 ≠ 0 then s.sectWarn d 5 else s
      let s := if bitAt v 18 then s.sectWarn d 6 else s
      (List.range 3).foldl (fun s ch =>
        let key := 3 * d + ch
        if bitAt v (14 + ch) ∧ !bitAt v 17 then
          let n := (assocGet key (s.chain c).unver).getD 0 + 1
          let s := s.modChain c (fun x => { x with unver := assocSet key n x.unver })
          if 2 ≤ n then s.sectWarn d 3 else s
        else s.modChain c (fun x => { x with unver := assocDel key x.unver })) s) s

/-- Supply tracking after a passed refresh (R143), in a job: outside one the code is 0 (R142). Assumption log 163. -/
def State.trackSupply (s : State) (c : Nat) (vs : List Nat) : State :=
  let hs := (vs.map (fun v => v % 256)).filter (fun h => h ≠ 255)
  if hs.isEmpty || !s.op.inJob then s
  else
    let mv := 10 * minND 255 hs
    let t := s.fld F.LUM_HEADROOM_TARGET_MV
    let code := s.fld F.LUM_VREF_CODE c
    let st := s.fld F.LUM_CHAIN_CFG_VREF_STEP c
    let lo := s.fld F.LUM_VREF_LIM_MIN c
    let hi := s.fld F.LUM_VREF_LIM_MAX c
    let code' := if mv + 25 < t then code + st else if t + 25 < mv then code - st else code
    s.setFld F.LUM_VREF_CODE (max lo (min hi code')) c

/-- A LUM_DIAG's phase on chain `c` set. -/
def State.setDiagPhase (s : State) (c p : Nat) : State :=
  { s with ops := { s.ops with diag := s.ops.diag.map (fun g => { g with chains := assocSet c p g.chains }) } }

/-- A refresh passes (R136). -/
def State.refreshPass (s : State) (c : Nat) (vs : List Nat) : State :=
  let s := s.modChain c (fun x => { x with waiting := false, passed := true, fails := 0, eqxFails := 0 })
  let s := (s.wrapInc F.LUM_REFRESH_SEQ_SEQ c).setFld F.LUM_CHAIN_STATUS_REFRESHING 0 c
  let s := (s.takeStatus c vs).trackSupply c vs
  match s.diagPhase c with
  | some 0 => s.setDiagPhase c 1
  | some 2 => s.setDiagPhase c 3
  | some 4 => s.setDiagPhase c 5
  | _ => s

/-- A refresh fails (R136); the next one starts at once. -/
def State.refreshFail (s : State) (c : Nat) : State :=
  let s := (s.count F.LUM_RING_ERR_CNT_COUNT c).setFld F.LUM_CHAIN_STATUS_RING_ERR 1 c
  let n := (s.chain c).fails + 1
  let k := (s.chain c).eqxFails + 1
  let s := s.modChain c (fun x => { x with fails := n, eqxFails := k, waiting := false, passed := false })
  let s := if n = 3 then s.burgee 5 clsWarn 1 c else s
  let s := if 3 ≤ k then s.eqxFault 6 else s
  if s.refreshes c then s.refreshBegin c [] else s.setFld F.LUM_CHAIN_STATUS_REFRESHING 0 c

/-- Every driven chain has passed (08_calibration.md R220). -/
def State.allPassed (s : State) : Bool := s.driven.all (fun c => (s.chain c).passed)

/-- A commit mark may follow a gate on chain `c` (R135): after a placed gate, a keep-warm gate in ARMED, a diagnostic
refresh in HOLDING, a service gate of LUM_DIAG, a gate that heats (08_calibration.md R233); in an Equinox run for the dark commit and, once the dark lines are
complete, the white one. -/
def State.markAllowed (s : State) (c : Nat) (placed : Bool) : Bool :=
  (s.chain c).passed && !(s.chain c).marked &&
    (match s.ops.eqx with
     | some e => placed && (e.phase = 1 || e.phase = 3 || e.phase ≥ 5) && s.allPassed
     | none =>
       match s.diagPhase c with
       | some p => p = 1 || p = 3
       | none => placed || s.op = .armed || (s.op = .service && s.ops.therm.isSome) || (s.op = .holding && (s.chain c).diag))

/-- What a driver latches at a gate (R133, R135, R146): its duties or DIAG_OFFSET, a pulse armed, its latches cleared. -/
def Driver.latch (d : Driver) : Driver × Bool :=
  match d.shadow with
  | none => (d, false)
  | some x =>
    let d := { d with shadow := none, committed := false }
    if x.cmd = cmdCfg then ({ d with diagOff := x.front }, false)
    else
      let d := { d with front := x.front, rear := x.rear, nir := x.nir }
      if x.cmd = cmdClear then ({ d with opens := [false, false, false], shorts := [false, false, false] }, false)
      else (d, x.cmd = cmdDiag)

/-- The on-times of a driver's strings at a gate, in periods of 64 MHz (R139). -/
def onTime (duty p : Nat) : Nat := (rheDiv (duty * p) 65536).toNat

/-- A gate ends a driver's on-times and its pulse (R139, R146): what it cuts, and the on-times seen. -/
def State.driverCut (s : State) (d : Nat) : State :=
  let x := s.driver d
  let on := (List.range 3).filter (fun k => decide (8 * s.tb < 8 * x.onAt + 125 * nthD 0 x.on k))
  let fired := match x.pulse with
    | some p => if s.tb < p.1 then (List.range 3).filter (fun k => nthD false p.2 k) else []
    | none => []
  let s := on.foldl (fun s k => s.emit (.onCut d k)) s
  let s := fired.foldl (fun s k => s.emit (.pulseCut d k)) s
  s.modDriver d (fun y => { y with lit := x.seen s.tb, on := [0, 0, 0], pulse := if fired.isEmpty then y.pulse else none })

/-- A driver at a gate's rising edge: latch, on-times, pulses (R135, R139, R146). The periods between two gates are counted to the
nearest, as the table of R141 does. DEDUCED, assumption log 78. -/
def State.driverGate (s : State) (d : Nat) : State :=
  if !(s.driver d).fitted then s
  else
    let s := s.driverCut d
    let x := s.driver d
    let (x, pulse) := if x.committed then x.latch else (x, false)
    let p := match x.lastGate with
      | some g => min (2 ^ 24 - 1) (rheDiv ((s.tb - g : Nat) * 8) 125).toNat
      | none => 0
    let on := [onTime x.front p, onTime x.rear p, onTime x.nir p]
    let fire := (List.range 3).map (fun k => pulse && !nthD false x.lit k)
    let s := (List.range 3).foldl (fun s k => if nthD false fire k then s.emit (.diagPulse d k (250 * x.diagOff)) else s) s
    let s := (List.range 3).foldl (fun s k => if nthD 0 on k = 0 then s else s.emit (.onTime d k (nthD 0 on k))) s
    s.modDriver d (fun _ => { x with lastGate := some s.tb, lastSeen := s.tb, onAt := s.tb, on := on, period := p, pulse := if fire.any id then some (s.tb + 250 * x.diagOff + 4000, fire) else x.pulse })

/-- What the strings of section `d` light within a window at their present duties, in 1/8 ns (06_engines_shading.md R169): a
string lights from the gate for its on-time, and the window opens LUM_LEAD_NS after the gate. DEDUCED, assumption log 72. -/
def State.lightOf (s : State) (d : Nat) : Nat :=
  let x := s.driver d
  let lead := 8 * s.fld F.SCHED_LUM_LEAD_NS
  sumN ([x.front, x.rear, x.nir].map (fun v => min (125 * onTime v x.period) (lead + 8 * s.fld F.EXPO_NS_NS) - lead))

/-- Q is due to the engines of section `d` with a commit (R169). -/
def State.sendQ (s : State) (d : Nat) : State :=
  [2 * d, 2 * d + 1].foldl (fun s i => s.modEng i (fun e => { e with qDue := true })) s

/-- Q taken up by engine `i` from the line of the commit on (R169, R182): the ratio of its section's light to that of the Equinox run
which built the bank now active, 0 when no such run was made since the quad entered Summer. -/
def State.takeQ (s : State) (i : Nat) : State :=
  if (s.eng i).qDue then
    let ref := nthD 0 (s.eng i).light (s.fld F.TILE_ENG_STATUS_ACTIVE i)
    let q := if ref = 0 then 0 else clampU 16 (rheDiv ((s.lightOf (i / 2) * 2 ^ 14 : Nat) : Int) ref)
    s.modEng i (fun e => { e with q := q, qDue := false })
  else s

def State.takeQs (s : State) : State := s.workTiles.foldl State.takeQ s

/-- A gate's rising edge on chain `c` at TB_NOW, GATE_W wide (R124, R135): drivers latch a commit, the mark that may follow
is due 500 ns after its falling edge. `line` names the line of a placed gate. -/
def State.gateEdge (s : State) (c : Nat) (line : Option Nat) : State :=
  let w := s.fld F.SCHED_LUM_GATE_W
  let s := s.emit (.gate c w s.tb)
  let latching := (s.chain c).marked
  let s := (List.range 64).foldl (fun s k => s.driverGate (64 * c + k)) s
  let s := if latching then
      let facs := (s.chain c).facs.take 64
      let s := if (s.chain c).diag then s else
        (List.range facs.length).foldl (fun s k => s.setFld F.LUM_SEC_DERATE_FACTOR (nthD 0x4000 facs k) (64 * c + k)) s
      let s := (List.range facs.length).foldl (fun s k => s.sendQ (64 * c + k)) s
      let s := match line with
        | some n => s.setFld F.LUM_LATCH_LINE_LINE n c
        | none => s
      let s := match s.diagPhase c with
        | some 1 => s.setDiagPhase c 2
        | some 3 => s.setDiagPhase c 4
        | _ => s
      let ended := s.ops.eqx.all (fun e => decide (5 ≤ e.phase))
      s.modChain c (fun x => { x with quiet := x.quiet && !ended, marked := false, passed := false, placed := x.placed - x.used, used := 0, latched := !s.eqxDark || x.sentDark })
    else s
  let s := if line.isSome then s.modChain c (fun x => { x with placed := x.placed + 1 }) else s
  if s.markAllowed c line.isSome then s.modChain c (fun x => { x with markDue := some (s.tb + w + 500) }) else s

/-- The commit mark sent and its return checked (R135, R136): drivers beyond a break do not see it. -/
def State.sendMark (s : State) (c : Nat) (ret : MarkReturn) : State :=
  let back := decide (3500 ≤ ret.ns) && decide (ret.ns ≤ 4500)
  let n := if back then s.ringDrivers c else min ret.reach (s.ringDrivers c)
  let s := (s.modChain c (fun x => { x with marked := true, markDue := none })).emit (.mark c)
  let s := (List.range n).foldl (fun s k => s.modDriver (64 * c + k) (fun d => { d with committed := d.shadow.isSome })) s
  if back then s
  else (s.setFld F.LUM_CHAIN_STATUS_MARK_ERR 1 c).burgee 5 clsWarn 1 c

/-- A driver that has received neither a frame nor a gate for 20 ms goes dark (R138). -/
def State.driverDark (s : State) (d : Nat) : State :=
  s.modDriver d (fun x => { x with front := 0, rear := 0, nir := 0, lastGate := none })

/-- The drivers that a counting frame's return shows (R137). -/
def foundOf (bits : Nat) : Option Nat :=
  if bits ≤ 3584 ∧ (3584 - bits) % 32 = 0 ∧ (3584 - bits) / 32 ≤ 64 then some ((3584 - bits) / 32) else none

/-- The drivers of chain `c` counted (R137): a frame of 64 DUTY slots of duty 0, and the length of what it returns. -/
def State.countChain (s : State) (c : Nat) : State :=
  let slots := List.replicate 64 (⟨0, 0, 0, cmdDuty⟩ : CSlot)
  let s := (s.ringFrame c slots []).modChain c (fun x => { x with sent := slots, waiting := false, passed := false })
  let (back, s) := s.ringStatus c []
  let found := foundOf ((nthD none s.env.rings c).getD back.length)
  let n := found.getD 0
  let s := if found.isSome then s else (s.setFld F.LUM_CHAIN_STATUS_RING_ERR 1 c).burgee 5 clsWarn 1 c
  let s := s.setFlds [(F.LUM_CHAIN_STATUS_FOUND, n), (F.LUM_CHAIN_STATUS_COUNT_MISMATCH, b2n (n ≠ s.chainCount c))] c
  let s := (List.range 64).foldl (fun s k => s.setFld F.LUM_SEC_STATUS_ABSENT (b2n (n ≤ k)) (64 * c + k)) s
  if n = s.chainCount c then s else s.burgee 5 clsWarn 2 c

def State.countChains (s : State) : State := (List.range 4).foldl State.countChain s

end Sys2Proof.Machine
end

