-- ==== Sys2Proof/Machine/ShadeOps.lean ====
section
/-! DEFINITION. What an engine does with an accepted frame (06_engines_shading.md): the black clamp, shading in both forms,
lamp normalisation and the lamp-fault test, the Equinox sums, and the row and line records (07_alignment_seams.md R188,
R196). -/

namespace Sys2Proof.Machine

/-! The optical-black clamp (R162, R163). -/

/-- m of one row: the 8 optical-black samples without one highest and one lowest (R162), unsigned 12.8. -/
def blackEst (l : List Nat) : Int := rheDiv (((sumN l : Nat) - (maxN l : Nat) - (minND 4096 l : Nat) : Int) * 256) 6

/-- The filter state after an accepted frame (R163); `none` before the first. -/
def blackStep (avg : Nat) (st : Option Int) (m : Int) : Int :=
  match st with
  | none => m
  | some x => x + rheDiv (m - x) (2 ^ avg)

/-- OB_r of a filter state (R163), unsigned 12.4. -/
def obOf (st : Int) : Int := rheDiv st 16

/-! Shading (R165 to R173). -/

/-- One photosite's result: v after clamping, DEFECT, clipped, clamped at 0, and whether gm clamped. -/
structure Px where
  v : Nat
  defect : Bool
  clip : Bool
  under : Bool
  gain : Bool
  deriving DecidableEq, Repr

/-- The fields of a native slot (R176). -/
def slotG (x : Nat) : Nat := x % 65536
def slotO (x : Nat) : Int := toSigned 12 (bitsOf x 16 12)
def slotKo (x : Nat) : Int := toSigned 8 (bitsOf x 28 8)
def slotKg (x : Nat) : Int := toSigned 8 (bitsOf x 36 8)
def slotDust (x : Nat) : Bool := bitAt x 44
def slotDefect (x : Nat) : Bool := bitAt x 45

/-- A native slot from its fields. -/
def nativeSlot (g : Nat) (o ko kg : Int) (dust defect : Bool) : Nat :=
  g % 65536 + ofSigned 12 o * 2 ^ 16 + ofSigned 8 ko * 2 ^ 28 + ofSigned 8 kg * 2 ^ 36 + b2n dust * 2 ^ 44 + b2n defect * 2 ^ 45

/-- v of a photosite in the native form, before clamping, and whether gm clamped (R166). -/
def shadeNative (x raw : Nat) (ob dT m : Int) : Int × Bool :=
  let kt := rheDiv (slotKo x * dT) (2 ^ 9)
  let y := 16 * (raw : Int) - ob - slotO x - kt
  let g := clampI 0 0xFFFF (slotG x + rheDiv (slotG x * slotKg x * dT) (2 ^ 24))
  let gm := rheDiv (g * m) (2 ^ 14)
  (rheDiv (y * clampI 0 0xFFFF gm) (2 ^ 14), decide (gm ≠ clampI 0 0xFFFF gm))

/-- v of a photosite in the compatibility form, before clamping (R173). -/
def shadeCompat (x raw : Nat) : Int := rheDiv ((16 * (raw : Int) - (x % 65536 : Nat)) * (bitsOf x 32 16 : Nat)) (2 ^ 14)

/-- RCP of a compatibility slot, and whether it clamped (R173). -/
def rcpOf (white b w : Nat) : Nat × Bool :=
  if w ≤ b then (0xFFFF, true)
  else
    let q := rheDiv (white * 2 ^ 14) (w - b)
    ((clampI 1 0xFFFF q).toNat, decide (q ≠ clampI 1 0xFFFF q))

/-- One photosite shaded, clamped and judged (R171). The clamp of gm of one marked DEFECT (R166) is not counted: assumption log 184. -/
def shadePx (compat lampMax : Bool) (x raw : Nat) (ob dT m : Int) : Px :=
  if !compat && slotDefect x then ⟨0, true, false, false, false⟩
  else
    let r := if compat then (shadeCompat x raw, false) else shadeNative x raw ob dT m
    ⟨(clampI 0 65535 r.1).toNat, false, decide (65535 < r.1) || raw = 4095 || lampMax, decide (r.1 < 0), r.2⟩

/-- The values of the nearest photosite that is not DEFECT at or before each place. -/
def nearGood (prev : Option Nat) : List Px → List (Option Nat)
  | [] => []
  | p :: l => let q := if p.defect then prev else some p.v; q :: nearGood q l

/-- The row's v with DEFECT photosites filled from their neighbours (R170). -/
def fillDefects (l : List Px) : List Nat :=
  let left := nearGood none l
  let right := (nearGood none l.reverse).reverse
  (l.zip (left.zip right)).map (fun e =>
    if e.1.defect then
      (match e.2.1, e.2.2 with
       | some a, some b => (rheDiv ((a + b : Nat) : Int) 2).toNat
       | some a, none => a
       | none, some b => b
       | none, none => 0)
    else e.1.v)

/-- LREF and LDARK of a bank header (R175). -/
def bankLref (l : List Byte) : Nat := ofLe (slice l 18 2)
def bankLdark (l : List Byte) : Nat := ofLe (slice l 20 2)

/-- T_CAL, DT_MIN and DT_MAX of a bank header (R175). -/
def bankTcal (l : List Byte) : Int := toSigned 16 (ofLe (slice l 12 2))
def bankDtMin (l : List Byte) : Int := toSigned 16 (ofLe (slice l 14 2))
def bankDtMax (l : List Byte) : Int := toSigned 16 (ofLe (slice l 16 2))

/-- The slots of channel `c` of a bank (R175). -/
def bankSlots (l : List Byte) (c : Nat) : List Nat := (chunksOf 6 478 (slice l (48 + 2868 * c) 2868)).map ofLe

/-- M of an accepted frame (R168). -/
def lampNorm (bank : List Byte) (lamp : Nat) : Int :=
  let ln := 16 * (lamp : Int) - bankLdark bank
  let lnr := (bankLref bank : Int) - bankLdark bank
  if ln ≤ 0 then 0xFFFF else clampI 1 0xFFFF (rheDiv (lnr * 2 ^ 14) ln.toNat)

/-- The lamp-fault test of an accepted frame (R148, R169): off for LREF 0 or Q 0. -/
def lampFault (bank : List Byte) (lamp q frac : Nat) : Bool :=
  let lnr := (bankLref bank : Int) - bankLdark bank
  let e := (bankLdark bank : Int) + rheDiv (lnr * q) (2 ^ 14)
  bankLref bank ≠ 0 && q ≠ 0 && decide (16 * (lamp : Int) < rheDiv (frac * e) 256)

/-- The photosites present among a tile's transmitted slots (R161). -/
def State.sites (s : State) (i : Nat) : Nat := min 478 (identSites (s.lane i).ident)

/-- The OB_r field of row `r` of an engine's registers. -/
def fldOb (r : Nat) : Fld :=
  match r with
  | 0 => F.TILE_ENG_OB_RG_RED
  | 1 => F.TILE_ENG_OB_RG_GRN
  | 2 => F.TILE_ENG_OB_BN_BLU
  | _ => F.TILE_ENG_OB_BN_NIR

/-- The verdict record of a tile's lamp (09_output_analytics.md R261): the exposure line, ONSET or CLEAR, the tile's owned
columns, magnitude 16·LAMP and confidence 255. -/
def lampRecord (i line lamp : Nat) (onset : Bool) : List Byte :=
  be 4 line ++ be 1 4 ++ be 1 (if onset then 1 else 2) ++ be 3 (480 * i) ++ be 3 (480 * i + 479) ++ be 2 (16 * lamp)
    ++ be 1 255 ++ be 1 (line / 2 ^ 32)

/-- The lamp state after an accepted exposure (R261): ONSET in the first with LAMP_FAULT, CLEAR after 16 without. -/
def State.noteLamp (s : State) (i line lamp : Nat) (fault : Bool) : State :=
  let e := s.eng i
  if fault then
    s.modEng i (fun e => { e with lampRun := 0, lampLow := true,
                                  outbox := if e.lampLow then e.outbox else e.outbox ++ [lampRecord i line lamp true] })
  else if e.lampLow ∧ 15 ≤ e.lampRun then
    s.modEng i (fun e => { e with lampRun := 0, lampLow := false, outbox := e.outbox ++ [lampRecord i line lamp false] })
  else s.modEng i (fun e => { e with lampRun := if e.lampLow then e.lampRun + 1 else 0 })

/-! Equinox sums (08_calibration.md R221). -/

/-- A slot with `x0` added to its dark (capture 1) or white sum. -/
def addSum (capture slot : Nat) (x0 : Int) : Nat :=
  if capture = 1 then (ofSigned 24 (toSigned 24 slot + x0)) + slot / 2 ^ 24 * 2 ^ 24
  else slot % 2 ^ 24 + ofSigned 24 ((slot / 2 ^ 24 : Nat) + x0) * 2 ^ 24

/-- A frame added into the sums that lie in engine `i`'s inactive bank. -/
def State.eqxAdd (s : State) (i capture : Nat) (samples : List Nat) (obs : List Int) (lamp : Nat) : State :=
  let b := 1 - s.active i
  let bank := s.bankBytes i b
  let hdr := (List.range 4).map (fun k => ofLe (slice bank (4 * k) 4))
  let put := fun (k : Nat) (v : Nat) => if k + 1 = capture then nthD 0 hdr k + 16 * lamp
    else if k = capture + 1 then nthD 0 hdr k + 1 else v
  let hdr' := (mapIdxFrom put 0 hdr).flatMap (le 4)
  let body := (List.range 4).flatMap (fun r =>
    let ob := if s.compat then 0 else nthD 0 obs r
    let raws := (samples.drop (486 * r + 8)).take 478
    ((bankSlots bank r).zip raws).flatMap (fun e => le 6 (addSum capture e.1 (16 * (e.2 : Int) - ob))))
  let s := s.writeMem (bankAddr i b) (hdr' ++ slice bank 16 32 ++ body)
  if capture = 2 then
    let clips := (List.range 4).flatMap (fun r => (indicesWhere (· = 4095) 0 ((samples.drop (486 * r + 8)).take 478)).map (· + 478 * r))
    { s with ops := { s.ops with eqx := s.ops.eqx.map (fun (e : Eqx) =>
        { e with lampClip := e.lampClip || lamp = 4095, clipped := dedup (clips.map (fun j => (i, j)) ++ e.clipped) }) } }
  else s

/-! Row and line records (07_alignment_seams.md R188, R196, R197). -/

/-- A row as an absent reading. -/
def emptyRow (exp : Nat) : Row := ⟨exp, true, false, false, false, 0, []⟩

/-- I_r of a row in job lines (R187). -/
def Geo.delay (g : Geo) (bg r : Nat) : Nat := nthD 0 g.d r / (256 * bg)

/-- The integer row delays I_r that engine `i` has loaded (R187), RED to NIR. -/
def State.rowDelay (s : State) (i r : Nat) : Nat := (s.eng i).geo.delay s.gridFactor r

/-- The records' places in the engine's SRAM (06_engines_shading.md R151): line record `k`, and row record `p` of its 12. -/
def lineRecAddr (i k : Nat) : Nat := sramAddr i (0x7860 + 3888 * (k % 24))
def rowRecAddr (i p : Nat) : Nat := sramAddr i (0x1E4E0 + 972 * p)

/-- The 956 bytes of a row's samples. -/
def Row.bytes (r : Row) : List Byte := (r.v ++ List.replicate (478 - r.v.length) 0).flatMap (le 2)

/-- The tag of `n` bytes of a record of number `k`. -/
def tagBytes (n k : Nat) (rows : List Row) : List Byte :=
  let what := k :: rows.flatMap (fun (r : Row) => [r.exp, b2n r.inv, b2n r.sat])
  (List.range n).map (Config.recordTag what)

/-- A line record written to the SRAM, and its tag alone (R190). -/
def State.storeLine (s : State) (i : Nat) (x : LineRec) : State :=
  s.writeMem (lineRecAddr i x.k) (x.rows.flatMap Row.bytes ++ tagBytes 64 x.k x.rows)
def State.storeTag (s : State) (i : Nat) (x : LineRec) : State := s.writeMem (lineRecAddr i x.k + 3824) (tagBytes 64 x.k x.rows)

/-- The row record that holds row `r` of exposure `m` (R188): each row's records are a ring, RED's before GRN's before BLU's. -/
def State.rowPlace (s : State) (i r m : Nat) : Nat :=
  sumN ((List.range r).map (s.rowDelay i)) + m % max 1 (s.rowDelay i r)

/-- The waiting row `r` of an exposure written to the SRAM, and its tag alone. -/
def State.storeRow (s : State) (i r : Nat) (x : Row) : State :=
  if s.rowDelay i r = 0 then s else s.writeMem (rowRecAddr i (s.rowPlace i r x.exp)) (x.bytes ++ tagBytes 16 x.exp [x])
def State.storeRowTag (s : State) (i r : Nat) (x : Row) : State :=
  if s.rowDelay i r = 0 then s else s.writeMem (rowRecAddr i (s.rowPlace i r x.exp) + 956) (tagBytes 16 x.exp [x])

/-- Row `r` of exposure `m` among an engine's waiting rows. -/
def findRow (rs : List Row) (m : Nat) : Row := (rs.find? (fun x => x.exp = m)).getD (emptyRow m)

/-- One exposure's rows entered: they join the waiting rows, and line record `m` is formed. Beside the ring's 24 records the model keeps
the four before them, whose aligned samples the engine still holds in its seam window (R193, R202). -/
def State.enterRows (s : State) (i m : Nat) (rows : List Row) : State :=
  let e := s.eng i
  let waiting := mapIdxFrom (fun r (l : List Row) => (nthD (emptyRow m) rows r :: l).take (s.rowDelay i r + 1)) 0 e.rows
  let x := LineRec.mk m ((List.range 4).map (fun r =>
    let d := s.rowDelay i r
    if m < d then emptyRow 0 else findRow (nthD [] waiting r) (m - d)))
  let s := (List.range 3).foldl (fun s r => s.storeRow i r (nthD (emptyRow m) rows r)) (s.storeLine i x)
  s.modEng i (fun e => { e with rows := waiting, recs := (x :: e.recs).take 28 })

/-- The placeholder row of an exposure without an accepted frame (R196): the nearest earlier row that is not INVALID. -/
def Eng.placeholder (e : Eng) (r m : Nat) (drift : Bool) : Row :=
  let near := ((nthD [] e.rows r) ++ e.recs.map (fun x => nthD (emptyRow 0) x.rows r)).find? (fun x => !x.inv && x.exp < m)
  match near with
  | some x => ⟨m, true, false, false, drift, x.bank, x.v⟩
  | none => ⟨m, true, false, false, drift, 0, zeroRow⟩
where
  zeroRow : List Nat := List.replicate 478 0

/-- DRIFT_HOLD of tile `i` (08_calibration.md R235). -/
def State.drifting (s : State) (i : Nat) : Bool := s.bit F.TILE_CAL_STATUS_DRIFT_HOLD i

/-- Exposure `m` entered without a frame (R196). -/
def State.enterMissing (s : State) (i m : Nat) : State :=
  let e := s.eng i
  s.enterRows i m ((List.range 4).map (fun r => e.placeholder r m (s.drifting i)))

/-- Every exposure before `m` that engine `i` has no record of, filled in, the last 40 at most (R196). -/
def State.fillBefore (s : State) (i m : Nat) : State :=
  match (s.eng i).recs with
  | [] => s
  | x :: _ =>
    let k := max (x.k + 1) (m - 40)
    (List.range (m - k)).foldl (fun s j => s.enterMissing i (k + j)) s

/-! One accepted frame (R160 to R173). -/

/-- The shaded rows of a frame with its counts: clipped, clamped at 0, gm clamped. -/
structure Shaded where
  rows : List (List Nat)
  sat : List Bool
  clips : Nat
  unders : Nat
  gains : Nat
  deriving DecidableEq, Repr

/-- The shading of a frame (R166 to R173). -/
def State.shade (s : State) (i : Nat) (samples : List Nat) (obs : List Int) (lamp : Nat) : Shaded :=
  let bank := s.bankBytes i (s.active i)
  let dT := if s.bit F.PIPE_SHADE_CFG_DT_EN then s.sfld F.TILE_ENG_DT_DT i else 0
  let m := lampNorm bank lamp
  let n := s.sites i
  let pxs := (List.range 4).map (fun r =>
    let mr := if s.bit F.PIPE_SHADE_CFG_M_EN ∧ bitAt (s.fld F.PIPE_SHADE_CFG_M_CH_MASK) r then m else 0x4000
    ((bankSlots bank r).zip ((samples.drop (486 * r + 8)).take n)).map (fun e =>
      shadePx s.compat (lamp = 4095) e.1 e.2 (nthD 0 obs r) dT mr))
  let all := pxs.flatten
  ⟨pxs.map (fun l => (fillDefects l ++ List.replicate (478 - n) 0)), pxs.map (fun l => l.any (·.clip)),
    (all.filter (·.clip)).length, (all.filter (·.under)).length, (all.filter (·.gain)).length⟩

/-- The optical-black states after a frame (R162, R163). -/
def State.blackNow (s : State) (i : Nat) (samples : List Nat) : List Int :=
  (List.range 4).map (fun r => blackStep (s.fld F.PIPE_SHADE_CFG_OB_AVG) ((s.eng i).filt[r]?) (blackEst ((samples.drop (486 * r)).take 8)))

/-- OB_HIGH of an engine (R164). -/
def State.noteObHigh (s : State) (i : Nat) (obs : List Int) : State :=
  if obs.any (fun o => decide ((s.fld F.PIPE_OB_LIM_LIMIT : Int) < o)) then
    (s.setFld F.TILE_ENG_STATUS_OB_HIGH 1 i).burgeeOnce (suppKey 2 6 i) 2 6 i
  else s

/-- The samples of a frame in the free receive buffer, which is then the other one (R160). Which is free first is assumption log 185. -/
def State.storeFrame (s : State) (i : Nat) (samples : List Nat) : State :=
  (s.writeMem (sramAddr i (3888 * (s.eng i).rxBuf)) (samples.flatMap (le 2))).modEng i (fun e => { e with rxBuf := 1 - e.rxBuf })

/-- What every accepted frame does (R160, R163, R164, R168, R171). Answers the shaded rows, and whether LAMP_FAULT holds. -/
def State.engineFrame (s : State) (i : Nat) (samples : List Nat) (lamp : Nat) : State × Shaded × Bool :=
  let s := s.storeFrame i samples
  let st := s.blackNow i samples
  let obs := st.map obOf
  let s := s.modEng i (fun e => { e with filt := st })
  let s := (List.range 4).foldl (fun s r => s.setFld (fldOb r) ((nthD 0 obs r).toNat) i) s
  let s := s.noteObHigh i obs
  let bank := s.bankBytes i (s.active i)
  let sh := s.shade i samples obs lamp
  let m := if s.bit F.PIPE_SHADE_CFG_M_EN ∧ !s.compat then lampNorm bank lamp else 0x4000
  let s := (s.setFld F.TILE_ENG_LAMP_LAMP lamp i).setFld F.TILE_ENG_LAMP_M m.toNat i
  let s := (s.count F.TILE_ENG_SAT_CNT_COUNT i sh.clips).count F.PIPE_SAT_CNT_COUNT 0 sh.clips
  let s := (s.count F.PIPE_UNDER_CNT_COUNT 0 sh.unders).count F.PIPE_GAIN_CLAMP_CNT_COUNT 0 sh.gains
  (s, sh, lampFault bank lamp (s.eng i).q (s.fld F.LUM_LAMP_FAULT_FRAC))

/-- An accepted frame of job line `m` (R160, R188). -/
def State.acceptLine (s : State) (i m : Nat) (samples : List Nat) (lamp : Nat) : State :=
  let (s, sh, fault) := s.engineFrame i samples lamp
  let s := s.noteLamp i m lamp fault
  let s := s.fillBefore i m
  let bank := s.active i
  let s := s.enterRows i m ((List.range 4).map (fun r =>
    Row.mk m false (nthD false sh.sat r) fault (s.drifting i) bank (nthD [] sh.rows r)))
  let s := s.modEng i (fun e => { e with watch := some s.tb })
  { s with prod := { s.prod with acceptTop := max s.prod.acceptTop (m + 1) } }

/-! The alignment target (08_calibration.md R228, R229). -/

/-- The lines of zone A after a photosite's first crossing, and the first and last lines of zone B after it: zone A is 20.32 mm
long, zone B lies 25 mm to 45 mm beyond the first edge, and a 1200 dpi line is 21.1667 µm. Assumption log 71. -/
def zoneALines : Nat := 1070
def zoneBFrom : Nat := 1182
def zoneBTo : Nat := 2125

/-- The line of a photosite's first crossing. -/
def Track.start (x : Track) : Option Int := x.cross.getLast?.map (fun c => c.fdiv 64)

/-- The crossing of WHITE/2 between lines `n − 1` and `n`, in 1/64 line, interpolated linearly and rounded half to even (R229). -/
def crossAt (n white a b : Nat) : Int :=
  64 * ((n : Int) - 1) + rheDiv (32 * ((white : Int) - 2 * a) * (if a < b then 1 else -1)) (max a b - min a b)

/-- A sample stands on the other side of WHITE/2 than the last one did. -/
def Track.turned (x : Track) (white v : Nat) : Bool := x.prev.any (fun p => decide (2 * p.2 < white) != decide (2 * v < white))

/-- A sample of line `n` follows directly on the last one. -/
def Track.joined (x : Track) (n : Nat) : Bool := x.prev.any (fun p => decide (p.1 + 1 = n))

/-- A corrected sample of line `n` taken up. -/
def Track.step (x : Track) (n white v : Nat) : Track :=
  let edge := x.turned white v && x.joined n
  let inA := match x.start with
    | none => true
    | some a => decide ((n : Int) ≤ a + zoneALines)
  let inB := x.start.any (fun a => decide (a + zoneBFrom ≤ (n : Int)) && decide ((n : Int) ≤ a + zoneBTo))
  { prev := some (n, v), cross := if edge && inA then crossAt n white ((x.prev.map (·.2)).getD v) v :: x.cross else x.cross,
    sum := if inB then x.sum + v else x.sum, cnt := if inB then x.cnt + 1 else x.cnt }

/-- Line `n` lies in zone A or zone B of tile `i`. -/
def State.inZones (s : State) (i n : Nat) : Bool :=
  (s.eng i).tracks.any (fun x => x.start.any (fun a =>
    decide ((n : Int) ≤ a + zoneALines) || (decide (a + zoneBFrom ≤ (n : Int)) && decide ((n : Int) ≤ a + zoneBTo))))

/-- The zone A edges that a tile has found: the fewest of its photosites. -/
def State.edgesOf (s : State) (i : Nat) : Nat :=
  let l := (s.eng i).tracks
  if l.isEmpty then 0 else minND 65535 (l.map (fun x => x.cross.length))

/-- The rows of an accepted frame of the target recorded (R229), and PROGRESS brought up (21_register_map.md R533). An edge that lies
across lines whose frames were lost is a loss in zone A. -/
def State.trackFrame (s : State) (i n : Nat) (rows : List (List Nat)) : State :=
  let half := s.fld F.PIPE_SHADE_WHITE_WHITE
  let vs := (rows.map (fun r => r.take (s.sites i))).flatten
  let s := if ((s.eng i).tracks.zip vs).any (fun x => x.1.turned half x.2 && !x.1.joined n && x.1.cross.length < 16) then s.alignBad 5 else s
  let s := s.modEng i (fun e => { e with tracks := mapIdxFrom (fun k v => (nthD ({} : Track) e.tracks k).step n half v) 0 vs })
  s.setFld F.SYS_OP_STATUS_PROGRESS (min 16 (minND 16 (s.workTiles.map s.edgesOf)))

/-- The capture of CAL_ALIGN runs in position mode (08_calibration.md R229). -/
def State.alignRuns (s : State) : Bool := s.op = .service && !s.sched.timeMode && s.ops.align.any (·.capturing)

/-- An accepted frame of line `n` of a time-mode sequence, into the sums when the line is captured (R221), or of an alignment
capture. -/
def State.acceptTime (s : State) (i n capture : Nat) (samples : List Nat) (lamp : Nat) : State :=
  let obs := (s.blackNow i samples).map obOf
  let (s, sh, _) := s.engineFrame i samples lamp
  if s.alignRuns then s.trackFrame i n sh.rows
  else if capture = 0 ∨ s.ops.eqx.isNone then s else s.eqxAdd i capture samples obs lamp

/-! What applies from a committed job line (R167, R182, 08_calibration.md R235). -/

/-- T_i sent to engine `i` at a commit (R167). -/
def State.sendTemp (s : State) (i : Nat) : State :=
  let x := (s.tileTemp i, s.rtdUnsure (tileX i))
  s.modEng i (fun e => { e with tSent := some x })

/-- ΔT of tile `i` stepped toward T_i − T_CAL, and the DRIFT_HOLD latch, by the temperature last sent; with no RTD value T_i is T_CAL
(12_bar_monitor.md R329). -/
def State.driftStep (s : State) (i : Nat) : State :=
  match (s.eng i).tSent with
  | none => s
  | some (temp, unsure) =>
  let s := s.modEng i (fun e => { e with tSent := none })
  let bank := s.bankBytes i (s.active i)
  let latch := fun (s : State) =>
    if s.drifting i then s
    else (s.setFld F.TILE_CAL_STATUS_DRIFT_HOLD 1 i).burgeeOnce (suppKey 3 12 i) 3 12 i
  if s.compat || !s.bit F.PIPE_SHADE_CFG_DT_EN then s.setFlds [(F.TILE_ENG_DT_DT, 0), (F.TILE_ENG_STATUS_DT_LIMITED, 0)] i
  else
    let s := if unsure then latch s else s
    let t := temp.getD (bankTcal bank)
    let goal := t - bankTcal bank
    let s := if goal < bankDtMin bank ∨ bankDtMax bank < goal then latch s else s
    let cur := s.sfld F.TILE_ENG_DT_DT i
    let step : Int := s.fld F.PIPE_DT_SLEW_STEP
    let next := if cur < goal then minI goal (cur + step) else maxI goal (cur - step)
    let lim := clampI (bankDtMin bank) (bankDtMax bank) next
    let s := (s.setSFld F.TILE_ENG_DT_DT lim i).setSFld F.TILE_ENG_DT_T_TILE t i
    s.setFld F.TILE_ENG_STATUS_DT_LIMITED (b2n (lim ≠ next)) i

/-- The latch cleared over the span (R235). -/
def State.clearDrift (s : State) : State := s.workTiles.foldl (fun s i => s.setFld F.TILE_CAL_STATUS_DRIFT_HOLD 0 i) s

end Sys2Proof.Machine
end

