-- ==== Sys2Proof/Machine/TileOps.lean ====
section
/-! DEFINITION. The tiles of the bar (03_triry_link.md R68 to R76, R81): the frames of the bar control bus, what a compatible
tile does with a command, and the line frame it sends for a window. -/

namespace Sys2Proof.Machine

/-! The bar control bus frame (03_triry_link.md R68). -/

/-- The bits of bytes on the bar control bus (R67): a start bit 0, eight data bits with the least significant first, a stop bit 1. -/
def serialBits (l : List Byte) : List Bool :=
  l.flatMap (fun b => false :: (List.range 8).map (fun k => bitAt b.toNat k) ++ [true])

/-- The time of a frame on the bus, 40 ns a bit (R67). -/
def serialNs (l : List Byte) : Nat := 40 * (serialBits l).length

/-- A command frame of the bar control bus. The two-byte word of bytes 1 and 2 goes most significant byte first: assumption log 155. -/
def bcbFrame (ftype seq addr op : Nat) (data : List Byte) : List Byte :=
  let l := be 2 (ftype * 2 ^ 14 + seq % 32 * 2 ^ 9 + addr % 512) ++ be 1 op ++ be 1 data.length ++ data
  be 1 0xA7 ++ l ++ be 2 (crc16 l)

/-- A reply frame (R68). -/
def replyFrame (seq addr op status : Nat) (data : List Byte) : List Byte :=
  let l := be 2 (2 ^ 14 + seq % 32 * 2 ^ 9 + addr % 512) ++ be 1 op ++ be 1 status ++ be 1 data.length ++ data
  be 1 0xA7 ++ l ++ be 2 (crc16 l)

/-- A reply frame read: sequence, address, opcode, status and data, or none when it does not check. -/
def parseReply (l : List Byte) : Option (Nat × Nat × Nat × Nat × List Byte) :=
  let n := byteAt l 5
  let body := (l.drop 1).take (5 + n)
  let head := beAt l 1 2
  if l.length = 8 + n ∧ byteAt l 0 = 0xA7 ∧ head / 2 ^ 14 = 1 ∧ l.drop (6 + n) = be 2 (crc16 body) then
    some (head / 2 ^ 9 % 32, head % 512, byteAt l 3, byteAt l 4, slice l 6 n)
  else none

/-- Status codes of a tile's reply (R72). -/
def tileAck : Nat := 0
def tileBadOpcode : Nat := 1
def tileBadLength : Nat := 2
def tileBadParam : Nat := 3
def tileState : Nat := 4

/-- The codes of the modes (R74). -/
def TileMode.code : TileMode → Nat
  | .idle => 0
  | .train => 1
  | .test7 => 2
  | .test31 => 3
  | .run => 4

/-- What the lane carries in a mode (R73): PRBS7 is x^7 + x^6 + 1, PRBS31 x^31 + x^28 + 1 (R89). -/
def TileMode.signal : TileMode → Signal
  | .idle => .blocks
  | .train => .raw 31 28
  | .test7 => .raw 7 6
  | .test31 => .raw 31 28
  | .run => .blocks

/-- The next bit of x^deg + x^tap + 1 after a register of the bits before it, the newest in bit 0 (R89). -/
def prbsNext (deg tap reg : Nat) : Bool := bitAt reg (deg - 1) != bitAt reg (tap - 1)

/-- `n` bits of a PRBS generator from its register (02_sensor_bar.md R50, R73). -/
def prbsBits (deg tap : Nat) : Nat → Nat → List Bool
  | 0, _ => []
  | n + 1, reg =>
    let b := prbsNext deg tap reg
    b :: prbsBits deg tap n ((2 * reg + b2n b) % 2 ^ deg)

/-- The mode of a code. -/
def TileMode.ofCode (n : Nat) : Option TileMode :=
  match n with
  | 0 => some .idle
  | 1 => some .train
  | 2 => some .test7
  | 3 => some .test31
  | 4 => some .run
  | _ => none

/-- The length of an opcode's command data (R74), none for an opcode that is not in the table. -/
def tileLen (op : Nat) : Option Nat :=
  match op with
  | 0x01 => some 0
  | 0x02 => some 0
  | 0x03 => some 1
  | 0x04 => some 3
  | 0x05 => some 1
  | 0x06 => some 1
  | 0x07 => some 64
  | 0x08 => some 1
  | 0x09 => some 0
  | 0x0A => some 3
  | 0x0B => some 0
  | 0x0C => some 0
  | _ => none

/-- A cursor stepped by an action (R74, R75): 1 up, 2 down, held at the ends of its range. -/
def tapStep (x range act : Nat) : Nat := if act = 1 then min range (x + 1) else if act = 2 then x - 1 else x

/-- The taps of a tile as one byte. -/
def TileDev.tapByte (t : TileDev) : Nat := t.pre * 16 + t.post

/-- A tile in a mode that lets taps move (R74). -/
def TileMode.tests (m : TileMode) : Bool := m = .train || m = .test7 || m = .test31

/-- The highest FIRST_SITE of a tile (R75). -/
def TileDev.siteMax (t : TileDev) : Nat := identSites t.ident - 478

/-- A change of mode (R74, R76). -/
def TileDev.setMode (t : TileDev) (m : TileMode) : Option TileDev :=
  if m = t.mode then some t
  else if t.mode = .idle ∨ m = .idle then
    some (if m = .run then { t with mode := m, expSeq := 0, prevLine := 0xFFFFFF, lineSet := none, window := none } else { t with mode := m })
  else none

/-- The reset state of a tile (R73). -/
def TileDev.resetMode (t : TileDev) : TileDev :=
  { t with mode := .idle, pre := 0, post := 0, firstSite := 0, pattern := 0, lastSeq := none, lastReply := [] }

/-- A command executed (R74, R75): status, reply data and the tile after it. RESET takes place after the reply. -/
def TileDev.run (t : TileDev) (op : Nat) (d : List Byte) : Nat × List Byte × TileDev :=
  let b := byteAt d 0
  match op with
  | 0x01 => (tileAck, be 1 t.mode.code, t)
  | 0x02 => (tileAck, t.ident, t)
  | 0x03 =>
    match TileMode.ofCode b with
    | none => (tileBadParam, [], t)
    | some m => match t.setMode m with
      | some t' => (tileAck, [], t')
      | none => (tileState, [], t)
  | 0x04 =>
    let v := beAt d 1 2
    if b = 1 ∧ v ≤ t.siteMax then (if t.mode = .idle then (tileAck, [], { t with firstSite := v }) else (tileState, [], t))
    else if b = 2 ∧ v ≤ 1 then (if t.mode = .idle then (tileAck, [], { t with pattern := v }) else (tileState, [], t))
    else (tileBadParam, [], t)
  | 0x05 =>
    if b = 1 then (tileAck, be 2 t.firstSite, t)
    else if b = 2 then (tileAck, be 2 t.pattern, t)
    else (tileBadParam, [], t)
  | 0x06 =>
    if b % 4 = 3 ∨ b / 4 % 4 = 3 then (tileBadParam, [], t)
    else if !t.mode.tests then (tileState, [], t)
    else
      let t' := { t with pre := tapStep t.pre (identPre t.ident) (b % 4), post := tapStep t.post (identPost t.ident) (b / 4 % 4) }
      (tileAck, be 1 t'.tapByte, t')
  | 0x08 =>
    if identPre t.ident < b / 16 ∨ identPost t.ident < b % 16 then (tileBadParam, [], t)
    else if t.mode = .run then (tileState, [], t)
    else (tileAck, [], { t with pre := b / 16, post := b % 16 })
  | 0x09 => (tileAck, be 1 t.tapByte, t)
  | 0x0A => if t.mode = .run then (tileAck, [], { t with lineSet := some (beAt d 0 3) }) else (tileState, [], t)
  | 0x0B => (tileAck, be 1 t.mode.code ++ be 1 t.status ++ be 1 t.lastExp ++ be 1 t.invalid, t)
  | 0x0C => (tileAck, [], t.resetMode)
  | _ => (tileBadOpcode, [], t)

/-- A tile's own nibble of a TX_TAP_ALL broadcast (R74, R75). -/
def TileDev.tapAll (t : TileDev) (i : Nat) (d : List Byte) : TileDev :=
  let b := byteAt d (i % 128 / 2)
  let n := if i % 2 = 0 then b % 16 else b / 16
  if !t.mode.tests ∨ n % 4 = 3 ∨ n / 4 = 3 then t
  else { t with pre := tapStep t.pre (identPre t.ident) (n % 4), post := tapStep t.post (identPost t.ident) (n / 4) }

/-- A broadcast command at tile `i` (R69): no reply, and no effect where it cannot execute. -/
def TileDev.hear (t : TileDev) (i op : Nat) (d : List Byte) : TileDev :=
  if !t.fitted ∨ tileLen op ≠ some d.length then t
  else if op = 0x07 then t.tapAll i d
  else
    let r := t.run op d
    if r.1 = tileAck then r.2.2 else t

/-- An addressed command at a tile (R69, R71): its reply, and the tile after it. A command that carries the sequence number of
the last one executed repeats its reply; on TX_TAP_ALL, which is only ever broadcast, the tile takes no action (R74). A NAK
leaves the tile exactly as it was (R72). -/
def TileDev.answer (t : TileDev) (i seq op : Nat) (d : List Byte) : Option (List Byte) × TileDev :=
  if !t.fitted ∨ op = 0x07 then (none, t)
  else if t.lastSeq = some seq then (some t.lastReply, t)
  else
    let r : Nat × List Byte × TileDev :=
      match tileLen op with
      | none => (tileBadOpcode, [], t)
      | some n => if d.length = n then t.run op d else (tileBadLength, [], t)
    let f := replyFrame seq i op r.1 r.2.1
    (some f, if r.1 ≠ tileAck then t else if op = 0x0C then r.2.2 else { r.2.2 with lastSeq := some seq, lastReply := f })

/-- Tile `i` after a command (R73): a change of mode shows on its lane. -/
def State.tileNow (s : State) (i : Nat) (t : TileDev) : State :=
  let s' := s.modTile i (fun _ => t)
  if t.mode = (s.tile i).mode then s' else s'.emit (.carries i t.mode.signal)

/-- A command frame with opcode `op` on segment `c.seg` as its tiles receive it (R69). A frame with an idle gap of more than 2 bit
times is abandoned (R67). -/
def State.tileCommand (s : State) (op : Nat) (c : TileCmd) : State :=
  if !c.crcOk ∨ c.ftype ≠ 0 ∨ 2 < c.gap then s
  else if c.addr = 0x1FF then
    (List.range 128).foldl (fun s k =>
      let i := 128 * c.seg + k
      s.tileNow i ((s.tile i).hear i op c.data)) s
  else if c.addr / 128 ≠ c.seg then s
  else
    let r := (s.tile c.addr).answer c.addr (c.seq % 32) op c.data
    let s := match r.1 with
      | some f => s.emit (.tileReply c.seg f)
      | none => s
    s.tileNow c.addr r.2

/-! The line frame (R56 to R63). -/

/-- One bit of the scrambler x^58 + x^39 + 1 (R56): `st` holds the last 58 bits on the line, the newest in bit 0. -/
def scramBit (st : Nat) (b : Bool) : Bool × Nat :=
  let o := (b != bitAt st 38) != bitAt st 57
  (o, (2 * st + b2n o) % 2 ^ 58)

/-- One bit of the descrambler. -/
def descramBit (st : Nat) (b : Bool) : Bool × Nat :=
  ((b != bitAt st 38) != bitAt st 57, (2 * st + b2n b) % 2 ^ 58)

/-- `n` bits of a word from bit `k` through a scrambler or descrambler. -/
def runBits (f : Nat → Bool → Bool × Nat) (w : Nat) : Nat → Nat → Nat → Nat × Nat
  | 0, _, st => (0, st)
  | n + 1, k, st =>
    let r := f st (bitAt w k)
    let q := runBits f w n (k + 1) r.2
    (b2n r.1 * 2 ^ k + q.1, q.2)

/-- A sequence of 64-bit words through a scrambler or descrambler. -/
def runWords (f : Nat → Bool → Bool × Nat) : Nat → List Nat → List Nat × Nat
  | st, [] => ([], st)
  | st, w :: l =>
    let r := runBits f w 64 0 st
    let q := runWords f r.2 l
    (r.1 :: q.1, q.2)

/-- The 365 payload words of 1,944 samples (R59): 12-bit samples as one bit stream, least significant first. -/
def packSamples : Nat → List Nat → Nat
  | _, [] => 0
  | k, x :: l => x % 4096 * 2 ^ (12 * k) + packSamples (k + 1) l

/-- 16 samples fill three words: the stream is packed and unpacked in pieces of 16 samples. -/
def payloadWords : Nat → List Nat → List Nat
  | 0, _ => []
  | fuel + 1, l =>
    let v := packSamples 0 (l.take 16)
    let ws := [v % 2 ^ 64, v / 2 ^ 64 % 2 ^ 64, v / 2 ^ 128]
    ws ++ payloadWords fuel (l.drop 16)

/-- The samples that payload words carry. -/
def unpackWords : Nat → List Nat → List Nat
  | 0, _ => []
  | fuel + 1, l =>
    let v := nthD 0 l 0 + nthD 0 l 1 * 2 ^ 64 + nthD 0 l 2 * 2 ^ 128
    (List.range 16).map (fun k => v / 2 ^ (12 * k) % 4096) ++ unpackWords fuel (l.drop 3)

/-- The CRC-32C of a frame's header block and payload words, bit 0 of each first (R62). -/
def frameCrc (header : Nat) (ws : List Nat) : Nat := crc32c ((header :: ws).flatMap (le 8))

/-- The header block (R58). -/
def frameHeader (i line seq : Nat) (test : Bool) : Nat :=
  0xB4 + i % 512 * 2 ^ 8 + line % 2 ^ 24 * 2 ^ 17 + seq % 256 * 2 ^ 41 + b2n test * 2 ^ 49

/-- A frame's 367 blocks before scrambling: header, payload, trailer (R58, R59, R61). -/
def frameWords (header : Nat) (samples : List Nat) (lamp status : Nat) : List Nat :=
  let ws := (payloadWords 122 samples).take 365
  header :: (ws ++ [lamp % 4096 + status % 16 * 2 ^ 16 + frameCrc header ws * 2 ^ 24])

/-- The line number that a tile latches at a rising BSTB edge, and whether it infers it (R76). -/
def TileDev.nextLine (t : TileDev) : Nat × Bool := (t.lineSet.getD ((t.prevLine + 1) % 2 ^ 24), t.lineSet.isNone)

/-- A rising BSTB edge at a tile (R76, R80): one in RUN latches its line number and opens its window. -/
def TileDev.rise (t : TileDev) : TileDev :=
  if t.fitted ∧ t.mode = .run then { t with window := some t.nextLine, prevLine := t.nextLine.1, lineSet := none } else t

/-- A rising BSTB edge on the segments driven. -/
def State.tilesRise (s : State) : State :=
  let gs := s.driven
  { s with bar := mapIdxFrom (fun i (t : TileDev) => if gs.contains (i / 128) then t.rise else t) 0 s.bar }

/-- The 1,944 samples that a tile with `n` photosites sends of its rows of 8 + `n` (R59, R60): the 478 photosites from `first` on, and
0 in a slot that has none. -/
def slotSamples (n first : Nat) (l : List Nat) : List Nat :=
  (List.range 4).flatMap (fun r => (List.range 486).map (fun k =>
    if k < 8 then nthD 0 l ((8 + n) * r + k) % 4096
    else if first + (k - 8) < n then nthD 0 l ((8 + n) * r + first + k) % 4096
    else 0))

/-- The test payload of line `line` (R75). -/
def testSamples (line : Nat) : List Nat := (List.range 1944).map (fun k => (k + line) % 4096)

/-- The idle block (R57). -/
def idleWord : Nat := 0x1E

/-- Blocks of a lane from scrambled words, control blocks where `ctl` says so (R56). -/
def laneBlocks (ctl : Nat → Bool) (ws : List Nat) : List LaneBlock :=
  mapIdxFrom (fun k x => LaneBlock.mk (if ctl k then 2 else 1) (BitVec.ofNat 64 x)) 0 ws

/-- The falling edge of a window at a tile in RUN, at `fall` (R76, R81): the frame it sends, whose first bit leaves FRAME_DELAY later,
after the idle blocks since its last one. A window that opened without a rising edge of this device latches its line now. -/
def State.tileWindow (s : State) (i fall : Nat) (w : WindowIn) : State :=
  let t := s.tile i
  if !t.fitted ∨ t.mode ≠ .run then s
  else
    let (line, inferred) := t.window.getD t.nextLine
    let t' := { t with prevLine := line, lineSet := if t.window.isSome then t.lineSet else none, window := none,
                       expSeq := (t.expSeq + 1) % 256, invalid := if w.invalid then satInc 8 t.invalid else t.invalid }
    let start := fall + 100 * identDelay t.ident
    if start < t.busyUntil then s.modTile i (fun _ => t')
    else
      let status := b2n inferred + 2 * b2n w.invalid + 4 * b2n w.tempWarn + 8 * b2n w.supplyWarn
      let samples := if t.pattern = 1 then testSamples line else slotSamples (identSites t.ident) t.firstSite w.samples
      let r0 := runWords scramBit t.scram.toNat (List.replicate w.idle idleWord)
      let r := runWords scramBit r0.2 (frameWords (frameHeader i line t.expSeq (t.pattern = 1)) samples w.lamp status)
      ((s.modTile i (fun _ => { t' with status := status, lastExp := t.expSeq, busyUntil := start + 19378,
                                        scram := BitVec.ofNat 58 r.2 })).emit (.idles i (laneBlocks (fun _ => true) r0.1))).emit
        (.frame i (laneBlocks (fun k => k = 0 ∨ k = 366) r.1))

end Sys2Proof.Machine
end

