-- ==== Sys2Proof/Machine/SchedOps.lean ====
section
/-! DEFINITION. The position scheduler (04_position_scheduler.md): encoders, the tracking loop, predictions, the placing of
lines and windows, reversal, time mode, keep-warm and service gates. -/

namespace Sys2Proof.Machine

/-! The tracking loop (R103 to R106). -/

/-- The signed difference of two 48.16 positions modulo 2^48 pc (R99). -/
def diff16 (a b : Int) : Int := wrapS 64 (a - b)

/-- The mean rate between the first and the last of the newest `k` edges, in 2^−47 pc/ns (R104, R106). DEDUCED, assumption
log 22. -/
def meanRate (edges : List (Nat × Int)) (k : Nat) : Int :=
  match edges, (edges.take k).getLast? with
  | (t1, p1) :: _, some (t0, p0) => if t0 < t1 then clampS 48 (rheDiv (wrapS 48 (p1 - p0) * 2 ^ 47) (t1 - t0)) else 0
  | _, _ => 0

/-- g1 and g2 of R103. -/
def loopG1 (wn dt : Nat) : Int := minI (2 ^ 31) (rheDiv (1414 * wn * dt) (1000 * 2 ^ 17))
def loopG2 (wn dt : Nat) : Int := rheDiv (wn * wn * dt) (2 ^ 32)

/-- p_pred of R103. -/
def loopPred (p v : Int) (dt : Nat) : Int := rheDiv (p * 2 ^ 31 + v * dt) (2 ^ 31)

/-- The loop's update outside low-rate mode (R103). -/
def loopStep (wn : Nat) (p v : Int) (dt : Nat) (pk : Int) : Int × Int × Int :=
  let pred := loopPred p v dt
  let e := diff16 (pk * 2 ^ 16) pred
  (wrapS 64 (rheDiv (pred * 2 ^ 31 + loopG1 wn dt * e) (2 ^ 31)), clampS 48 (rheDiv (v * 2 ^ 33 + loopG2 wn dt * e) (2 ^ 33)), e)

/-- The estimate at a master edge at `t`, position `p` (R103 to R106). -/
def State.trackEdge (s : State) (t : Nat) (p : Int) : State :=
  let x := s.sched
  let fn := s.fld F.SCHED_PLL_FN_HZ
  let s :=
    if s.bit F.SCHED_STATUS_STILL ∨ x.edges.isEmpty then
      { s with sched := { x with pHat := wrapS 64 (p * 2 ^ 16), vHat := 0, tk := t, edges := [(t, p)], good := 0, short := 0 } }
    else
      let dt := t - x.tk
      let edges := ((t, p) :: x.edges).take 16
      let long := decide (10 ^ 9 < dt * 16 * fn)
      let short := if dt * 16 * fn < 10 ^ 9 then x.short + 1 else 0
      let low := long || (s.bit F.SCHED_STATUS_LOW_RATE && decide (short < 16))
      let s := s.setFld F.SCHED_STATUS_LOW_RATE (b2n low)
      if low then
        { s with sched := { x with pHat := wrapS 64 (p * 2 ^ 16), vHat := meanRate edges 4, tk := t, edges := edges, good := 0, short := short } }
      else
        let r := loopStep (wnOf fn) x.pHat x.vHat dt p
        let good := if r.2.2.natAbs < 2 ^ 14 then min 16 (x.good + 1) else 0
        { s with sched := { x with pHat := r.1, vHat := r.2.1, tk := t, edges := edges, good := good, short := short } }
  let s := s.setFld F.SCHED_STATUS_STILL 0
  s.setFld F.SCHED_STATUS_TRACKING (b2n (16 ≤ s.sched.good))

/-- The loop restarted (R106): p̂ at the master position, v̂ the mean over the last 16 edges, 0 where there are fewer and at a
standstill (R105). -/
def State.trackRestart (s : State) : State :=
  let v := if 16 ≤ s.sched.edges.length ∧ !s.bit F.SCHED_STATUS_STILL then meanRate s.sched.edges 16 else 0
  { s with sched := { s.sched with pHat := wrapS 64 (s.masterPos * 2 ^ 16), vHat := v } }

/-- The master's count begins anew, by another master or a position written (R99, R106): no edge of the old count stands, and no
reversal. Assumption log 31. -/
def State.masterAnew (s : State) : State :=
  let p := s.masterPos
  let s := s.setFld F.SCHED_STATUS_REVERSE 0
  { s with sched := { s.sched with edges := [], good := 0, short := 0, pMax := p, pTurn := p } }

/-- p̂(t) of R105. -/
def State.predict (s : State) (t : Nat) : Int :=
  let x := s.sched
  let dt := t - x.tk
  if dt = 0 then x.pHat
  else
    let lim := rheDiv (2 ^ 47) dt
    loopPred x.pHat (clampI (-lim) lim x.vHat) dt

/-! Predictions (R111). -/

/-- t_n at the last edge for line `n`: the crossing of Y_n, while v̂ > 0 and REVERSE is clear (R111). -/
def State.crossing (s : State) (n : Nat) : Option Int :=
  if 0 < s.sched.vHat ∧ !s.bit F.SCHED_STATUS_REVERSE then
    some (s.sched.tk + rheDiv (diff16 (s.gridPos n) s.sched.pHat * 2 ^ 31) s.sched.vHat.toNat)
  else none

/-- The line whose window is to come: the committed one, else the target. -/
def State.nextLine (s : State) : Nat := (s.sched.cur.map (·.line)).getD s.sched.target

/-- The prediction of the next line taken afresh. -/
def State.replan (s : State) : State := { s with sched := { s.sched with tn := s.crossing s.nextLine } }

/-- t_n now: the value of the last edge, later while the next edge is late (R111); in time mode t_0 + n × PERIOD (R127). -/
def State.tNow (s : State) : Option Int :=
  let x := s.sched
  if x.timeMode then some ((x.t0 + s.nextLine * s.fld F.TIME_PERIOD_NS_NS : Nat) : Int)
  else match x.tn with
    | none => none
    | some h =>
      if 2 ^ 47 < ((s.tb - x.tk : Nat) : Int) * x.vHat then
        some (maxI h (s.tb + rheDiv (diff16 (s.gridPos s.nextLine) (s.predict s.tb) * 2 ^ 31) x.vHat.toNat))
      else some h

/-- Job lines are placed in the present state. -/
def State.placing (s : State) : Bool := s.sched.active && (s.op = .running || s.op = .holding) && !s.sched.timeMode

/-- Time-mode lines run for an Equinox run or a capture point (08_calibration.md R220). -/
def State.timeRuns (s : State) : Bool :=
  s.sched.timeMode && (s.op = .calibrating || s.op = .service) &&
    s.ops.eqx.any (fun e => 1 ≤ e.phase && e.phase ≤ 4 && !(e.phase = 4 && e.settle = 0 && e.left = 0))

/-- Line `n` carries the pending swap (06_engines_shading.md R179): in line mode from SWAP_LINE on, else the first line
committed. -/
def State.swapDue (s : State) (n : Nat) : Bool :=
  s.bit F.PIPE_BANK_STATUS_PENDING && (decide (s.fld F.PIPE_BANK_CTRL_SWAP_MODE ≠ 2)
    || decide (0 ≤ toSigned 32 (n + 2 ^ 32 - s.fld F.PIPE_SWAP_LINE_LINE)))

/-- The end of the last LINE_SET over the driven segments. -/
def State.setEnd (s : State) : Nat := maxN (s.driven.map (fun g => (s.bcb g).setEnd))

/-- LINE_SET for line `n` broadcast on every driven segment (R111, 03_triry_link.md R77): at once, or 400 ns after the attempt
in progress. -/
def State.lineSet (s : State) (n : Nat) : State :=
  s.driven.foldl (fun s g =>
    match (s.bcb g).cur with
    | some _ => s.modBcb g (fun b => { b with heldSet := some n, setEnd := b.curEnd + 4400 })
    | none => (s.modBcb g (fun b => { b with setEnd := max s.tb b.freeAt + 4000 })).emit (.bcb g (bcbFrame 0 0 0x1FF 0x0A (be 3 n)))) s

/-- Lines `n` to `n + k − 1` skipped (R117, R122, R127). In SCAN each enters the hold path; a job whose last exposure is
skipped drains in INSPECT. A time-mode line is counted too, and the target moves on. -/
def State.skipLines (s : State) (n k : Nat) : State :=
  if k = 0 then s
  else
    let s := (s.count F.SCHED_OVERSPEED_CNT_COUNT 0 k).setFld F.SCHED_STATUS_OVERSPEED_SEEN 1
    if s.sched.timeMode then { s with sched := { s.sched with target := n + k } }
    else
    let lines := (List.range (min k 64)).map (fun j => n + k - 1 - j)
    let s := { s with prod := { s.prod with missed := (lines ++ s.prod.missed).take 64 },
                      sched := { s.sched with skipped := true, target := n + k } }
    if s.alignRuns then s.alignBad 4
    else if s.job.scan then s.holdExposure 2 n
    else if s.lastExposure.any (fun l => n ≤ l && l < n + k) ∧ (s.op = .running) then s.enterDraining
    else s

/-! Reference rows (09_output_analytics.md R258, R260). -/

/-- b_r of the job (R258). -/
def State.refFactor (s : State) : Nat := 8 / s.gridFactor

/-- The slot of a reference row and the rows of the ring (R258). -/
def refSlot (tiles : Nat) : Nat := ceilDiv (3 * 60 * tiles) 64 * 64
def refRing (tiles : Nat) : Nat := 16777216 / refSlot tiles

/-- The address of reference row `r`. -/
def State.refAddr (s : State) (r : Nat) : Nat := 0x600000 + r % refRing s.job.count * refSlot s.job.count

/-- The last row whose copy is due at the commit of line `n`, and the row of line `n` itself (R258). -/
def State.refDue (s : State) (n : Nat) : Option (Nat × Nat) :=
  let off := s.sfld F.ANA_REF_LINE_OFF
  let x : Int := n + 32 - off
  if s.bit F.ANA_CFG_REF_EN ∧ 0 ≤ x then some (x.toNat / s.refFactor, ((n : Int) - off).toNat / s.refFactor) else none

/-- Reference row `r` copied into every span engine, or marked missing (R258, R260). -/
def State.copyRow (s : State) (r : Nat) : State :=
  if s.ana.refRows.contains r then
    let row := s.readMem (s.refAddr r) (180 * s.job.count)
    s.span.foldl (fun s i => s.modEng i (fun e => { e with refRows := ((r, row) :: e.refRows).take 40 })) s
  else (s.setFld F.ANA_REF_STATUS_REF_MISS 1).count F.ANA_REF_MISS_CNT_COUNT

/-- Every row due at the commit of line `n` and not yet handled, from the row of line `n` on (R258). -/
def State.copyRef (s : State) (n : Nat) : State :=
  match s.refDue n with
  | none => s
  | some (hi, now) =>
    let lo := max s.ana.refNext now
    let s := (List.range (hi + 1 - lo)).foldl (fun s k => s.copyRow (lo + k)) s
    { s with ana := { s.ana with refNext := max s.ana.refNext (hi + 1) } }

/-- What firmware does at the commit of job line `n`: T_i sent to every span engine (06_engines_shading.md R167), but in a hold
until the re-approach (11_reseam.md R306), and the reference rows copied (09_output_analytics.md R258). -/
def State.commitJob (s : State) (n : Nat) : State :=
  let s := if s.op = .holding ∧ s.fld F.SCAN_STATUS_PHASE ≠ 5 then s else s.span.foldl State.sendTemp s
  s.copyRef n

/-- The commit of the target line (R111, R117), or of the next time-mode line (R127). -/
def State.commitLine (s : State) : State :=
  let job := s.placing
  match s.sched.cur, s.tNow with
  | none, some tn =>
    if !(job || s.timeRuns || s.alignRuns) || (job && s.lastExposure.any (fun l => decide (l < s.sched.target))) then s
    else if (s.tb : Int) + s.commitLead < tn then s
    else if s.sched.lastRise.any (fun r => decide (tn < ((r + s.tMin : Nat) : Int))) then
      (s.skipLines s.sched.target 1).replan
    else
      let n := s.sched.target
      let c : Commit := ⟨n, none, 0, 0, job && s.swapDue n, s.sched.timeMode⟩
      let s := ({ s with sched := { s.sched with cur := some c } }).lineSet n
      if job then s.commitJob n else s
  | _, _ => s

/-- What an Equinox run captures in the line whose gate is issued, and the counts that go with it (08_calibration.md R220). -/
def State.eqxGate (s : State) : Nat × State :=
  match s.ops.eqx with
  | none => (0, s)
  | some e =>
    let put := fun (e : Eqx) => { s with ops := { s.ops with eqx := some e } }
    if (e.phase = 1 ∨ e.phase = 3) ∧ s.driven.all (fun c => (s.chain c).latched) then
      (0, put { e with phase := e.phase + 1, settle := s.fld F.PIPE_EQX_CFG_SETTLE, left := 64 })
    else if e.phase = 2 ∨ e.phase = 4 then
      if 0 < e.settle then (0, put { e with settle := e.settle - 1 })
      else if 0 < e.left then (e.phase / 2, put { e with left := e.left - 1 })
      else (0, s)
    else (0, s)

/-- A white line's gate: T_i of every tile worked on added to the sums that give T_CAL (08_calibration.md R222), and what the
sections light (06_engines_shading.md R169). -/
def State.eqxTemp (s : State) : State :=
  { s with ops := { s.ops with eqx := s.ops.eqx.map (fun (e : Eqx) =>
      { e with light := s.workTiles.map (fun i => s.lightOf (i / 2)),
               tSum := mapIdxFrom (fun k (x : Int × Nat) =>
          match s.tileTemp (nthD 0 s.workTiles k) with
          | some t => (x.1 + t, x.2 + 1)
          | none => x) 0 e.tSum }) } }

/-- The gate of the committed line (R112, R114): its rising edge is fixed at the gate plus LUM_LEAD_NS. -/
def State.issueGate (s : State) : State :=
  match s.sched.cur, s.tNow with
  | some c, some tn =>
    let rise := s.tb + s.fld F.SCHED_LUM_LEAD_NS
    let free := max (s.setEnd + 1000) ((s.sched.lastRise.map (· + s.tMin)).getD 0)
    if c.gate.isSome || !(s.placing || s.timeRuns || s.alignRuns) || decide ((rise : Int) < tn) || decide (rise < free)
      || s.driven.any (fun g => (s.bcb g).heldSet.isSome) then s
    else
      let late := decide (tn < (rise : Int))
      let s := if late then (s.count F.SCHED_PLACE_CLAMP_CNT_COUNT).setFld F.SCHED_STATUS_CLAMPED 1 else s
      let line := if c.time || s.alignRuns then none else some c.line
      let s := s.driven.foldl (fun s ch => s.gateEdge ch line) s
      -- a time-mode or alignment gate is a placed gate: its commit marks follow it too
      let s := if line.isNone then s.driven.foldl (fun s ch =>
          if s.markAllowed ch true ∧ (s.chain ch).markDue.isNone then
            s.modChain ch (fun x => { x with markDue := some (s.tb + s.fld F.SCHED_LUM_GATE_W + 500) }) else s) s else s
      let (cap, s) := s.eqxGate
      let s := if cap = 2 then s.eqxTemp else s
      { s with sched := { s.sched with cur := some { c with gate := some s.tb, rise := rise, capture := cap }, lastGate := s.tb, placedGate := some s.tb } }
  | _, _ => s

/-! Edges of the strobe (R112, R113). -/

/-- What applies from job line `n` on (06_engines_shading.md R182): a marked swap that is still pending (R179), then the ΔT step and
the drift latches by the temperature sent at its commit (R167, 08_calibration.md R235). -/
def State.lineStarts (s : State) (n : Nat) (swap : Bool) : State :=
  let s := if swap ∧ s.bit F.PIPE_BANK_STATUS_PENDING then s.swapAt n else s
  s.span.foldl State.driftStep s

/-- The join error (11_reseam.md R312), signed 8.8 pc. -/
def State.joinError (s : State) (n : Nat) : Int := clampS 16 (rheDiv (diff16 (s.predict s.tb) (s.gridPos n)) (2 ^ 8))

/-- Line N_R of a recapture is placed: the device runs again (11_reseam.md R302). -/
def State.rejoin (s : State) (n : Nat) : State :=
  if s.op = .holding ∧ s.fld F.SCAN_STATUS_PHASE = 5 ∧ s.prod.resumeNo = n then
    let s := s.setFlds [(F.SCAN_STATUS_PHASE, 1), (F.SCAN_JOIN_ERR, ofSigned 16 (s.joinError n)),
      (F.SCAN_VCMD_PCS, s.fld F.SCAN_VMIN_PCS)]
    { s with op := .running, prod := { s.prod with sealNext := none }, ana := { s.ana with pinsOn := true } }
  else s

/-- A job line's window opens: it counts as placed, and what applies from it applies. -/
def State.notePlaced (s : State) (c : Commit) : State :=
  let marked := if s.sched.skipped then (c.line :: s.prod.marked).take 64 else s.prod.marked
  let prod : Produce := { s.prod with n0 := some (s.prod.n0.getD c.line), placed := (c.line :: s.prod.placed).take 64,
                                      placedTop := max s.prod.placedTop (c.line + 1), marked := marked }
  let sched : Sched := { s.sched with skipped := false, rises := c.rise :: s.sched.rises.take 1 }
  let s : State := { s with sched := sched, prod := prod }
  let s := s.setFlds [(F.SCHED_LINE_LINE, c.line), (F.SCHED_EPOCH_EPOCH, c.line / 2 ^ 32)]
  let s := (s.lineStarts c.line c.swap).rejoin c.line
  if s.job.scan && s.lastExposure == some c.line && s.op == .running then s.haltGroup s.pacedGroup else s

/-- The rising edge of the gated line (R113): the tiles latch its number (03_triry_link.md R76), and what applies from it applies. -/
def State.windowOpens (s : State) : State :=
  match s.sched.cur with
  | none => s
  | some c =>
    if c.gate.isNone ∨ s.tb < c.rise then s
    else
      let job := s.op.inJob && !c.time
      let sched : Sched := { s.sched with cur := none, expo := some c, lastRise := some c.rise, pMax := s.masterPos }
      let sched : Sched := if c.time = sched.timeMode then { sched with target := c.line + 1 }
        else if c.time then sched else { sched with saved := c.line + 1 }
      let s := (s.driven.foldl (fun s g => s.emit (.bstb g true c.rise)) s).tilesRise
      let s : State := { s with sched := sched }
      ((if job then s.notePlaced c else s).takeQs).replan

/-- An Equinox phase whose last capture's window has closed gives way to the next (08_calibration.md R220). -/
def State.eqxClosed (s : State) (c : Commit) : State :=
  match s.ops.eqx with
  | none => s
  | some e =>
    if c.capture = 0 || e.settle ≠ 0 || e.left ≠ 0 || !(e.phase = 2 || e.phase = 4) then s
    else
      let s := { s with ops := { s.ops with eqx := some { e with phase := e.phase + 1 } } }
      { s with chains := s.chains.map (fun (x : Chain) => { x with latched := false }) }

/-- The falling edge, EXPO_NS after the rising edge (R113): a frame slot opens on every lane worked on (03_triry_link.md R64),
and the last exposure of a job moves it into DRAINING (15_command_set.md R409). -/
def State.windowCloses (s : State) : State :=
  match s.sched.expo with
  | none => s
  | some c =>
    let fall := c.rise + s.fld F.EXPO_NS_NS
    let time := c.time || s.alignRuns
    if s.tb < fall then s
    else
      let sched : Sched := { s.sched with expo := none }
      let s := s.driven.foldl (fun s g => s.emit (.bstb g false fall)) s
      let s := s.workTiles.foldl (fun s i => s.modLane i (fun l => { l with slot := some ⟨c.line, time, c.capture, fall⟩ })) s
      let s := ({ s with sched := sched }).eqxClosed c
      if !time && s.lastExposure == some c.line && s.op == .running then s.enterDraining else s

/-! Reversal (R120 to R122). -/

/-- The smallest of `k` candidates from `n` on whose grid position is not below `x`, or the one after them. -/
def State.lineFrom (s : State) (x : Int) : Nat → Nat → Nat
  | 0, n => n
  | k + 1, n => if 0 ≤ diff16 (s.gridPos n) x then n else State.lineFrom s x k (n + 1)

/-- The lowest line, not below `n`, whose grid position is at or beyond `x`, 48.16 pc (R110, R122). -/
def State.firstAt (s : State) (n : Nat) (x : Int) : Nat :=
  if 0 ≤ diff16 (s.gridPos n) x then n
  else
    let need := diff16 x s.linePhase * 2 ^ 16
    let guess := (need / max 1 (s.linePitch : Int)).toNat
    s.lineFrom x 8 (max n (guess - 3))

/-- REVERSE set at position `p` (R120, R121): a committed line without its gate is withdrawn. -/
def State.reverseSets (s : State) (p : Int) : State :=
  let s := (s.setFld F.SCHED_STATUS_REVERSE 1).alignBad 3
  let s := { s with sched := { s.sched with pTurn := p } }
  match s.sched.cur with
  | some c =>
    if c.gate.isNone ∧ s.placing then s.dropCommit.holdExposure 2 c.line else s
  | none => s

/-- REVERSE cleared at position `p` (R122): the scheduler resumes. -/
def State.reverseClears (s : State) (p : Int) : State :=
  let s := s.setFld F.SCHED_STATUS_REVERSE 0
  let s := { s with sched := { s.sched with pMax := p } }
  if !s.placing then s
  else
    let nr := if s.op = .holding then s.prod.resumeNo else s.sched.target
    let n := s.firstAt nr ((s.sched.pTurn + s.fld F.SCHED_REV_SETTLE_PC) * 2 ^ 16)
    let s := { s with sched := { s.sched with target := nr },
                      prod := { s.prod with placed := s.prod.placed.filter (· < nr), missed := s.prod.missed.filter (· < nr), placedTop := min s.prod.placedTop nr } }
    if n = nr then s
    else
      let s := (s.setFld F.SCHED_STATUS_SETTLE_SHORT 1).burgee 4 clsWarn 2
      s.skipLines nr (n - nr)

/-- The reversal detector at a master position (R120). -/
def State.reverseTest (s : State) (p : Int) : State :=
  let rev : Int := s.fld F.SCHED_REV_REV_PC
  if !s.bit F.SCHED_STATUS_REVERSE then
    let s := if 0 < wrapS 48 (p - s.sched.pMax) then { s with sched := { s.sched with pMax := p } } else s
    if rev ≤ wrapS 48 (s.sched.pMax - p) then s.reverseSets p else s
  else
    let s := if wrapS 48 (p - s.sched.pTurn) < 0 then { s with sched := { s.sched with pTurn := p } } else s
    if rev ≤ wrapS 48 (p - s.sched.pTurn) then s.reverseClears p else s

/-! Encoders (R96 to R102). -/

/-- The direction of an edge by the quadrature phase: A leading B counts up. DESIGN CHOICE, assumption log 23. -/
def phaseUp (a _b a' b' : Bool) : Bool := if a = a' then (b' = a') else (a' ≠ b')

/-- An encoder's count (R98): its position, direction, and the instant of the edge, which is not recorded while the always-on
domain counts alone (R101). -/
def State.encMove (s : State) (k : Nat) (up : Bool) (t : Option Nat) : State :=
  let d : Int := if up then 1 else -1
  let s := s.modEnc k (fun e => { e with pos := wrapS 48 (e.pos + d), step := d, ts := t.getD e.ts })
  s.setFld F.ENC_STATUS_DIR (b2n (!up)) k

/-- The scheduler's share of a master edge (R103, R111, R120). -/
def State.masterEdge (s : State) (t : Nat) (p : Int) : State := ((s.trackEdge t p).reverseTest p).replan

/-- 1 ms without a master edge (R105): v̂ is 0, and no edge of before counts in a mean rate. -/
def State.goStill (s : State) : State :=
  if s.bit F.SCHED_STATUS_STILL ∨ s.tb < s.sched.tk + 1000000 then s
  else
    let s := s.setFld F.SCHED_STATUS_STILL 1
    ({ s with sched := { s.sched with vHat := 0, tn := none, edges := [] } })

/-! Keep-warm and service gates (R124 to R126, 05_illumination.md R538). -/

/-- The keep-warm interval (R125): that of the job's last two placed lines. -/
def State.keepWarm (s : State) : Nat :=
  match s.sched.rises with
  | a :: b :: _ => if s.op = .service then s.fld F.LUM_KW_NS_NS else max s.tMin (min 1000000 (a - b))
  | _ => s.fld F.LUM_KW_NS_NS

/-- Sections are lit at the heating duty of a thermal sweep (08_calibration.md R233): between the captures, and until the next one's time
mode begins. The gates that light them come at LUM_KW_NS. DESIGN CHOICE, assumption log 170. -/
def State.heating (s : State) : Bool := s.op = .service && s.ops.therm.isSome && s.ops.eqx.all (fun e => e.phase = 0)

/-- Keep-warm gates belong to the present state (R125): ARMED, HOLDING, and RUNNING while REVERSE is set or the master stands. A thermal
sweep heats by such gates. -/
def State.warming (s : State) : Bool :=
  s.heating || s.op = .armed || s.op = .holding || (s.op = .running && (s.bit F.SCHED_STATUS_REVERSE || s.bit F.SCHED_STATUS_STILL))

/-- No commit is predicted within T_MIN + L_C (R126). -/
def State.noCommitSoon (s : State) : Bool :=
  !s.placing || (match s.tNow with
    | none => true
    | some tn => decide (((s.tb + s.tMin + 2 * s.commitLead : Nat) : Int) < tn))

/-- A keep-warm gate may be issued now (R125, R126): its interval has passed, and 6,000 ns since the falling edge of a placed gate
(05_illumination.md R135). -/
def State.keepWarmDue (s : State) : Bool :=
  s.warming && !(s.sched.cur.any (fun c => c.gate.isSome)) && decide (s.sched.lastGate + s.keepWarm ≤ s.tb)
    && s.sched.placedGate.all (fun g => decide (g + s.fld F.SCHED_LUM_GATE_W + 6000 ≤ s.tb)) && s.noCommitSoon

/-- A keep-warm gate on every driven chain. -/
def State.keepWarmGate (s : State) : State :=
  if s.keepWarmDue then
    let s := s.driven.foldl (fun s c => s.gateEdge c none) s
    { s with sched := { s.sched with lastGate := s.tb } }
  else s

/-- A service gate of LUM_DIAG on chain `c` (R538). -/
def State.serviceGateOn (s : State) (c : Nat) : State :=
  match s.ops.diag with
  | none => s
  | some g =>
    let last := assocGet c g.gates
    if (assocGet c g.chains).isNone ∨ last.any (fun x => s.tb < x + max (s.fld F.LUM_KW_NS_NS) 10000) then s
    else
      let s := { s with ops := { s.ops with diag := some { g with gates := assocSet c s.tb g.gates } } }
      s.gateEdge c none

/-! Starting and resuming (R110, R127). -/

/-- The scheduler begins to place job lines (R110): from the first line at or beyond p̂ + SETTLE_PC. -/
def State.startPlacing (s : State) : State :=
  let n := s.firstAt 0 (wrapS 64 (s.sched.pHat + s.fld F.SCHED_REV_SETTLE_PC * 2 ^ 16))
  ({ s with sched := { s.sched with active := true, target := n, cur := none, skipped := false } }).replan

/-- Time mode entered by firmware for a run (R127), a line a T_MIN. -/
def State.timeModeOn (s : State) : State :=
  (s.setFlds [(F.SCHED_CTRL_TIME_MODE, 1), (F.TIME_PERIOD_NS_NS, s.tMin)]).timeEnter

/-- Time mode left by firmware. -/
def State.timeModeOff (s : State) : State := (s.setFld F.SCHED_CTRL_TIME_MODE 0).timeLeave

/-- Position mode resumed in a job after CALIBRATING (R127): lines that passed meanwhile are skipped. -/
def State.resumePlacing (s : State) : State :=
  let s := s.trackRestart
  let nr := s.sched.target
  let n := s.firstAt nr (wrapS 64 (s.masterPos * 2 ^ 16 + 1))
  let s := { s with sched := { s.sched with active := true } }
  (s.skipLines nr (n - nr)).replan

end Sys2Proof.Machine
end

