-- ==== Sys2Proof/Machine/LinkOps.lean ====
section
/-! DEFINITION. The tile link (03_triry_link.md) and discovery (02_sensor_bar.md R41 to R47): the transactions of the bar
control bus, identity records, training, locks, and the frames that a lane receives. -/

namespace Sys2Proof.Machine

/-! FIRST_SITE and the entry into RUN (R60, R78). -/

/-- The FIRST_SITE that firmware writes to tile `i` (R60). -/
def State.firstSite (s : State) (i : Nat) : Nat :=
  if s.recFlag i 0 then s.recLe i 20 2
  else match (s.lane i).site with
    | some v => v
    | none => if identSites (s.lane i).ident = 480 then 1 else 0

/-- FIRST_SITE written to tile `i` (R60). -/
def State.pushSite (s : State) (i : Nat) : State := s.bcbPush (i / 128) i 0x04 (be 1 1 ++ be 2 (s.firstSite i)) .quiet 4

/-- The tiles of the driven segments that are PRESENT. -/
def State.drivenTiles (s : State) : List Nat :=
  (s.driven.flatMap (fun g => (List.range 128).map (128 * g + ·))).filter (fun i => s.bit F.TILE_STATUS_PRESENT i)

/-- The tiles taken to RUN (R60, R78): EXP_SEQ 0 is expected of each (R76). -/
def State.runTiles (s : State) : State :=
  let s := s.drivenTiles.foldl State.pushSite s
  let s := s.driven.foldl (fun s g => s.broadcastMode g 4) s
  s.workTiles.foldl (fun s i => s.modLane i (fun l => { l with expSeq := 0 })) s

/-! Training (R83 to R87). -/

/-- The tile takes part in an armed or running job, so that a training ends in RUN (R85). -/
def State.runsAfter (s : State) (i : Nat) : Bool := s.op.inJob && s.inWork i && s.ops.arm.isNone

/-- Full training of lane `i` begun (R85): tile to TRAIN, taps at step 0. -/
def State.trainStart (s : State) (i : Nat) : State :=
  let s := s.quadSpring (i / 4)
  let t : Train := ⟨0, 0, 0, 0, 1, true, true, false, false, 0, 0, false, false⟩
  let s := s.modLane i (fun l => { l with train := some t })
  let s := s.setFlds [(F.TILE_LANE_STATUS_TRAINING, 1), (F.TILE_LANE_STATUS_BLOCK_LOCK, 0), (F.TILE_LANE_EQ_CTLE, 0)] i
  let push := fun (s : State) (op : Nat) (d : List Byte) => s.bcbPush (i / 128) i op d .training 4
  push (push (push s 0x03 [0]) 0x03 [1]) 0x08 [0]

/-- The CTLE setting of lane `i`'s last training that passed, in use again (R86), beside the taps last confirmed (R91). -/
def State.showSaved (s : State) (i : Nat) : State :=
  match (s.lane i).saved with
  | some (c, _, _) =>
    s.setFlds [(F.TILE_LANE_EQ_CTLE, c), (F.TILE_LANE_EQ_PRE, (s.lane i).taps.1), (F.TILE_LANE_EQ_POST, (s.lane i).taps.2)] i
  | none => s

/-- Quad `q`, in Spring for a training, returns to Winter once none of its lanes trains (R18, R79): a span quad is in Summer (R43). -/
def State.trainRest (s : State) (q : Nat) : State :=
  if s.season q = .spring ∧ (List.range 4).all (fun k => (s.lane (4 * q + k)).train.isNone) then
    s.quadWinter q
  else s

/-- A lane's part in JOB_ARM done. -/
def State.armLaneDone (s : State) (i : Nat) : State :=
  { s with ops := { s.ops with arm := s.ops.arm.map (fun (a : ArmOp) => { a with lanes := a.lanes.filter (· ≠ i) }) } }

/-- The end of lane `i`'s training (R85, R86): `ok` when the taps were confirmed. -/
def State.trainEnd (s : State) (i : Nat) (ok : Bool) : State :=
  match (s.lane i).train with
  | none => s
  | some t =>
    let eye := (s.lane i).eye
    let passed := ok && decide (10 ≤ eye.1) && decide (22 ≤ eye.2)
    let s := s.setFlds [(F.TILE_LANE_STATUS_TRAINING, 0), (F.TILE_LANE_STATUS_TRAIN_FAIL, b2n (!passed)),
      (F.TILE_LANE_EQ_CTLE, t.ctle)] i
    let s :=
      if passed then s.modLane i (fun l => { l with train := none, saved := some (t.ctle, t.pre, t.pst) })
      else
        let s := (s.modLane i (fun l => { l with train := none, lostAt := l.lostAt.map (fun _ => s.tb) })).showSaved i
        let s := match (s.lane i).saved with
          | some (_, pre, pst) => s.bcbPush (i / 128) i 0x08 [BitVec.ofNat 8 (pre * 16 + pst)] .quiet 4
          | none => s
        s.burgee 2 clsWarn 2 i
    let s := s.bcbPush (i / 128) i 0x03 [0] .quiet 4
    let s := if s.runsAfter i then
        ((s.pushSite i).bcbPush (i / 128) i 0x03 [4] .quiet 4).modLane i (fun l => { l with expSeq := 0 })
      else s
    (s.armLaneDone i).trainRest (i / 4)

/-- A lane under training that measures in the next round (R85). -/
def Train.measures (t : Train) : Bool := t.stepNo ≠ 10

/-- The loop over one direction left (R85): the next direction, cursor or pass, none at the end of the search. -/
def Train.leave (t : Train) : Option Train :=
  if t.up ∧ !t.moved then some { t with up := false }
  else if t.post then some { t with post := false, up := true, moved := false }
  else if t.changed ∧ t.pass < 4 then
    some { t with pass := t.pass + 1, changed := false, post := true, up := true, moved := false }
  else none

/-- The step that the search tries next (R85), from its cursor and direction; `stepNo` 10 ends it. `rng` gives the ranges of the
pre-cursor and the post-cursor. The step is the nibble of TX_TAP_ALL (R74). -/
def Train.seek (rng : Nat × Nat) : Nat → Train → Train × Nat
  | 0, t => ({ t with stepNo := 10 }, 0)
  | fuel + 1, t =>
    let v := if t.post then t.pst else t.pre
    let r := if t.post then rng.2 else rng.1
    if t.up ∧ v < r ∨ !t.up ∧ 0 < v then
      let v' := if t.up then v + 1 else v - 1
      let act := (if t.up then 1 else 2) * (if t.post then 4 else 1)
      (if t.post then { t with pst := v' } else { t with pre := v' }, act)
    else match t.leave with
      | some t' => Train.seek rng fuel t'
      | none => ({ t with stepNo := 10 }, 0)

/-- The taps put back after a step that gained nothing. -/
def Train.back (t : Train) : Train × Nat :=
  let v := fun (x : Nat) => if t.up then x - 1 else x + 1
  let act := (if t.up then 2 else 1) * (if t.post then 4 else 1)
  (if t.post then { t with pst := v t.pst, undo := true } else { t with pre := v t.pre, undo := true }, act)

/-- A round of the training of one lane whose metric is `m` (R85): the state after it and the nibble of the next round. best / 32 is
rounded down: assumption log 157. -/
def Train.round (t : Train) (rng : Nat × Nat) (m : Nat) : Train × Nat :=
  if t.stepNo < 8 then
    let t := if t.stepNo = 0 ∨ t.ctleBest < m then { t with ctle := t.stepNo, ctleBest := m } else t
    ({ t with stepNo := t.stepNo + 1 }, 0)
  else if t.stepNo = 8 then Train.seek rng 12 { t with stepNo := 9, best := m }
  else if t.undo then
    match ({ t with undo := false } : Train).leave with
    | some t' => Train.seek rng 12 t'
    | none => ({ t with undo := false, stepNo := 10 }, 0)
  else if t.best + max 4 (t.best / 32) ≤ m then Train.seek rng 12 { t with best := m, moved := true, changed := true }
  else t.back

/-- The taps of lane `i`'s tile have a range (R46). -/
def State.tapRange (s : State) (i : Nat) : Nat × Nat := (identPre (s.lane i).ident, identPost (s.lane i).ident)

/-- The eye of lane `i` shown (R91). -/
def State.showEye (s : State) (i h w : Nat) : State :=
  s.setFlds [(F.TILE_LANE_EYE_EYE_H, h), (F.TILE_LANE_EYE_EYE_W, w), (F.TILE_LANE_EYE_METRIC, h * w)] i

/-- A lane restored at JOB_ARM and measured (R85): trained in full when it fails the pass criterion. -/
def State.restoreMeasured (s : State) (i h w : Nat) : State :=
  let s := s.modLane i (fun l => { l with train := none, eye := (h, w) })
  if 10 ≤ h ∧ 22 ≤ w then (s.setFlds [(F.TILE_LANE_STATUS_TRAINING, 0), (F.TILE_LANE_STATUS_TRAIN_FAIL, 0)] i).armLaneDone i
  else s.trainStart i

/-- One lane's share of a round: the state and its nibble (R85). -/
def State.laneRound (s : State) (e : Eye) : State × Nat :=
  let i := e.lane
  match (s.lane i).train with
  | none => (s, 0)
  | some t =>
    let (h, w) := (e.h % 64, e.w % 64)
    if t.stepNo = 11 then ((s.showEye i h w).restoreMeasured i h w, 0)
    else if !t.measures then (s, 0)
    else
      let s := if t.undo then s else s.showEye i h w
      let keep := !t.undo && (t.stepNo ≤ 8 || decide (t.best + max 4 (t.best / 32) ≤ h * w))
      let (t', nib) := t.round (s.tapRange i) (h * w)
      let s := s.modLane i (fun l => { l with train := some t', eye := if keep then (h, w) else l.eye })
      let s := s.setFld F.TILE_LANE_EQ_CTLE (if t'.stepNo < 8 then t'.stepNo else t'.ctle) i
      (if t'.stepNo = 10 then s.bcbPush (i / 128) i 0x09 [] .training 4 else s, nib)

/-- The set-up and confirmation transactions of training on a segment are done. -/
def Bcb.trainQuiet (b : Bcb) : Bool :=
  let free := fun (x : Txn) => !(x.src = .training || x.src = .restore)
  b.queue.all free && b.cur.all free

/-- The nibbles of a TX_TAP_ALL broadcast (R74). -/
def tapAllData (nibs : List (Nat × Nat)) : List Byte :=
  (List.range 64).map (fun k =>
    BitVec.ofNat 8 ((assocGet (2 * k) nibs).getD 0 + 16 * (assocGet (2 * k + 1) nibs).getD 0))

/-- A training round on a segment (R85): every lane under training is measured at once, and the next TX_TAP_ALL carries every
lane's step. -/
def State.trainingRound (s : State) (g : Nat) (meas : List Eye) : State :=
  let ms := meas.filter (fun e => e.lane / 128 = g && (s.lane e.lane).train.any Train.measures)
  if !(s.bcb g).trainQuiet || ms.isEmpty then s
  else
    let r := ms.foldl (fun (a : State × List (Nat × Nat)) e =>
      let q := a.1.laneRound e
      (q.1, (e.lane % 128, q.2) :: a.2)) (s, [])
    if r.2.all (fun e => e.2 = 0) then r.1 else r.1.bcbPush g 0x1FF 0x07 (tapAllData r.2) .training 1

/-! Identity records (02_sensor_bar.md R41 to R47). -/

/-- A tile that no longer answers (R79). TILE_IDENT keeps the record as last read (R48). -/
def State.losePresent (s : State) (i : Nat) : State :=
  (s.modLane i (fun l => { l with ident := [], site := none, serial := none, misId := false })).setFlds
    [(F.TILE_STATUS_PRESENT, 0), (F.TILE_STATUS_IDENT_OK, 0), (F.TILE_STATUS_IDENT_IN_LIMITS, 0)] i

/-- An identity record taken up (R47, R48, R79). A tile that becomes PRESENT in IDLE or SERVICE is trained at once. SERIAL_CHANGED
compares a record that checks with the last one that did: assumption log 156. -/
def State.takeIdent (s : State) (i : Nat) (l : List Byte) : State :=
  let isNew := !s.bit F.TILE_STATUS_PRESENT i
  let changed := !isNew && identOk l && (s.lane i).serial.any (fun n => decide (identSerial l ≠ n))
  let s := s.modLane i (fun x => { x with ident := padTo 32 l, site := if isNew then none else x.site,
                                          serial := if identOk l then some (identSerial l) else x.serial,
                                          misId := if isNew then false else x.misId })
  let s := s.setFlds [(F.TILE_STATUS_PRESENT, 1), (F.TILE_STATUS_IDENT_OK, b2n (identOk l)),
    (F.TILE_STATUS_IDENT_IN_LIMITS, b2n (identOk l && identInLimits l))] i
  let s := if changed then s.setFld F.TILE_STATUS_SERIAL_CHANGED 1 i else s
  if isNew ∧ (s.op = .idle ∨ s.op = .service) then s.trainStart i else s

/-- A span tile's identity record has been read again for JOB_ARM (R42). -/
def State.armIdentDone (s : State) (i : Nat) : State :=
  { s with ops := { s.ops with arm := s.ops.arm.map (fun (a : ArmOp) => { a with idents := a.idents.filter (· ≠ i) }) } }

/-- An IDENT_READ answered (R47, R48): a record that fails its CRC is read once more. -/
def State.identReply (s : State) (i : Nat) (src : Origin) (l : List Byte) : State :=
  let s := s.modLane i (fun x => { x with shown := padTo 32 l })
  if identOk l ∨ src = .second then (s.takeIdent i l).armIdentDone i
  else s.bcbPush (i / 128) i 0x02 [] .second 4

/-- An IDENT_READ that failed every attempt (R71, R79): a tile known to be PRESENT is so no longer, and a second read that fails
leaves it present but not identified. -/
def State.identLost (s : State) (i : Nat) (src : Origin) : State :=
  match src with
  | .discover => s
  | .second => (s.takeIdent i (s.lane i).shown).armIdentDone i
  | _ => (s.losePresent i).armIdentDone i

/-- A discovery pass on every segment (R79). -/
def State.discover (s : State) : State :=
  (List.range 512).foldl (fun s i =>
    if s.bit F.TILE_STATUS_PRESENT i then s.bcbPush (i / 128) i 0x02 [] .reread 4
    else s.bcbPush (i / 128) i 0x02 [] .discover (if s.op = .boot then 4 else 1)) s

/-- The transaction belongs to a discovery pass. -/
def Txn.discovers (x : Txn) : Bool := x.src = .discover || x.src = .reread || x.src = .second

/-- A pass is still under way. -/
def State.discovering (s : State) : Bool := s.bcbs.any (fun b => b.queue.any Txn.discovers || b.cur.any Txn.discovers)

/-! Transactions of the bar control bus (R68 to R71, R77). -/

/-- The length of an opcode's reply data (R74). -/
def tileReplyLen (op : Nat) : Nat :=
  match op with
  | 0x01 => 1
  | 0x02 => 32
  | 0x05 => 2
  | 0x06 => 1
  | 0x09 => 1
  | 0x0B => 4
  | _ => 0

/-- The time of a command frame on the bus (R67, R68). -/
def Txn.wireNs (x : Txn) : Nat := serialNs (bcbFrame 0 x.seq x.addr x.op x.data)

/-- A broadcast, which has one attempt and no reply (R69). The address of T511 is the broadcast address: a command to T511 is
awaited like any other, and every tile takes it as a broadcast, so that it fails. Assumption log 77. -/
def Txn.bcast (x : Txn) : Bool := x.addr = 0x1FF && x.tries = 1 && (x.src = .quiet || x.src = .training)

/-- The bound of an attempt (R70, R77): its frame, then its reply or its timeout; a broadcast has neither. -/
def Txn.bound (x : Txn) : Nat :=
  if x.bcast then x.wireNs else x.wireNs + max 4000 (2000 + 400 * (8 + tileReplyLen x.op))

/-- The predicted start of the next LINE_SET (R77). -/
def State.nextSet (s : State) : Option Int :=
  if !(s.placing || s.timeRuns || s.alignRuns) then none
  else
    match s.sched.cur with
    | none => s.tNow.map (· - (s.commitLead : Int))
    | some c =>
      if c.time then some ((s.sched.t0 + (c.line + 1) * s.fld F.TIME_PERIOD_NS_NS : Nat) - (s.commitLead : Int))
      else (s.crossing (c.line + 1)).map (· - (s.commitLead : Int))

/-- The next transaction of a segment starts (R68, R71, R77), when the bus is free and the attempt fits. -/
def State.bcbAttempt (s : State) (g : Nat) : State :=
  let b := s.bcb g
  match b.cur, b.queue with
  | none, x :: rest =>
    let fits := match s.nextSet with
      | some p => decide (((s.tb + x.bound + 400 : Nat) : Int) ≤ p)
      | none => true
    if s.tb < b.freeAt ∨ s.tb < b.setEnd ∨ !fits then s
    else
      let seq := if x.bcast then 0 else if x.made = 0 then ((s.lane x.addr).bcbSeq + 1) % 32 else x.seq
      let y : Txn := { x with made := x.made + 1, seq := seq }
      let s := s.emit (.bcb g (bcbFrame 0 seq x.addr x.op x.data))
      if x.bcast then
        s.modBcb g (fun b => { b with queue := rest, freeAt := s.tb + x.wireNs + 400 })
      else
        let s := if 0 < x.made then s.count F.TILE_BCB_RETRY_COUNT x.addr else s
        let s := s.modLane x.addr (fun l => { l with bcbSeq := seq })
        s.modBcb g (fun b => { b with queue := rest, cur := some y, cmdEnd := s.tb + x.wireNs, curEnd := s.tb + x.bound })
  | _, _ => s

/-- The bus of a segment freed after an attempt: a LINE_SET held back starts 400 ns later (R77). -/
def State.bcbFree (s : State) (g : Nat) : State :=
  let b := s.bcb g
  match b.heldSet with
  | some n =>
    (s.modBcb g (fun b => { b with cur := none, freeAt := s.tb + 4400, setEnd := s.tb + 4400, heldSet := none })).emit
      (.bcb g (bcbFrame 0 0 0x1FF 0x0A (be 3 n)))
  | none => s.modBcb g (fun b => { b with cur := none, freeAt := s.tb + 400 })

/-- The command of path `p` that waited on a transaction answers. -/
def State.tileReplied (s : State) (p : Path) (r : Rsp) : State :=
  ({ s with ops := { s.ops with tileCmd := none } }).sendReply p r

/-- The host's FIRST_SITE, as TILE_BROADCAST wrote it, is kept for a tile (R60). -/
def State.keepSite (s : State) (i : Nat) (d : List Byte) : State :=
  if byteAt d 0 = 1 then s.modLane i (fun l => { l with site := some (beAt d 1 2) }) else s

/-- The taps of a tile's transmitter as an acknowledged transaction confirms them (R91): TX_TAP_SET by its data, TX_TAP and
TX_TAP_GET by the reply. -/
def State.confirmTaps (s : State) (x : Txn) (data : List Byte) : State :=
  let show_ := fun (b : Nat) =>
    (s.modLane x.addr (fun l => { l with taps := (b / 16, b % 16) })).setFlds [(F.TILE_LANE_EQ_PRE, b / 16), (F.TILE_LANE_EQ_POST, b % 16)] x.addr
  if x.op = 0x08 then show_ (byteAt x.data 0)
  else if x.op = 0x06 ∨ x.op = 0x09 then show_ (byteAt data 0)
  else s

/-- A transaction answered with `status` and `data` (R72). A TX_TAP_GET ends the training that asked for it, and not one that has
lost lock and waits to begin again (R87). -/
def State.txnDone (s : State) (x : Txn) (status : Nat) (data : List Byte) : State :=
  let i := x.addr
  let ok := status = tileAck
  let s := if ok then s.confirmTaps x data else s
  match x.src with
  | .command p =>
    let s := if ok ∧ x.op = 0x04 then s.keepSite i x.data else s
    s.tileReplied p (rspOk (be 1 status ++ be 1 data.length ++ data))
  | .training =>
    if x.op = 0x09 then
      let t := (s.lane i).train
      if t.any (fun t => decide (t.stepNo = 10) && !t.lost) then
        s.trainEnd i (ok && t.any (fun t => decide (byteAt data 0 = t.pre * 16 + t.pst)))
      else s
    else if x.op = 0x08 ∧ !ok then s.trainEnd i false
    else s
  | .restore =>
    if ok then
      (s.showSaved i).modLane i (fun l => { l with train := l.train.map (fun (t : Train) => { t with stepNo := 11 }) })
    else s.trainStart i
  | .setting => s
  | .quiet => s
  | src => s.identReply i src data

/-- A transaction that failed its last attempt (R71): BCB_LOST, but for discovery, and the failure reported to the operation
that issued it. -/
def State.txnLost (s : State) (x : Txn) : State :=
  let i := x.addr
  let s := if x.src = .discover then s else s.burgee 2 clsWarn 3 i 1
  match x.src with
  | .command p => s.tileReplied p (rspErr stFault 0xF1)
  | .training => if x.op = 0x03 then s else s.trainEnd i false
  | .restore => s.trainEnd i false
  | .setting => s
  | .quiet => s
  | src => s.identLost i src

/-- An attempt has failed (R70, R71): again while attempts are left. -/
def State.attemptFailed (s : State) (g : Nat) (x : Txn) : State :=
  if x.made < x.tries then (s.bcbFree g).modBcb g (fun b => { b with queue := x :: b.queue })
  else (s.bcbFree g).txnLost x

/-- A reply on a segment whose last stop bit is now (R67, R70, R72): it fails where its SOF started more than 4,000 ns after the command,
where an idle gap of more than 2 bit times broke it off, and where it does not check or match: assumption log 159. -/
def State.bcbReply (s : State) (g gap : Nat) (bytes : List Byte) : State :=
  match (s.bcb g).cur with
  | none => s
  | some x =>
    let late := decide ((s.bcb g).cmdEnd + 4000 + serialNs bytes < s.tb)
    match (if late || decide (2 < gap) then none else parseReply bytes) with
    | none => s.attemptFailed g x
    | some (seq, addr, op, status, data) =>
      if seq = x.seq ∧ addr = x.addr ∧ op = x.op then (s.bcbFree g).txnDone x status data else s.attemptFailed g x

/-- No SOF 4,000 ns after a command (R70). -/
def State.bcbTimeout (s : State) (g : Nat) : State :=
  match (s.bcb g).cur with
  | none => s
  | some x => if (s.bcb g).cmdEnd + 4000 ≤ s.tb then s.attemptFailed g x else s

/-! Lane lock (R54, R55, R87). -/

/-- The lane's receiver is powered. -/
def State.laneUp (s : State) (i : Nat) : Bool := s.quad i ≠ .winter

/-- A lane locks (R54); a training that lost lock begins again (R87). -/
def State.laneLock (s : State) (i : Nat) : State :=
  if 512 ≤ i ∨ !s.laneUp i then s
  else
    let raw := (s.lane i).train.isSome
    let s := s.setFlds [(F.TILE_LANE_STATUS_PHASE_LOCK, 1), (F.TILE_LANE_STATUS_BLOCK_LOCK, b2n (!raw))] i
    let again := (s.lane i).train.any (·.lost)
    let s := s.modLane i (fun l => { l with lostAt := none })
    if again then s.trainStart i else s

/-- 10 ms without lock in a running job (R55, R86): the lane is trained. -/
def State.relock (s : State) (i : Nat) : State :=
  match (s.lane i).lostAt with
  | none => s
  | some t0 =>
    let running := s.op = .running || s.op = .holding || s.op = .draining
    if running ∧ t0 + 10000000 ≤ s.tb ∧ (s.lane i).train.isNone then
      (s.modLane i (fun l => { l with lostAt := some s.tb })).trainStart i
    else s

/-! Link test (R88 to R90). -/

/-- The tile mode that a PRBS code asks for over the far-end path (R88). 0b11 acts as 0b00. -/
def prbsMode (c : Nat) : Nat := if c = 1 then 2 else if c = 2 then 3 else 0

/-- LOOPBACK is 0b00, or 0b11, which acts as it. -/
def farEnd (loop : Nat) : Bool := loop = 0 || loop = 3

/-- LOOPBACK and PRBS set for lane `i` (R88): on the far-end path the tile is sent the test mode that goes with PRBS, from IDLE (R74),
and MODE_SET IDLE when PRBS returns to off. A change of PRBS seeds the checker anew. -/
def State.setTest (s : State) (i loop code : Nat) : State :=
  let old := prbsMode (s.fld F.TILE_LANE_CTRL_PRBS i)
  let new := prbsMode code
  let was := farEnd (s.fld F.TILE_LANE_CTRL_LOOPBACK i)
  let s := s.setFlds [(F.TILE_LANE_CTRL_LOOPBACK, loop), (F.TILE_LANE_CTRL_PRBS, code)] i
  let s := if old = new then s else (s.modLane i (fun l => { l with prbs := {} })).setFld F.TILE_LANE_STATUS_PRBS_LOCK 0 i
  let send := fun (s : State) (m : Nat) => s.bcbPush (i / 128) i 0x03 [BitVec.ofNat 8 m] .quiet 4
  if new = 0 then (if old = 0 then s else send s 0)
  else if !farEnd loop ∨ (old = new ∧ was) then s
  else send (if old = 0 ∨ old = new then s else send s 0) new

/-- One bit at a PRBS checker (R89): the checker after it, and 1 where it counts an error. Assumption log 42. -/
def Prbs.step (deg tap : Nat) (p : Prbs) (b : Bool) : Prbs × Nat :=
  let next := prbsNext deg tap p.reg
  if p.locked then
    let age := p.age + 1
    let errs := (if b = next then p.errs else age :: p.errs).filter (fun e => age < e + 1024)
    (if 64 ≤ errs.length then {} else { p with reg := (2 * p.reg + b2n next) % 2 ^ deg, age := age, errs := errs }, b2n (b != next))
  else
    let reg := (2 * p.reg + b2n b) % 2 ^ deg
    if p.seeded < deg then ({ p with reg := reg, seeded := p.seeded + 1 }, 0)
    else
      let good := if b = next then p.good + 1 else 0
      ({ p with reg := reg, good := good, locked := good = 64 }, 0)

/-- Bits at a PRBS checker: the checker after them, and the errors counted. -/
def Prbs.run (deg tap : Nat) : Prbs → List Bool → Prbs × Nat
  | p, [] => (p, 0)
  | p, b :: l =>
    let r := p.step deg tap b
    let q := Prbs.run deg tap r.1 l
    (q.1, r.2 + q.2)

/-- INJECT (R90). -/
def State.injectLane (s : State) (i : Nat) : State :=
  let on := s.fld F.TILE_LANE_CTRL_PRBS i
  if on = 1 ∨ on = 2 then (if s.bit F.TILE_LANE_STATUS_PRBS_LOCK i then
      (s.modLane i (fun l => { l with prbs := { l.prbs with errs := l.prbs.age :: l.prbs.errs } })).count F.TILE_PRBS_ERR_COUNT i
    else s)
  else s.modLane i (fun l => { l with injectNext := true })

/-- Every link-test control at 0 (15_command_set.md R413). -/
def State.linkTestsOff (s : State) : State :=
  (List.range 512).foldl (fun s i => s.setTest i 0 0) s

/-! Frames (R56 to R66). -/

/-- What an engine is told of a frame that a slot lacks (R66): in SCAN the exposure is captured again, otherwise it is entered
without samples (07_alignment_seams.md R196). -/
def State.frameLost (s : State) (i : Nat) (x : Slot) : State :=
  let s := if s.inSpan i then s.count F.SYS_TILE_ERRi_COUNT i else s
  if x.time then (if s.alignRuns ∧ s.inZones i x.line then s.alignBad 5 else s)
  else if s.job.scan ∧ (s.op = .running ∨ s.op = .holding) then s.holdExposure 1 x.line
  else (s.fillBefore i x.line).enterMissing i x.line

/-- The exposure is withdrawn by a seal whose recapture is still to come, so that its frame counts for nothing (11_reseam.md R300,
07_alignment_seams.md R198). -/
def State.sealedOut (s : State) (x : Slot) : Bool :=
  !x.time && s.prod.sealNext.any (fun l => s.prod.cold || decide (l + s.lat ≤ x.line))

/-- A slot's frame missing or discarded, with the lane's expectation (R65). One that the seal has withdrawn counts in no error
counter (07_alignment_seams.md R198). -/
def State.slotFails (s : State) (i : Nat) (x : Slot) (cause : Fld) (next : Nat) : State :=
  let s := s.modLane i (fun l => { l with slot := none, expSeq := next % 256 })
  if s.sealedOut x then s else (s.count cause i).frameLost i x

/-- The tile's own warnings (R63): one burgee a job for each. -/
def State.tileWarn (s : State) (i status : Nat) : State :=
  let s := if bitAt status 2 then s.burgeeOnce (suppKey 2 4 i) 2 4 i else s
  if bitAt status 3 then s.burgeeOnce (suppKey 2 5 i) 2 5 i else s

/-- An accepted frame handed to its engine (R63, 06_engines_shading.md R160). -/
def State.frameTaken (s : State) (i : Nat) (x : Slot) (samples : List Nat) (lamp status : Nat) : State :=
  let s := s.tileWarn i status
  if s.sealedOut x then s
  else if (s.eng i).restarting.isSome then s.frameLost i x
  else if x.time then s.acceptTime i x.line x.capture samples lamp
  else s.acceptLine i x.line samples lamp

/-- The blocks have the form of one frame (R56, R64). -/
def frameShape (blocks : List LaneBlock) : Bool :=
  blocks.length = 367 &&
    (mapIdxFrom (fun k (b : LaneBlock) => b.sync == (if k = 0 ∨ k = 366 then 2#2 else 1#2)) 0 blocks).all id

/-- A frame's words as header, payload words and trailer; an injected error inverts bit 0 of payload word 0 (R90). -/
def wordsRead (ws : List Nat) (inject : Bool) : Nat × List Nat × Nat :=
  let pay := (ws.drop 1).take 365
  let pay := if inject then (match pay with
    | w :: l => Nat.xor w 1 :: l
    | [] => []) else pay
  (nthD 0 ws 0, pay, nthD 0 ws 366)

/-- A frame as descrambled. -/
def frameRead (prev : BitVec 58) (blocks : List LaneBlock) (inject : Bool) : Nat × List Nat × Nat :=
  wordsRead (runWords descramBit prev.toNat (blocks.map (fun b => b.bits.toNat))).1 inject

/-- The frame with header `h` passes the checks of its slot, or the field that counts its discard (R64). `line` is the
scheduler's number for the window. -/
def State.frameCheck (s : State) (i h trailer : Nat) (pay : List Nat) (line : Nat) : Option Fld :=
  if bitsOf trailer 24 32 ≠ frameCrc h pay then some F.TILE_FRAME_CRC_ERR_COUNT
  else if bitsOf h 8 9 ≠ i || bitAt trailer 17 || (bitAt h 49 && s.op.inJob) || bitsOf h 41 8 ≠ (s.lane i).expSeq
      || bitsOf h 17 24 ≠ line % 2 ^ 24 then some F.TILE_FRAME_FMT_ERR_COUNT
  else none

/-- The EXP_SEQ expected after a frame (R65). -/
def State.seqAfter (s : State) (i h trailer : Nat) (pay : List Nat) : Nat :=
  let e := (s.lane i).expSeq
  if bitsOf trailer 24 32 ≠ frameCrc h pay then e + 1 else bitsOf h 41 8 + 1

/-- The line number that a lane expects outside a window (R88). Assumption log 160. -/
def State.loopLine (s : State) : Nat := s.fld F.SCHED_LINE_LINE

/-- The words of the lane's frame generator (R88): TILE_ID is the lane's index, LINE_LO and EXP_SEQ are those that the lane expects, the
payload is that of TEST_PATTERN 1, and the CRC is valid. -/
def State.loopWords (s : State) (i : Nat) : List Nat :=
  let n := s.loopLine % 2 ^ 24
  frameWords (frameHeader i n (s.lane i).expSeq true) (testSamples n) 0 0

/-- A frame of a lane in near-end loopback (R88): it enters the engine as a tile frame does. The parallel loopback feeds the
generator's words to the block decoder; through the serial one the receiver delivers `blocks`. -/
def State.loopFrame (s : State) (i : Nat) (prev : BitVec 58) (blocks : List LaneBlock) : State :=
  let inject := (s.lane i).injectNext
  let parallel := s.fld F.TILE_LANE_CTRL_LOOPBACK i = 2
  let (h, pay, tr) := if parallel then wordsRead (s.loopWords i) inject else frameRead prev blocks inject
  let bad := if !parallel && !frameShape blocks then some F.TILE_FRAME_FMT_ERR_COUNT else s.frameCheck i h tr pay s.loopLine
  let next := s.seqAfter i h tr pay
  let s := s.modLane i (fun l => { l with expSeq := next % 256, injectNext := false })
  match bad with
  | some f => s.count f i
  | none => if s.quad i = .summer then (s.engineFrame i (unpackWords 122 pay) (tr % 4096)).1 else s

/-- A frame in its slot (R64 to R66). -/
def State.slotFrame (s : State) (i : Nat) (x : Slot) (prev : BitVec 58) (blocks : List LaneBlock) : State :=
  let inject := (s.lane i).injectNext
  let s := s.modLane i (fun l => { l with injectNext := false })
  if !frameShape blocks then s.slotFails i x F.TILE_FRAME_FMT_ERR_COUNT ((s.lane i).expSeq + 1)
  else
    let (h, pay, tr) := frameRead prev blocks inject
    let bad := s.frameCheck i h tr pay x.line
    let next := s.seqAfter i h tr pay
    let crcOk := bitsOf tr 24 32 = frameCrc h pay
    let s := if crcOk && bitsOf h 8 9 ≠ i then
        (s.modLane i (fun l => { l with misId := true })).setFld F.TILE_LANE_STATUS_ID_MISMATCH 1 i
      else s
    match bad with
    | some f => s.slotFails i x f next
    | none =>
      (s.modLane i (fun l => { l with slot := none, expSeq := next % 256 })).frameTaken i x
        (unpackWords 122 pay) (tr % 4096) (bitsOf tr 16 8)

/-- The slot of a window runs from FRAME_DELAY × 100 − 2,000 ns to FRAME_DELAY × 100 + 4,000 ns after its falling edge (R64). -/
def State.slotEnd (s : State) (i : Nat) (x : Slot) : Nat := x.fall + 100 * identDelay (s.lane i).ident + 4000
def State.slotHolds (s : State) (i : Nat) (x : Slot) : Bool :=
  decide (x.fall + 100 * identDelay (s.lane i).ident ≤ s.tb + 2000) && decide (s.tb ≤ s.slotEnd i x)

/-- A frame of the slot may be in progress (R54): its header has had its time to come, and its last block not. -/
def State.frameUnder (s : State) (i : Nat) (x : Slot) : Bool :=
  decide (x.fall + 100 * identDelay (s.lane i).ident ≤ s.tb + 2000) && decide (s.tb ≤ s.slotEnd i x + 19378)

/-- A lane loses lock (R54, R472): a frame in progress in its slot is discarded (assumption log 188), and re-acquisition begins at
once. PHASE_LOCK clears whichever of the two cases of R54 it is: assumption log 158. -/
def State.laneLost (s : State) (i : Nat) (inFrame : Bool) : State :=
  if !s.bit F.TILE_LANE_STATUS_PHASE_LOCK i then s
  else
    let s := match inFrame, (s.lane i).slot with
      | true, some x => if s.frameUnder i x then s.slotFails i x F.TILE_FRAME_FMT_ERR_COUNT ((s.lane i).expSeq + 1) else s
      | _, _ => s
    let s := s.setFlds [(F.TILE_LANE_STATUS_PHASE_LOCK, 0), (F.TILE_LANE_STATUS_BLOCK_LOCK, 0), (F.TILE_LANE_STATUS_LOCK_LOST, 1)] i
    let s := s.count F.TILE_LOCK_LOSS_COUNT i
    let s := s.modLane i (fun l => { l with lostAt := some s.tb, train := l.train.map (fun (t : Train) => { t with lost := true }) })
    s.recovered 2 1 i 2 0 s.tb

/-- A header block arrives on lane `i` at TB_NOW with the blocks after it (R64). The frames of tiles outside the span are
received and discarded (02_sensor_bar.md R43), and counted nowhere: assumption log 161. -/
def State.frameReceived (s : State) (i : Nat) (prev : BitVec 58) (blocks : List LaneBlock) : State :=
  let first := (runWords descramBit prev.toNat ((blocks.take 1).map (fun b => b.bits.toNat))).1
  let isHeader := (blocks.take 1).any (fun b => b.sync == 2#2) && nthD 0 first 0 % 256 = 0xB4
  let loop := s.fld F.TILE_LANE_CTRL_LOOPBACK i
  if !s.laneUp i || !isHeader then s
  else if loop = 1 ∨ loop = 2 then s.loopFrame i prev blocks
  else if !s.bit F.TILE_LANE_STATUS_BLOCK_LOCK i || !s.inWork i then s
  else
    match (s.lane i).slot with
    | some x => if s.slotHolds i x then s.slotFrame i x prev blocks else s.count F.TILE_FRAME_FMT_ERR_COUNT i
    | none => s.count F.TILE_FRAME_FMT_ERR_COUNT i

/-- A slot ends without a header (R64). -/
def State.slotOver (s : State) (i : Nat) : State :=
  match (s.lane i).slot with
  | none => s
  | some x =>
    if s.tb < s.slotEnd i x then s
    else s.slotFails i x F.TILE_FRAME_MISSING_COUNT ((s.lane i).expSeq + 1)

end Sys2Proof.Machine
end

