-- ==== Sys2Proof/Machine/AlignOps.lean ====
section
/-! DEFINITION. Row alignment, x resampling and seam synthesis (07_alignment_seams.md): what JOB_ARM derives from a tile's
geometry, and the columns of an output line. -/

namespace Sys2Proof.Machine

/-! Geometry (R185 to R187). -/

/-- The 20 geometry bytes of a record read (08_calibration.md R212). -/
def geoOf (l : List Byte) (sites : Nat) : Geo :=
  let u := fun o => ofLe (slice l o 2)
  ⟨toSigned 16 (u 0), toSigned 16 (u 2), [u 4, u 6, u 8, 0], toSigned 16 (u 10), toSigned 16 (u 12), u 14, toSigned 16 (u 16),
    byteAt l 18, sites⟩

/-- The geometry in tile `i`'s record. -/
def State.recGeo (s : State) (i : Nat) : Geo := geoOf (s.recBytes i 64 20) (s.sites i)

/-- The geometry that JOB_ARM has loaded for tile `i` (R187, R199). -/
def State.geo (s : State) (i : Nat) : Geo := (s.eng i).geo

/-- JOB_ARM's load: the record positions of R187 and the coordinates of R199 are functions of it. -/
def State.loadGeo (s : State) (i : Nat) : State := s.modEng i (fun e => { e with geo := s.recGeo i })

/-- The tile's own geometry lies within R185. -/
def Geo.tileOk (g : Geo) : Bool :=
  decide (-3072 ≤ g.yOff) && decide (g.yOff ≤ 3072) && decide (-500 ≤ g.skew) && decide (g.skew ≤ 500)
    && decide (0 < nthD 0 g.d 2) && decide (nthD 0 g.d 2 < nthD 0 g.d 1) && decide (nthD 0 g.d 1 < nthD 0 g.d 0)
    && decide (nthD 0 g.d 0 < 2048) && decide (-512 ≤ g.xo) && decide (g.xo ≤ 1536)
    && decide (-2097 ≤ g.scale) && decide (g.scale ≤ 2097)

/-- The parameters of the joint to its right lie within R185. -/
def Geo.jointOk (g : Geo) : Bool := decide (g.gap ≤ 1024) && decide (-128 ≤ g.yDiff) && decide (g.yDiff ≤ 128)

/-- Q of row `r`, photosite `j` (R187), from one exact quotient. -/
def Geo.qPos (g : Geo) (bg : Nat) (skewOn : Bool) (r j : Nat) : Int :=
  let den : Nat := 256 * bg * (10 ^ 6 * 2 ^ 21)
  let base : Int := 64 * (g.yOff - nthD 0 g.d r + (256 * bg * g.delay bg r : Nat)) * (10 ^ 6 * 2 ^ 21)
  let sh : Int := if skewOn then 64 * 256 * g.skew * (2 * (j : Int) - 477) * (2 ^ 20 + g.scale) else 0
  rheDiv (base + sh) den

/-- The smallest and the largest ⌊Q/64⌋ of row `r` (R193): Q is linear in the photosite. -/
def Geo.loHi (g : Geo) (bg : Nat) (skewOn : Bool) (r : Nat) : Int × Int :=
  let a := (g.qPos bg skewOn r 0).fdiv 64
  let b := (g.qPos bg skewOn r 477).fdiv 64
  (minI a b, maxI a b)

/-- lo_i and hi_i over the four rows, and the smallest lo_i,r − I_r (R193). -/
def Geo.bounds (g : Geo) (bg : Nat) (skewOn : Bool) : Int × Int × Int :=
  let rs := (List.range 4).map (fun r => (g.loHi bg skewOn r, (g.delay bg r : Int)))
  rs.foldl (fun (a : Int × Int × Int) x => (minI a.1 x.1.1, maxI a.2.1 x.1.2, minI a.2.2 (x.1.1 - x.2)))
    (10 ^ 6, -(10 ^ 6), 10 ^ 6)

/-- U_i(c) (R199). -/
def Geo.uPos (g : Geo) (i c : Nat) : Int :=
  rheDiv (64 * (256 * (2 * ((c : Int) - 480 * i) + 1) - 2 * g.xo) * 2 ^ 20) ((512 * (2 ^ 20 + g.scale)).toNat)

/-- Column `c` is interior to tile `i` (R199). -/
def Geo.interior (g : Geo) (i c : Nat) : Bool :=
  decide (0 ≤ g.uPos i c) && decide (g.uPos i c ≤ 64 * ((g.sites : Int) - 1))

/-- The first and the last interior column (R200). -/
def Geo.first (g : Geo) (i : Nat) : Nat :=
  (((List.range 40).map (fun k => 480 * i + k - 8)).find? (g.interior i)).getD (480 * i)
def Geo.last (g : Geo) (i : Nat) : Nat :=
  (((List.range 60).map (fun k => 480 * i + 500 - k)).find? (g.interior i)).getD (480 * i + 479)

/-- c_lo and c_hi of the joint between tiles `k` and `k + 1` (R200): a column interior to both belongs to the left tile. -/
def jointColsOf (a b : Geo) (k : Nat) : Nat × Nat :=
  let lo := a.last k
  (lo, max (lo + 1) (b.first (k + 1)))

/-- The same from the loaded geometry. -/
def State.jointCols (s : State) (k : Nat) : Nat × Nat := jointColsOf (s.geo k) (s.geo (k + 1)) k

/-- The first and last tiles of the job's span. -/
def State.spanEnds (s : State) : Nat × Nat := (s.job.first, s.job.first + s.job.count - 1)

/-- The columns that engine `i` produces from its own photosites (R200): from the first to the last. -/
def State.ownCols (s : State) (i : Nat) : Nat × Nat :=
  let (a, b) := s.spanEnds
  (if i = a then 480 * i else (s.jointCols (i - 1)).2, if i = b then 480 * i + 479 else (s.jointCols i).1)

/-! Checks and registers of JOB_ARM (R189, R193, R194, R201, R210). -/

/-- SKEW_EN of the job. -/
def State.skewOn (s : State) : Bool := s.bit F.PIPE_ALIGN_CFG_SKEW_EN

/-- The joints inside the span, by their left tile. -/
def State.joints (s : State) : List Nat := (List.range (s.job.count - 1)).map (· + s.job.first)

/-- hi_max over the span (R193). -/
def State.hiMax (s : State) : Int :=
  s.span.foldl (fun m i => maxI m ((s.recGeo i).bounds s.gridFactor s.skewOn).2.1) (-(10 ^ 6))

/-- LAT, PRIME and NEED_i (R193). -/
def State.latOf (s : State) : Nat := (s.hiMax + 4).toNat
def State.primeOf (s : State) : Nat :=
  (3 - s.span.foldl (fun m i => minI m ((s.recGeo i).bounds s.gridFactor s.skewOn).2.2) (10 ^ 6)).toNat
def State.needOf (s : State) (i : Nat) : Nat := (s.hiMax - ((s.recGeo i).bounds s.gridFactor s.skewOn).1 + 4).toNat

/-- The row records that tile `i` needs (R189). -/
def State.rowRecs (s : State) (i : Nat) : Nat := sumN ((List.range 3).map ((s.recGeo i).delay s.gridFactor))

/-- The columns that cross the right boundary of engine `k`, positive toward the right (R210). -/
def State.colCross (s : State) (k : Nat) : Int := ((jointColsOf (s.recGeo k) (s.recGeo (k + 1)) k).2 : Int) - 480 * (k + 1)

/-- The checks of geometry at JOB_ARM, in tile order: the status with which JOB_ARM fails, or none (R189, R194, R201). -/
def State.alignCheck (s : State) : Option (Nat × State) :=
  let s := s.setFlds [(F.PIPE_ALIGN_STATUS_FAIL_TILE, 0), (F.PIPE_ALIGN_STATUS_LINE_REC_OVER, 0),
    (F.PIPE_ALIGN_STATUS_ROW_REC_OVER, 0), (F.PIPE_ALIGN_STATUS_COL_OVER, 0), (F.PIPE_ALIGN_STATUS_GEOM_RANGE, 0)]
  let fail := fun (f : Fld) (i st : Nat) => some (st, s.setFlds [(f, 1), (F.PIPE_ALIGN_STATUS_FAIL_TILE, i)])
  match s.span.find? (fun i => !(s.recFlag i 0 && (s.recGeo i).tileOk)) with
  | some i => fail F.PIPE_ALIGN_STATUS_GEOM_RANGE i stBadParam
  | none =>
    match s.joints.find? (fun k => !s.jointRange k && !(s.recGeo k).jointOk) with
    | some k => fail F.PIPE_ALIGN_STATUS_GEOM_RANGE k stBadParam
    | none =>
      match s.joints.find? (fun k => decide (8 < (s.colCross k).natAbs)) with
      | some k => fail F.PIPE_ALIGN_STATUS_COL_OVER k stBadParam
      | none =>
        match s.span.find? (fun i => decide (12 < s.rowRecs i)) with
        | some i => fail F.PIPE_ALIGN_STATUS_ROW_REC_OVER i stResource
        | none =>
          match s.span.find? (fun i => decide (24 < s.needOf i)) with
          | some i => fail F.PIPE_ALIGN_STATUS_LINE_REC_OVER i stResource
          | none => none

/-- The flags of the last check cleared (R210). -/
def State.alignClear (s : State) : State :=
  s.setFlds [(F.PIPE_ALIGN_STATUS_FAIL_TILE, 0), (F.PIPE_ALIGN_STATUS_LINE_REC_OVER, 0),
    (F.PIPE_ALIGN_STATUS_ROW_REC_OVER, 0), (F.PIPE_ALIGN_STATUS_COL_OVER, 0), (F.PIPE_ALIGN_STATUS_GEOM_RANGE, 0)]

/-- LAT and PRIME of the job shown (R193). -/
def State.showLat (s : State) : State :=
  s.alignClear.setFlds [(F.PIPE_ALIGN_STATUS_LAT, s.latOf), (F.PIPE_ALIGN_STATUS_PRIME, s.primeOf)]

/-- A quotient of R186 in 8.8 job lines, for display. -/
def show8 (v : Int) (bg w : Nat) : Nat := ofSigned w (rheDiv v bg)

/-- The geometry registers of a span tile (R210). -/
def State.showGeo (s : State) (i : Nat) : State :=
  let g := s.geo i
  let bg := s.gridFactor
  let d := fun (r : Nat) => show8 ((nthD 0 g.d r : Nat) : Int) bg 16
  let seam := decide (i < s.spanEnds.2)
  let cols := s.jointCols i
  let s := s.setFlds [(F.TILE_ALIGN_Y_Y_OFF, show8 g.yOff bg 16), (F.TILE_ALIGN_Y_SKEW, ofSigned 16 g.skew),
    (F.TILE_ALIGN_ROW0_D_RED, d 0), (F.TILE_ALIGN_ROW0_D_GRN, d 1), (F.TILE_ALIGN_ROW1_D_BLU, d 2),
    (F.TILE_ALIGN_ROW1_ROW_RECS, s.rowRecs i), (F.TILE_ALIGN_ROW1_NEED, s.needOf i),
    (F.TILE_ALIGN_X_XO, ofSigned 16 g.xo), (F.TILE_ALIGN_X_SCALE, ofSigned 16 g.scale)] i
  if seam then
    s.setFlds [(F.TILE_JOINT_GAP, g.gap), (F.TILE_JOINT_YDIFF, show8 g.yDiff bg 16), (F.TILE_JOINT_CFG_CONF, g.conf),
      (F.TILE_JOINT_CFG_G, cols.2 - cols.1 - 1), (F.TILE_JOINT_CFG_SEAM, 1),
      (F.TILE_JOINT_CFG_CROSS, ofSigned 5 ((cols.2 : Int) - 480 * (i + 1)))] i
  else s

/-! The filters (R190 to R192, R199). -/

/-- The weight set w[t] (R191). -/
def cubicW (t : Nat) : List Int :=
  let x : Int := t
  let w0 := rheDiv (-(x ^ 3) + 128 * x ^ 2 - 4096 * x) 32
  let w2 := rheDiv (-3 * x ^ 3 + 256 * x ^ 2 + 4096 * x) 32
  let w3 := rheDiv (x ^ 3 - 64 * x ^ 2) 32
  [w0, 16384 - w0 - w2 - w3, w2, w3]

/-- A sample on its way to a line: its value and what its taps read, as bits: 0 INVALID, 1 SAT, 2 LAMP_FAULT, 3 DRIFT_HOLD,
4 and 5 an exposure corrected with bank A and with bank B. -/
structure Smp where
  v : Nat
  fl : Nat
  deriving DecidableEq, Repr

/-- The bits that a row gives its readers. -/
def Row.bits (r : Row) : Nat :=
  b2n r.inv + 2 * b2n r.sat + 4 * b2n r.lampF + 8 * b2n r.drift + (if r.inv then 0 else 16 * (r.bank + 1))

/-- Four taps weighted (R190, R199), and whether the result clamped. -/
def tap4 (w : List Int) (a b c d : Smp) : Smp × Bool :=
  let acc := nthD 0 w 0 * a.v + nthD 0 w 1 * b.v + nthD 0 w 2 * c.v + nthD 0 w 3 * d.v
  let y := rheDiv acc (2 ^ 14)
  (⟨(clampI 0 65535 y).toNat, Nat.lor (Nat.lor a.fl b.fl) (Nat.lor c.fl d.fl)⟩, decide (y < 0 ∨ 65535 < y))

/-- Row `r` of line record `k` of an engine; a record it does not hold is absent. -/
def Eng.recRow (e : Eng) (r : Nat) (k : Int) : Row :=
  match e.recs.find? (fun x => (x.k : Int) = k) with
  | some x => nthD (emptyRow x.k) x.rows r
  | none => emptyRow k.toNat

/-- The aligned samples of row `r` of output line `n` (R190), and how many clamped. -/
def State.alignRow (s : State) (i r : Nat) (n : Int) : List Smp × Nat :=
  let g := s.geo i
  let bg := s.gridFactor
  let e := s.eng i
  let at_ := fun (k : Int) (j : Nat) => let x := e.recRow r k; (⟨nthD 0 x.v j, x.bits⟩ : Smp)
  let out := (List.range 478).map (fun j =>
    let q := g.qPos bg s.skewOn r j
    let k0 := q.fdiv 64
    let k := fun (o : Int) => n + k0 + o
    tap4 (cubicW (q - 64 * k0).toNat) (at_ (k (-1)) j) (at_ (k 0) j) (at_ (k 1) j) (at_ (k 2) j))
  (out.map (·.1), (out.filter (·.2)).length)

/-- Column `c` from the aligned samples of tile `i` (R199). -/
def Geo.column (g : Geo) (i c : Nat) (y : List Smp) : Smp × Bool :=
  let u := g.uPos i c
  let j0 := u.fdiv 64
  let p := fun (o : Int) => nthD ⟨0, 1⟩ y (clampI 0 ((g.sites : Int) - 1) (j0 + o)).toNat
  tap4 (cubicW (u - 64 * j0).toNat) (p (-1)) (p 0) (p 1) (p 2)

/-- A column's four channels. -/
abbrev Col := List Smp

/-- The columns from `a` to `b` of tile `i` in line `n`, and how many samples clamped. -/
def State.tileCols (s : State) (i : Nat) (n : Int) (a b : Nat) : List Col × Nat :=
  let g := s.geo i
  let rows := (List.range 4).map (fun r => s.alignRow i r n)
  let cols := (List.range (b + 1 - a)).map (fun k => rows.map (fun y => g.column i (a + k) y.1))
  (cols.map (fun c => c.map (·.1)), sumN (rows.map (·.2)) + sumN (cols.map (fun c => (c.filter (·.2)).length)))

/-! Seam synthesis (R202 to R206). -/

/-- The guide of a column (R202), and its flags. -/
def guide (c : Col) : Smp :=
  let at_ := fun k => nthD ⟨0, 1⟩ c k
  ⟨(at_ 0).v + 2 * (at_ 1).v + (at_ 2).v, Nat.lor (Nat.lor (at_ 0).fl (at_ 1).fl) (at_ 2).fl⟩

/-- A sample at a fractional line (R203): `q` in 1/64 line from `n`, `v` the samples of lines n − 2 to n + 2. -/
def fracSmp (q : Int) (v : List Smp) : Smp :=
  let m0 := q.fdiv 64
  let f := q - 64 * m0
  let at_ := fun (o : Int) => nthD ⟨0, 1⟩ v (2 + m0 + o).toNat
  if f = 0 then at_ 0
  else ⟨(rheDiv ((64 - f) * (at_ 0).v + f * (at_ 1).v) 64).toNat, Nat.lor (at_ 0).fl (at_ 1).fl⟩

/-- A joint with its window: c_lo, c_hi, YDIFF, CONF, the grid factor, and per window line (n − 2 to n + 2) the left and right
columns left(1..4) and right(1..4) (R202). -/
structure Joint where
  lo : Nat
  hi : Nat
  yd : Int
  conf : Nat
  bg : Nat
  lefts : List (List Col)
  rights : List (List Col)
  deriving DecidableEq, Repr

/-- cost(d) (R204). -/
def Joint.cost (x : Joint) (d : Int) : Nat :=
  sumN ((List.range 4).map (fun (m : Nat) =>
    let cl : Int := (x.lo : Int) - m
    let cr : Int := (x.hi : Int) + m
    let mid : Int := x.lo + x.hi
    let col := fun (ls : List (List Col)) => ls.map (fun l => guide (nthD [] l m))
    let gl := fracSmp (rheDiv (64 * d * (2 * cl - mid)) 24) (col x.lefts)
    let gr := fracSmp (rheDiv (64 * d * (2 * cr - mid) * x.bg + 6 * x.yd) (24 * x.bg)) (col x.rights)
    ((gl.v : Int) - gr.v).natAbs))

/-- The directions in the order in which ties are settled (R204): the smaller |d| first, −d before +d. -/
def dirOrder : List Int := [0, -1, 1, -2, 2, -3, 3]

/-- d* (R204). -/
def Joint.best (x : Joint) : Int :=
  (dirOrder.foldl (fun (b : Int × Nat) d => let c := x.cost d; if c < b.2 then (d, c) else b) (0, x.cost 0)).1

/-- A window sample comes from an invalid column. -/
def Joint.winInvalid (x : Joint) : Bool :=
  (x.lefts ++ x.rights).any (fun l => l.any (fun c => c.any (fun v => bitAt v.fl 0)))

/-- The direction used, and whether the joint-line fell back (R204). -/
def State.seamDir (s : State) (x : Joint) : Int × Bool :=
  if !s.bit F.PIPE_ALIGN_CFG_SEAM_DIR then (0, false)
  else
    let d := x.best
    if s.fld F.PIPE_ALIGN_CFG_CONF_MIN ≤ x.conf ∧ x.cost d + s.fld F.PIPE_SEAM_MARGIN_MARGIN ≤ x.cost 0 ∧ !x.winInvalid then
      (d, false)
    else (0, true)

/-- The joint columns (R205). -/
def Joint.cols (x : Joint) (d : Int) : List Col :=
  let den := x.hi - x.lo
  (List.range (den - 1)).map (fun k =>
    let c := x.lo + 1 + k
    let a := k + 1
    (List.range 4).map (fun ch =>
      let chan := fun (ls : List (List Col)) => ls.map (fun l => nthD ⟨0, 1⟩ (nthD [] l 0) ch)
      let vl := fracSmp (rheDiv (64 * d * ((x.lo : Int) - c)) 12) (chan x.lefts)
      let vh := fracSmp (rheDiv (64 * d * ((x.hi : Int) - c) * x.bg + 3 * x.yd) (12 * x.bg)) (chan x.rights)
      (⟨(rheDiv (((den - a) * vl.v + a * vh.v : Nat) : Int) den).toNat, Nat.lor vl.fl vh.fl⟩ : Smp)))

/-- The window of the joint to the right of tile `k` at line `n` (R202). -/
def State.jointAt (s : State) (k n : Nat) : Joint :=
  let (lo, hi) := s.jointCols k
  let g := s.geo k
  let lines := (List.range 5).map (fun (o : Nat) => (n : Int) + o - 2)
  ⟨lo, hi, g.yDiff, g.conf, s.gridFactor, lines.map (fun m => ((s.tileCols k m (lo - 3) lo).1).reverse),
    lines.map (fun m => (s.tileCols (k + 1) m hi (hi + 3)).1)⟩

/-- The joint columns of line `n` right of tile `k`, with what the registers show of it (R204, R210). -/
def State.seam (s : State) (k n : Nat) : List Col × State :=
  let x := s.jointAt k n
  let (d, fell) := s.seamDir x
  let cols := x.cols d
  let inv := cols.any (fun c => c.any (fun v => bitAt v.fl 0))
  let s := if fell then s.count F.PIPE_SEAM_FALLBACK_CNT_COUNT else s
  (cols, s.setFlds [(F.TILE_JOINT_LAST_DIR, (d + 3).toNat), (F.TILE_JOINT_LAST_FALLBACK, b2n fell),
    (F.TILE_JOINT_LAST_INVALID, b2n inv)] k)

/-- Every column of the span in line `n`, left to right (R200), with the counts of its making. -/
def State.lineCols (s : State) (n : Nat) : List Col × State :=
  s.span.foldl (fun (a : List Col × State) i =>
    let (lo, hi) := a.2.ownCols i
    let (cols, clamps) := a.2.tileCols i (n : Int) lo hi
    let s := a.2.count F.PIPE_RESAMPLE_CLAMP_CNT_COUNT 0 clamps
    if i = s.spanEnds.2 then (a.1 ++ cols, s)
    else
      let (joint, s) := s.seam i n
      (a.1 ++ cols ++ joint, s)) ([], s)

end Sys2Proof.Machine
end

