-- ==== Sys2Proof/Machine/AnaOps.lean ====
section
/-! DEFINITION. The colour stage and the print-quality analytics (09_output_analytics.md R239 to R266): streaks, reference
compare, bands, verdict records, the verdict unit and the event pins. -/

namespace Sys2Proof.Machine

/-! The colour stage (R239 to R242). -/

/-- A column after the colour stage: matrix output o, table output l, analytics value a, its flags, and the clamps of R239. -/
structure ColPx where
  o : List Nat
  l : List Nat
  a : Nat
  fl : Nat
  clamps : Nat
  deriving DecidableEq, Repr

/-- M[i][j], signed 4.12 (R267): entry 4i + j is a half of PIPE_CMX k = (4i + j) / 2. -/
def State.cmx (s : State) (i j : Nat) : Int :=
  let e := 4 * i + j
  s.sfld (if e % 2 = 0 then F.PIPE_CMXk_LO else F.PIPE_CMXk_HI) (e / 2)

/-- OFF_i. -/
def State.coff (s : State) (i : Nat) : Int :=
  match i with
  | 0 => s.sfld F.PIPE_COFF_RG_RED
  | 1 => s.sfld F.PIPE_COFF_RG_GRN
  | 2 => s.sfld F.PIPE_COFF_BN_BLU
  | _ => s.sfld F.PIPE_COFF_BN_NIR

/-- o_i before its clamp (R239). -/
def matrixOut (m : List Int) (off : Int) (v : List Nat) : Int :=
  rheDiv (sumI ((m.zip v).map (fun e => e.1 * e.2)) + off * 2 ^ 12) (2 ^ 12)

/-- Entry `k` of table `ch` of engine `i` (R241). -/
def State.lutAt (s : State) (i ch k : Nat) : Nat := ofLe (s.readMem (spaceTable + i * 2 ^ 18 + 8192 * ch + 2 * k) 2)

/-- l_i (R240), from the two entries around o_i. -/
def lutOut (o lk lk1 : Nat) : Nat :=
  let f := o % 16
  (rheDiv ((((16 - f) * lk + f * lk1 : Nat)) : Int) 16).toNat

/-- The analytics value (R242). -/
def anaValue (chan : Nat) (o : List Nat) : Nat :=
  if chan = 4 then (rheDiv ((nthD 0 o 0 + 2 * nthD 0 o 1 + nthD 0 o 2 : Nat) : Int) 4).toNat else nthD 0 o chan

/-- A column of engine `i` through the colour stage. -/
def State.colour (s : State) (i : Nat) (c : Col) : ColPx :=
  let v := c.map (·.v)
  let raw := (List.range 4).map (fun r => matrixOut ((List.range 4).map (s.cmx r)) (s.coff r) v)
  let o := raw.map (fun x => (clampI 0 65535 x).toNat)
  let en := s.fld F.PIPE_LUT_CFG_EN
  let l := mapIdxFrom (fun ch (x : Nat) =>
    if bitAt en ch then lutOut x (s.lutAt i ch (x / 16)) (s.lutAt i ch (min (x / 16 + 1) 4095)) else x) 0 o
  ⟨o, l, anaValue (s.fld F.ANA_CFG_CHAN) o, c.foldl (fun a x => Nat.lor a x.fl) 0,
    (raw.filter (fun x => decide (x < 0) || decide (65535 < x))).length⟩

/-- A column is invalid in its line (07_alignment_seams.md R196). -/
def ColPx.inv (c : ColPx) : Bool := bitAt c.fl 0

/-! Verdict records (R261). -/

/-- The types of a verdict record. -/
def vStreak : Nat := 1
def vBand : Nat := 2
def vBlob : Nat := 3
def vLamp : Nat := 4
def vSpan : Nat := 5

/-- FLAGS bits: ONSET, CLEAR, DARK, RESTART. -/
def fOnset : Nat := 1
def fClear : Nat := 2
def fDark : Nat := 4
def fRestart : Nat := 8

/-- A record of line `n`. -/
def verdict (n type flags start stop mag conf : Nat) : List Byte :=
  be 4 n ++ be 1 type ++ be 1 flags ++ be 3 start ++ be 3 stop ++ be 2 (min 65535 mag) ++ be 1 (min 255 conf) ++ be 1 (n / 2 ^ 32)

def recType (r : List Byte) : Nat := byteAt r 4
def recStart (r : List Byte) : Nat := beAt r 6 3
def recStop (r : List Byte) : Nat := beAt r 9 3
def recMag (r : List Byte) : Nat := beAt r 12 2
def recConf (r : List Byte) : Nat := byteAt r 14

/-- A change of state of one column or block: its index, the sign kept, and what its record would say. -/
structure Chg where
  k : Nat
  dark : Bool
  mag : Nat
  conf : Nat
  deriving DecidableEq, Repr

/-- Maximal runs of adjacent changes of one sign (R254): first and last index, and the changes. -/
def runsOf : List Chg → List (List Chg)
  | [] => []
  | c :: l =>
    match runsOf l with
    | (d :: r) :: rest => if c.k + 1 = d.k ∧ c.dark = d.dark then (c :: d :: r) :: rest else [c] :: (d :: r) :: rest
    | rest => [c] :: rest

/-- The change with the largest key of a run, the leftmost on a tie (R254). -/
def topOf (key : Chg → Nat) (l : List Chg) : Chg :=
  l.foldl (fun b c => if key b < key c then c else b) ((l.head?).getD ⟨0, false, 0, 0⟩)

/-! Streaks (R251 to R255). -/

/-- A mirrored column index within the 480 owned ones (R251). -/
def mirror (k : Int) : Nat := (if k < 0 then -k else if 479 < k then 958 - k else k).toNat

/-- The four neighbours of column `k`. -/
def neighbours (k : Nat) : List Nat := [mirror ((k : Int) - 3), mirror ((k : Int) - 2), mirror ((k : Int) + 2), mirror ((k : Int) + 3)]

/-- MU and V after a line (R251): `a` the column's value, `sum4` its neighbours' sum, `sh` the shift S. -/
def streakStats (x : Streak) (a sum4 sh : Nat) : Int × Nat :=
  let d := (a : Int) - rheDiv sum4 4
  let e := 256 * d - x.mu
  (x.mu + rheDiv e (2 ^ sh), clampU 32 ((x.v : Int) + rheDiv (rheDiv (e * e) (2 ^ 24) - x.v) (2 ^ sh)))

/-- The settings of the streak statistic. -/
structure StreakCfg where
  shift : Nat
  persist : Nat
  clearN : Nat
  minLevel : Nat
  zsq : Nat
  deriving DecidableEq, Repr

/-- Candidacy (R253). -/
def streakCand (c : StreakCfg) (mu : Int) (v upd : Nat) : Bool :=
  decide (2 ^ (c.shift + 1) ≤ upd) && decide (256 * c.minLevel ≤ mu.natAbs) && decide (c.zsq * v * 2 ^ 12 ≤ mu.natAbs * mu.natAbs)

/-- A column's state after an update (R251 to R254). -/
def Streak.step (x : Streak) (c : StreakCfg) (a sum4 : Nat) : Streak :=
  let (mu, v) := streakStats x a sum4 c.shift
  let upd := min (x.upd + 1) 4096
  let cand := streakCand c mu v upd
  let x := { x with mu := mu, v := v, upd := upd, last := true }
  if x.active then
    let n := if cand then 0 else x.clear + 1
    if c.clearN ≤ n then { x with active := false, clear := 0, cand := 0 } else { x with clear := n }
  else
    let n := if cand then x.cand + 1 else 0
    if c.persist ≤ n then { x with active := true, cand := 0, clear := 0, dark := decide (mu < 0) } else { x with cand := n }

/-- z² of a column (R254). -/
def Streak.conf (x : Streak) : Nat := if x.v = 0 then 255 else min 255 (x.mu.natAbs * x.mu.natAbs / (x.v * 2 ^ 16))

/-- What a column's record would say (R254). -/
def Streak.chg (x : Streak) (k : Nat) : Chg := ⟨k, x.dark, x.mu.natAbs, x.conf⟩

/-- Streak records of a line for the columns that changed (R254); `e0` is the engine's first column. -/
def streakRecs (n e0 flags : Nat) (cs : List Chg) : List (List Byte) :=
  (runsOf cs).map (fun r =>
    let t := topOf (·.mag) r
    let a := ((r.head?).map (·.k)).getD 0
    let b := ((r.getLast?).map (·.k)).getD 0
    verdict n vStreak (flags + if t.dark then fDark else 0) (e0 + a) (e0 + b) (rheDiv t.mag 256).toNat t.conf)

/-- A table padded to `n` entries. -/
def padList {α : Type} (d : α) (n : Nat) (l : List α) : List α := l ++ List.replicate (n - l.length) d

def State.streakCfg (s : State) : StreakCfg :=
  ⟨s.fld F.ANA_STREAK_SHIFT, s.fld F.ANA_STREAK_PERSIST, s.fld F.ANA_STREAK_CLEAR_N, s.fld F.ANA_STREAK_MIN_LEVEL,
    s.fld F.ANA_STREAK_Z_ZSQ⟩

/-- The streak statistic of engine `i` over a line (R251 to R254): records, and whether any had its onset. -/
def State.streakLine (s : State) (i n : Nat) (cols : List ColPx) : State × List (List Byte) × Bool :=
  let old := padList ({} : Streak) 480 (s.eng i).streaks
  let cfg := s.streakCfg
  let new := mapIdxFrom (fun k (x : Streak) =>
    let ns := neighbours k
    let px := fun j => cols[j]?
    if (k :: ns).any (fun j => (px j).any ColPx.inv) then { x with last := false }
    else x.step cfg (((px k).map (·.a)).getD 0) (sumN (ns.map (fun j => ((px j).map (·.a)).getD 0)))) 0 old
  let pairs := mapIdxFrom (fun k (e : Streak × Streak) => (k, e.1, e.2)) 0 (old.zip new)
  let on := (pairs.filter (fun e => !e.2.1.active && e.2.2.active)).map (fun e => e.2.2.chg e.1)
  let off := (pairs.filter (fun e => e.2.1.active && !e.2.2.active)).map (fun e => e.2.2.chg e.1)
  (s.modEng i (fun e => { e with streaks := new }), streakRecs n (480 * i) fOnset on ++ streakRecs n (480 * i) fClear off,
    !on.isEmpty)

/-! Reference compare (R258 to R260). -/

/-- A block's sums over the columns of one line: RED, GRN, BLU of l, and whether any column is invalid. -/
def blockSums (cols : List ColPx) : List Nat :=
  ((List.range 3).map (fun ch => sumN (cols.map (fun c => nthD 0 c.l ch)))) ++ [b2n (cols.any ColPx.inv), 1]

/-- The 60 blocks of a line of an engine. -/
def blockLine (cols : List ColPx) : List (List Nat) := (List.range 60).map (fun q => blockSums ((cols.drop (8 * q)).take 8))

/-- Sums added over lines. -/
def addSums (a b : List (List Nat)) : List (List Nat) :=
  if a.isEmpty then b else (a.zip b).map (fun e => (e.1.zip e.2).map (fun x => x.1 + x.2))

/-- The block error E (R259), or none when the block is not compared. -/
def blockErr (sums : List Nat) (br : Nat) (ref : Option (List Nat)) : Option Nat :=
  match ref with
  | none => none
  | some rs =>
    if nthD 0 sums 3 ≠ 0 ∨ nthD 0 sums 4 ≠ br then none
    else some (maxN ((List.range 3).map (fun c =>
      (rheDiv (rheDiv ((nthD 0 sums c : Nat) : Int) (8 * br)) 257 - (nthD 0 rs c : Nat)).natAbs)))

/-- A block after a block row (R259): flagged at once, clear after CLEAR_N unflagged rows. -/
def Blob.step (x : Blob) (level clearN : Nat) (e : Option Nat) : Blob :=
  match e with
  | none => x
  | some e =>
    if level ≤ e then { x with active := true, clear := 0, err := e }
    else if x.active then
      (if clearN ≤ x.clear + 1 then { active := false, clear := 0, err := e } else { x with clear := x.clear + 1, err := e })
    else { x with err := e }

/-- BLOB records (R259). -/
def blobRecs (n e0 flags : Nat) (cs : List Chg) : List (List Byte) :=
  (runsOf cs).map (fun r =>
    let a := ((r.head?).map (·.k)).getD 0
    let b := ((r.getLast?).map (·.k)).getD 0
    verdict n vBlob flags (e0 + 8 * a) (e0 + 8 * b + 7) (topOf (·.mag) r).mag r.length)

/-- The row of line `n` and the line's place in it (R258). -/
def State.refRowOf (s : State) (n : Nat) : Option (Nat × Nat) :=
  let x : Int := n - s.sfld F.ANA_REF_LINE_OFF
  if s.bit F.ANA_CFG_REF_EN ∧ 0 ≤ x then some (x.toNat / s.refFactor, x.toNat % s.refFactor) else none

/-- Reference compare of engine `i` over a line: records, onset, blocks compared and flagged. -/
def State.refLine (s : State) (i n : Nat) (cols : List ColPx) : State × List (List Byte) × Bool × Nat × Nat :=
  match s.refRowOf n with
  | none => (s, [], false, 0, 0)
  | some (r, k) =>
    let e := s.eng i
    let br := s.refFactor
    let sums := addSums (if e.refNow = some r then e.refSum else []) (blockLine cols)
    let s := s.modEng i (fun e => { e with refSum := sums, refNow := some r })
    if k + 1 < br then (s, [], false, 0, 0)
    else
      let row := assocGet r e.refRows
      let pixel := fun (q : Nat) =>
        let p : Int := (60 * (i - s.job.first) + q : Nat) - s.sfld F.ANA_REF_COL_COL_OFF
        row.bind (fun bytes => if 0 ≤ p ∧ p < 60 * s.job.count then some ((slice bytes (3 * p.toNat) 3).map (·.toNat)) else none)
      let errs := mapIdxFrom (fun q x => blockErr x br (pixel q)) 0 sums
      let old := padList ({} : Blob) 60 e.blobs
      let new := (old.zip errs).map (fun x => x.1.step (s.fld F.ANA_REF_LEVEL) (s.fld F.ANA_REF_CLEAR_N) x.2)
      let pairs := mapIdxFrom (fun q (x : Blob × Blob) => (q, x.1, x.2)) 0 (old.zip new)
      let chg := fun (x : Nat × Blob × Blob) => (⟨x.1, false, x.2.2.err, 0⟩ : Chg)
      let on := (pairs.filter (fun x => !x.2.1.active && x.2.2.active)).map chg
      let off := (pairs.filter (fun x => x.2.1.active && !x.2.2.active)).map chg
      let flagged := (errs.filter (fun x => x.any (fun v => decide (s.fld F.ANA_REF_LEVEL ≤ v)))).length
      (s.modEng i (fun e => { e with blobs := new, refSum := [], refNow := none }),
        blobRecs n (480 * i) fOnset on ++ blobRecs n (480 * i) fClear off, !on.isEmpty, (errs.filter Option.isSome).length, flagged)

/-! A line's tree packet (R257, R266). -/

/-- The share of one engine in a line's tree packet: SUM, CNT, EVT, records, blocks compared and flagged. -/
structure Part where
  sum : Nat
  cnt : Nat
  evt : Nat
  recs : List (List Byte)
  blocks : Nat
  flagged : Nat
  deriving DecidableEq, Repr

/-- The columns of engine `i` have no update in this line (R256). -/
def State.noUpdate (s : State) (i : Nat) : State :=
  s.modEng i (fun e => { e with streaks := e.streaks.map (fun (x : Streak) => { x with last := false }) })

/-- The engine presents identities to the tree for line `n` (06_engines_shading.md R155): it is being restarted, or has accepted no frame
of exposure `n`. -/
def State.idleIn (s : State) (i n : Nat) : Bool := (s.eng i).restarting.isSome || ((s.eng i).recRow 3 n).inv

/-- One engine's analytics of output line `n` over its 480 owned columns (R251 to R259, R262, R266). A line already analysed
before a seal leaves the statistics as they are (11_reseam.md R309). An engine that presents identities adds its records alone. -/
def State.engineLine (s : State) (i n : Nat) (counted : Bool) (cols : List ColPx) : State × Part :=
  let good := cols.filter (fun c => !c.inv)
  let sum := sumN (good.map (fun c => (rheDiv c.a 16).toNat))
  let box := (s.eng i).outbox
  let s := s.modEng i (fun e => { e with outbox := [] })
  let lampOn := box.any (fun r => recType r = vLamp && byteAt r 5 % 2 = 1)
  let r1 : State × List (List Byte) × Bool :=
    if counted && s.bit F.ANA_CFG_STREAK_EN then s.streakLine i n cols else (s.noUpdate i, [], false)
  let s := r1.1
  let r2 : State × List (List Byte) × Bool × Nat × Nat := if counted then s.refLine i n cols else (s, [], false, 0, 0)
  let s := r2.1
  let e := s.eng i
  let evt := b2n r1.2.2 + 4 * b2n r2.2.2.1 + 8 * b2n lampOn + 256 * b2n (e.streaks.any (·.active)) + 1024 * b2n (e.blobs.any (·.active))
    + 2048 * b2n e.lampLow
  let recs := box ++ r1.2.1 ++ r2.2.1
  (s, if s.idleIn i n then ⟨0, 0, 0, recs, 0, 0⟩ else ⟨sum, good.length, evt, recs, r2.2.2.2.1, r2.2.2.2.2⟩)

/-! The verdict unit (R257, R261 to R264). -/

/-- A list in ascending order of a key, entries of one key as they came. -/
def insKey {α : Type} (key : α → Nat) (x : α) : List α → List α
  | [] => [x]
  | a :: l => if key x ≤ key a then x :: a :: l else a :: insKey key x l
def sortKey {α : Type} (key : α → Nat) (l : List α) : List α := l.foldr (insKey key) []

/-- What must agree for two records to be merged (R262): line, type and FLAGS. -/
def recKind (r : List Byte) : Nat := ofBe (slice r 0 6) * 256 + byteAt r 15

/-- Records that touch across an engine boundary merged (R262), in ascending order of kind and START. -/
def mergeRecs : List (List Byte) → List (List Byte)
  | [] => []
  | r :: l =>
    match mergeRecs l with
    | [] => [r]
    | q :: rest =>
      if recKind r = recKind q ∧ recStop r + 1 = recStart q ∧ recStart q % 480 = 0 then
        (r.take 9 ++ slice q 9 3 ++ (if recMag r < recMag q then slice q 12 3 else slice r 12 3) ++ r.drop 15) :: rest
      else r :: q :: rest

/-- The records of a line as the ring gets them (R262), and how many were left out. -/
def collectRecs (n : Nat) (rs : List (List Byte)) : List (List Byte) × Nat :=
  let merged := mergeRecs (sortKey (fun r => recKind r * 2 ^ 24 + recStart r) rs)
  let sorted := sortKey (fun r => recType r * 2 ^ 24 + recStart r) merged
  let rest := sorted.drop 32
  if rest.isEmpty then (sorted, 0)
  else
    (sorted.take 32 ++ [verdict n vSpan 0x40 (minND (2 ^ 24 - 1) (rest.map recStart)) (maxN (rest.map recStop)) rest.length
      (maxN (rest.map recConf))], rest.length)

/-- The settings of the band test as they stand (R268). -/
def State.bandCfg (s : State) : BandCfg :=
  ⟨s.bit F.ANA_CFG_BAND_EN, s.fld F.ANA_BAND_SHIFT, s.fld F.ANA_BAND_PERSIST, s.fld F.ANA_BAND_MAX_LINES, s.fld F.ANA_BAND_LEVEL⟩

/-- The band test of a line (R257): the state, its records, and ONSET. -/
def State.bandTest (s : State) (x : Tree) : State × List (List Byte) × Bool :=
  let w := 480 * s.job.count
  let c := x.band
  if !c.en || !x.counted || decide (2 * x.cnt < w) then (s, [], false)
  else
    let m := rheDiv (16 * x.sum : Nat) x.cnt
    let b : Int := s.fld F.ANA_BAND_REF_B
    let setB := fun (s : State) (v : Int) => s.setFld F.ANA_BAND_REF_B (clampU 32 v)
    let fresh := !s.ana.bandSet || (s.ana.bankWait && x.oneBank)
    if fresh then
      (setB { s with ana := { s.ana with bandSet := true, bankWait := s.ana.bankWait && !x.oneBank, cand := 0 } } (256 * m), [], false)
    else
      let dl := m - rheDiv b 256
      let cand := decide (c.level ≤ dl.natAbs)
      let rec_ := fun (flags : Nat) => verdict x.line vBand (flags + if dl < 0 then fDark else 0) (480 * s.job.first)
        (480 * s.job.first + w - 1) dl.natAbs (rheDiv (255 * x.cnt : Nat) w).toNat
      let track := setB s (b + rheDiv (256 * m - b) (2 ^ c.shift))
      if !cand then
        let t := { track with ana := { track.ana with cand := 0, band := false, bandLines := 0 } }
        (t, if s.ana.band then [rec_ fClear] else [], false)
      else if s.ana.band then
        let k := s.ana.bandLines + 1
        if c.maxLines ≤ k then
          (setB { s with ana := { s.ana with cand := 0, band := false, bandLines := 0 } } (256 * m), [rec_ (fClear + fRestart)], false)
        else ({ s with ana := { s.ana with bandLines := k } }, [], false)
      else
        let k := s.ana.cand + 1
        if c.persist ≤ k then
          if c.maxLines ≤ 1 then
            (setB { s with ana := { s.ana with cand := 0, band := false, bandLines := 0 } } (256 * m),
              [rec_ fOnset, rec_ (fClear + fRestart)], true)
          else ({ s with ana := { s.ana with cand := 0, band := true, bandLines := 1 } }, [rec_ fOnset], true)
        else ({ s with ana := { s.ana with cand := k } }, [], false)

/-- SPAN records of cause TILE_INVALID (R261). -/
def State.spanTest (s : State) (x : Tree) : State × List (List Byte) × Bool :=
  if !x.counted then (s, [], false)
  else if x.invTiles = 0 then
    let (a, b, k) := s.ana.spanCols
    if s.ana.spanInv then ({ s with ana := { s.ana with spanInv := false } }, [verdict x.line vSpan fClear a b k 255], false)
    else (s, [], false)
  else
    let on := !s.ana.spanInv
    let cols := (x.firstInv, x.lastInv, x.invTiles)
    ({ s with ana := { s.ana with spanInv := true, spanCols := cols } },
      if on then [verdict x.line vSpan fOnset x.firstInv x.lastInv x.invTiles 255] else [], on)

/-- Row `r` was due and is missing (R260). -/
def State.rowMissing (s : State) (r : Nat) : Bool := ((s.eng s.job.first).refRows.find? (fun e => e.1 = r)).isNone

/-- SPAN records of cause REF_MISS (R260). -/
def State.refTest (s : State) (x : Tree) : State × List (List Byte) × Bool :=
  match x.refAt with
  | none => (s, [], false)
  | some (r, k) =>
    let rec_ := fun (flags : Nat) => verdict x.line vSpan (0x80 + flags) (480 * s.job.first)
      (480 * (s.job.first + s.job.count) - 1) 0 0
    if !x.counted then (s, [], false)
    else
      let miss := s.rowMissing r
      let on := miss && !s.ana.refMiss
      let off := (s.ana.refMiss || on) && (!miss || (k + 1 = s.refFactor && !s.rowMissing (r + 1)))
      ({ s with ana := { s.ana with refMiss := (s.ana.refMiss || on) && !off } },
        (if on then [rec_ fOnset] else []) ++ (if off then [rec_ fClear] else []), on)

/-- Event pin `k` for a line's ONSET and active bits (R264). A pulse in progress runs out whatever a change of MODE, and a pin that MODE 1
has asserted is released by the first line under MODE 0. -/
def State.drivePin (s : State) (onset active k : Nat) : State :=
  let types := s.fld F.ANA_EVT_CFGk_TYPES k
  let pulsing := (assocGet k s.ana.pulses).isSome
  if s.bit F.ANA_EVT_CFGk_MODE k then
    (if Nat.land active types ≠ 0 then s.pinOn k else if pulsing then s else s.pinOff k)
  else
  let s := if pulsing then s else s.pinOff k
  if Nat.land onset types ≠ 0 then
    let s := s.pinOn k
    { s with ana := { s.ana with pulses := assocSet k (s.tb + 10 * s.fld F.ANA_EVT_CFGk_PULSE k) s.ana.pulses } }
  else s

/-- The pins driven from the EVT word of a line, while the device runs (R264). -/
def State.drivePins (s : State) (onset active : Nat) : State :=
  let s := { s with ana := { s.ana with active := active } }
  if s.ana.pinsOn then (List.range 8).foldl (fun s k => s.drivePin onset active k) s else s

/-- The end of pin `k`'s pulse (R264): the pin stays asserted where MODE 1 holds it, with the types active in the last line. -/
def State.pulseEnds (s : State) (k : Nat) : State :=
  match assocGet k s.ana.pulses with
  | some e =>
    if e ≤ s.tb then
      let t : State := { s with ana := { s.ana with pulses := assocDel k s.ana.pulses } }
      if s.bit F.ANA_EVT_CFGk_MODE k ∧ s.ana.pinsOn ∧ Nat.land s.ana.active (s.fld F.ANA_EVT_CFGk_TYPES k) ≠ 0 then t else t.pinOff k
    else s
  | none => s

/-- One kernel word's node operation (06_engines_shading.md R155), and its identity. -/
def kernelOp (op : Nat) (a b : Nat) : Nat :=
  match op with
  | 0 => min (2 ^ 32 - 1) (a + b)
  | 2 => ofSigned 32 (maxI (toSigned 32 a) (toSigned 32 b))
  | 3 => Nat.lor a b
  | _ => ofSigned 32 (minI (toSigned 32 a) (toSigned 32 b))
def kernelId (op : Nat) : Nat :=
  match op with
  | 0 => 0
  | 2 => 2 ^ 31
  | 3 => 0
  | _ => 2 ^ 31 - 1

/-- The root of one kernel word (06_engines_shading.md R155), from the words of the engines that present one. -/
def kernelRoot (op : Nat) (ws : List (Nat × Nat)) : Nat :=
  let v := ws.foldl (fun a w => kernelOp op a w.2) (kernelId op)
  if op = 4 then Config.minWithIndex (toSigned 32 v) ((ws.filter (fun w => w.2 = v)).map (·.1)) % 2 ^ 32 else v

/-- A kernel runs (R158). -/
def State.kernelRuns (s : State) : Bool := s.bit F.PIPE_KERNEL_CFG_EN && !s.sec.kernel.isEmpty

/-- The kernel's code and data region in engine `i`'s SRAM (R151). -/
def State.kernelCodeIn (s : State) (i : Nat) : List Byte := s.readMem (sramAddr i 0x28A70) s.sec.kernel.length
def State.kernelDataIn (s : State) (i : Nat) : List Byte := s.readMem (sramAddr i 0x2CA70) 0x2000

/-- The loaded kernel's code put into engine `i` (17_security.md R445). -/
def State.loadKernelIn (s : State) (i : Nat) : State := s.writeMem (sramAddr i 0x28A70) (s.sec.kernel.take 0x4000)

/-- What the kernel reads of line `n` in engine `i`. -/
def State.kernelIn (s : State) (i n : Nat) (cols : List ColPx) : KernelIn :=
  ⟨i, s.idleIn i n, (List.range 4).map (fun r => ((s.eng i).recRow r n).v), cols.map (fun c => c.o ++ c.l)⟩

/-- The kernel pass of a line (R158): the roots of its words, and what each kernel leaves in its data region. An engine that presents
identities or was stopped at its budget adds nothing. -/
def State.kernelPass (s : State) (x : Tree) : State :=
  if !s.kernelRuns then s
  else
    let live := x.kernel.filter (fun k => !k.idle && !(s.eng k.engine).kernelOver && (s.eng k.engine).restarting.isNone)
    let word := fun (j : Nat) (k : KernelIn) => (k.engine,
      Config.kernelWord (s.kernelCodeIn k.engine) (s.kernelDataIn k.engine) k.samples k.cols x.line k.engine j % 2 ^ 32)
    let t := (List.range (s.fld F.PIPE_KERNEL_CFG_WORDS + 1)).foldl (fun t j =>
      t.setFld F.ANA_KERNEL_ROOTj_VALUE (kernelRoot (bitsOf (s.fld F.ANA_KERNEL_OPS_OPS) (3 * j) 3) (live.map (word j))) j) s
    let t := (x.kernel.filter (fun k => (s.eng k.engine).restarting.isNone)).foldl (fun t k =>
      let data := Config.kernelData (s.kernelCodeIn k.engine) (s.kernelDataIn k.engine) k.samples k.cols x.line k.engine
        (s.eng k.engine).kernelOver
      t.writeMem (sramAddr k.engine 0x2CA70) (data.take 0x2000)) t
    s.span.foldl (fun t i => t.modEng i (fun e => { e with kernelOver := false })) t

/-! The bunting profile (R256). -/

/-- The four bytes of a column. -/
def profileBytes (still : Bool) (x : Streak) : List Byte :=
  be 2 (ofSigned 16 (clampI (-32768) 32767 (rheDiv x.mu 256)))
    ++ be 2 (b2n x.active * 2 ^ 15 + b2n (still || !x.last) * 2 ^ 14 + min 16383 (rheDiv x.v 16).toNat)

/-- The reply of STATS_READ: line, epoch, first column, columns, profile (15_command_set.md R412). -/
def State.statsReply (s : State) (n : Nat) (still : Bool) : List Byte :=
  be 4 n ++ be 2 (n / 2 ^ 32) ++ be 2 0 ++ be 4 (480 * s.job.first) ++ be 4 (480 * s.job.count)
    ++ s.span.flatMap (fun i => (padList ({} : Streak) 480 (s.eng i).streaks).flatMap (profileBytes still))

/-- A waiting STATS_READ answers. -/
def State.statsDone (s : State) (still : Bool) : State :=
  match s.ops.stats with
  | none => s
  | some (p, _) =>
    ({ s with ops := { s.ops with stats := none } }).sendReply p (rspOk (s.statsReply (s.prod.last.getD 0) still))

/-- The state of every column, the band and the pins' state reset at JOB_START (R255, R257). -/
def State.anaReset (s : State) : State :=
  let s := s.span.foldl (fun s i => s.modEng i (fun e => { e with streaks := [], blobs := [], refSum := [], refNow := none, refRows := [],
                                                                  outbox := [], lampLow := false, lampRun := 0 })) s
  { s with ana := { s.ana with bandSet := false, cand := 0, band := false, bandLines := 0, bankWait := false, spanInv := false,
                               spanCols := (0, 0, 0), refNext := 0, refMiss := false, active := 0, pinsOn := true } }

end Sys2Proof.Machine
end

