-- ==== Sys2Proof/Machine/OutOps.lean ====
section
/-! DEFINITION. Output lines (07_alignment_seams.md R195, R208, R209, 09_output_analytics.md R243 to R250) and what a session
receives: subscriptions, lag, thinned and gapped lines, transport records and the end of a session (14_host_network.md R368,
R374 to R385, 01_system_overview.md R29). -/

namespace Sys2Proof.Machine

/-! Records of a session's EVT stream (R368, R374). -/

/-- A transport record (R368). -/
def transRec (first type info last aux unit : Nat) : List Byte :=
  be 4 first ++ be 1 type ++ be 1 info ++ be 2 (first / 2 ^ 32) ++ be 4 last ++ be 2 (min 65535 aux) ++ be 1 unit ++ be 1 0

/-- The last produced line, 0 when there is none. -/
def State.lineNow (s : State) : Nat := if s.job.defined then s.prod.last.getD 0 else 0

/-- A transport record for session `k`. -/
def State.pushRec (s : State) (k : Nat) (r : List Byte) : State :=
  s.modTx k (fun x => { x with recs := x.recs ++ [⟨s.tb, none, r⟩] })

/-- A SESSION record about session `k` (R368): 0 OPENED, 1 CLOSED, 2 DEAD, 3 SUBSCRIPTIONS_CLEARED. -/
def State.sessRec (s : State) (k role what : Nat) : List Byte :=
  transRec s.lineNow 0x85 (role + 4 * what) s.lineNow 0 k

/-- A record for every open session but `k`. -/
def State.tellOthers (s : State) (k : Nat) (r : List Byte) : State :=
  (s.openSessions.filter (· ≠ k)).foldl (fun s j => s.pushRec j r) s

/-- A PORT record for every open session (R386): 0 DOWN, 1 UP. -/
def State.portRec (s : State) (q what : Nat) : List Byte := transRec s.lineNow 0x84 what s.lineNow 0 q

/-! Lines in the elastic buffer. -/

/-- A line of a rendition in the elastic buffer. -/
def State.findLine (s : State) (n m : Nat) : Option OutLine := s.prod.elastic.find? (fun l => l.n = n && l.rend = m)

/-- Pennant bits 51 to 56 of a line (R368). -/
def State.lineAux (s : State) (n m : Nat) : Nat := ((s.findLine n m).map (fun l => bitsOf l.pennant 51 6)).getD 0

/-- Lines that no open session still has to resolve leave the buffer. -/
def State.pruneElastic (s : State) : State :=
  let wanted := s.sessions.flatMap (fun x => if x.id.st = 2 then x.tx.unresolved else [])
  { s with prod := { s.prod with elastic := s.prod.elastic.filter (fun l => wanted.contains (l.n, l.rend)) } }

/-- A session's line withdrawn from delivery: resolved for that session, its segments no longer sent (R377, R382). -/
def State.dropLine (s : State) (k n m : Nat) : State :=
  let segs := fun (x : SessTx) => x.segs.filter (fun g => !(g.n = n && g.rend = m))
  let cutting := fun (x : SessTx) => x.cutting.filter (fun c => !(c.1 = n && c.2.1 = m))
  s.modTx k (fun x => { x with owed := x.owed.filter (fun e => e ≠ (n, m)), segs := segs x, cutting := cutting x })

/-! Gaps and thinning (R382 to R385). -/

/-- A line gapped for session `k` (R383, R384): 0 OWNER_OVERFLOW, 1 QDR. -/
def State.gapLine (s : State) (k n m cause : Nat) : State :=
  let aux := s.lineAux n m
  let s := (s.dropLine k n m).count F.XPT_SESS_GAP_CNT_COUNT k
  let x := (s.session k).tx
  let later := fun (o : Option Nat) => some (match o with
    | some a => max a n
    | none => n)
  let s := match x.gapRun with
    | none =>
      let s := s.pushRec k (transRec n 0x81 (1 + 4 * cause) n aux m)
      s.modTx k (fun x => { x with gapRun := some ⟨n, some n, cause, aux, m⟩ })
    | some g => s.modTx k (fun x => { x with gapRun := some { g with last := later g.last, aux := Nat.lor g.aux aux } })
  s.modTx k (fun x => { x with gapNext := some (max (n + 1) (x.gapNext.getD 0)) })

/-- A line thinned for session `k` while line `now` is produced (R382). -/
def State.thinLine (s : State) (k n m now : Nat) : State :=
  let x := (s.session k).tx
  let breach := x.reserved && decide (0 < toSigned 32 (x.limit + 2 ^ 32 - x.lineSeq)) && decide (x.segs.length < (s.session k).id.win)
  let s := (s.dropLine k n m).count F.XPT_SESS_THIN_CNT_COUNT k
  let type := if breach then 0x83 else 0x82
  let s := match x.episodes.find? (fun e => e.breach = breach) with
    | some e => s.modTx k (fun x =>
        { x with episodes := { e with last := n, count := e.count + 1, newest := now } :: x.episodes.filter (fun q => q.breach ≠ breach) })
    | none =>
      let s := s.pushRec k (transRec n type 1 n 1 m)
      s.modTx k (fun x => { x with episodes := ⟨breach, n, n, 1, now, m⟩ :: x.episodes })
  s.modTx k (fun x => { x with thinNext := some n })

/-- A thinning episode ends after 1,024 grid lines without thinning (R382). -/
def State.thinClear (s : State) (k : Nat) : State :=
  let ended := fun (e : Episode) => match s.prod.last with
    | some l => decide (e.newest + 1024 ≤ l)
    | none => false
  let x := (s.session k).tx
  let s := (x.episodes.filter ended).foldl (fun s e =>
    s.pushRec k (transRec e.first (if e.breach then 0x83 else 0x82) 2 e.last e.count e.rend)) s
  s.modTx k (fun x => { x with episodes := x.episodes.filter (fun e => !ended e) })

/-- A session's lag at the production of line `n`, both ends counted (R382). -/
def SessTx.lagAt (x : SessTx) (n : Nat) : Nat :=
  let l := x.unresolved.map (·.1)
  if l.isEmpty then 0 else n + 1 - minND n l

/-- The lines of a session, oldest first. -/
def SessTx.oldest (x : SessTx) : List (Nat × Nat) := sortKey (·.1) x.unresolved

/-- The limit of an OBSERVER's lag (R382). -/
def State.lagLimit (s : State) (k : Nat) : Nat :=
  let x := s.session k
  (if x.tx.reserved then x.tx.lag else x.id.beLag) * s.fld F.XPT_CE_LINES_LINES / 1024

/-- The oldest lines of session `k` for which `f` holds at line `n`, given up one by one (R382, R383). -/
def State.giveUp (s : State) (k n limit : Nat) (act : State → Nat → Nat → State) : State :=
  ((s.session k).tx.oldest.filter (fun e => decide (limit < n + 1 - e.1))).foldl (fun s e => act s e.1 e.2) s

/-- Room made for line `n` in every session (R382, R383). -/
def State.makeRoom (s : State) (n : Nat) : State :=
  s.openSessions.foldl (fun s k =>
    let x := s.session k
    if x.id.role = 0 then
      if !s.job.scan ∧ s.fld F.XPT_CE_LINES_LINES < x.tx.lagAt n then
        s.giveUp k n (x.id.resume * s.fld F.XPT_CE_LINES_LINES / 1024) (fun s a m => s.gapLine k a m 0)
      else s
    else s.giveUp k n (s.lagLimit k) (fun s a m => s.thinLine k a m n)) s

/-! The end of a session (R29, R374). -/

/-- What the OWNER leaves to a new OWNER during a job (R29): its subscription, the first line it has not had, the image bits of
the lines since. -/
def State.leaveJob (s : State) (k : Nat) : State :=
  let x := (s.session k).tx
  if !s.op.inJob ∨ x.rend = 0 then s
  else
    let l := x.oldest
    let first := ((l.head?).map (·.1)).getD (match s.prod.last with
      | some n => n + 1
      | none => 0)
    let aux := l.foldl (fun a e => Nat.lor a (s.lineAux e.1 e.2)) 0
    { s with prod := { s.prod with takeover := some (x.rend, first, aux) } }

/-- The registers of session `k`'s window at their Reset values. -/
def State.clearSessRegs (s : State) (k : Nat) : State :=
  s.setFlds [(F.XPT_SESS_RETX_CNT_COUNT, 0), (F.XPT_SESS_THIN_CNT_COUNT, 0), (F.XPT_SESS_GAP_CNT_COUNT, 0)] k

/-- A path that has ended no longer receives the reply of an operation that runs on. -/
def pathGone (k : Nat) (p : Path) : Path := if p = .sess k then .fw else p

/-- Operations that session `k` began run on without it (R374, 15_command_set.md R400). -/
def State.orphan (s : State) (k : Nat) : State :=
  let o := s.ops
  { s with ops := { o with arm := o.arm.map (fun (a : ArmOp) => { a with path := pathGone k a.path }),
                           eqx := o.eqx.map (fun (a : Eqx) => { a with path := pathGone k a.path }),
                           align := o.align.map (fun (a : AlignOp) => { a with path := pathGone k a.path }),
                           therm := o.therm.map (fun (a : ThermOp) => { a with path := pathGone k a.path }),
                           diag := o.diag.map (fun (a : LumDiag) => { a with path := pathGone k a.path }),
                           stats := o.stats.map (fun a => (pathGone k a.1, a.2)),
                           tileCmd := o.tileCmd.map (pathGone k), abort := o.abort.map (pathGone k) } }

/-- A session ends (R374): everything it holds is released, the others are told, and the OWNER's job goes on (R29). `what` 1
CLOSED, 2 DEAD. -/
def State.endSession (s : State) (k what : Nat) : State :=
  let x := s.session k
  if x.id.st = 0 then s
  else if x.id.st = 1 then s.modSess k (fun _ => {})
  else
    let s := (if x.id.role = 0 then s.leaveJob k else s).orphan k
    let s := ((s.modSess k (fun _ => {})).modCmd (.sess k) (fun _ => {})).modBank (.sess k) (fun _ => {})
    let s := (s.tellOthers k (s.sessRec k x.id.role what)).pruneElastic
    if x.id.role = 0 then s.holdLast 5 else s

/-- A session declared dead (R263, R377). -/
def State.sessionDead (s : State) (k : Nat) : State := (s.endSession k 2).burgee 0x0B clsWarn 2 k

/-! The verdict ring (R263). -/

/-- The numbers of the verdicts that a session has not resolved. -/
def SessTx.verdictNums (x : SessTx) : List Nat := ((x.evts.flatMap (·.recs)) ++ x.recs).filterMap (·.num)

/-- Records in the ring: from the oldest that a session has not acknowledged (R263, R268). -/
def State.ringFill (s : State) : Nat :=
  let l := s.openSessions.flatMap (fun k => (s.session k).tx.verdictNums)
  if l.isEmpty then 0 else s.ana.nextRec - minND s.ana.nextRec l

/-- A verdict record written to the ring (R262, R263): it reaches every OWNER and OBSERVER; a session whose oldest unacknowledged
record it overwrites is declared dead. -/
def State.pushVerdict (s : State) (r : List Byte) : State :=
  let n := s.ana.nextRec
  let full := s.openSessions.filter (fun k => (s.session k).tx.verdictNums.any (fun m => decide (m + 16384 ≤ n)))
  let s := full.foldl State.sessionDead s
  let s := (s.openSessions.filter (fun k => decide (s.roleOf k ≤ 1))).foldl (fun s k =>
    s.modTx k (fun x => { x with recs := x.recs ++ [⟨s.tb, some n, r⟩] })) s
  ({ s with ana := { s.ana with nextRec := n + 1 } }).count F.ANA_VERDICT_CNT_COUNT

/-! Renditions of a line (R208, R209, R243 to R250). -/

/-- The values of rendition `m` in a line, summed over each x bin: pixel by pixel, channel by channel. -/
def State.rendSums (s : State) (m : Nat) (cols : List ColPx) : List Nat :=
  let bx := s.binX m
  let chans := rendChans (s.fld F.PIPE_RENDm_CFG_CHAN m)
  let start := s.rendX0 m - 480 * s.job.first
  let src := fun (c : ColPx) => if s.bit F.PIPE_RENDm_CFG_SRC m then c.l else c.o
  (List.range (s.rendWidth m)).flatMap (fun j =>
    let px := (cols.drop (start + bx * j)).take bx
    chans.map (fun ch => sumN (px.map (fun c => nthD 0 (src c) ch))))

/-- The bytes of a sample at a rendition's depth (R244, R245). -/
def sampleBytes (deep : Bool) (v : Nat) : List Byte := if deep then be 2 v else be 1 (rheDiv v 257).toNat

/-- The first address of rendition `m`'s ring and its slots (R380). -/
def State.ringBase (s : State) (m : Nat) : Nat :=
  s.fld F.QDR_ELASTIC_BASE_ADDR + sumN ((s.rends.filter (· < m)).map (fun r =>
    s.fld F.XPT_CE_LINES_LINES / s.binY r * s.lineBytes r))
def State.ringAddr (s : State) (m n : Nat) : Nat :=
  s.ringBase m + n / s.binY m % max 1 (s.fld F.XPT_CE_LINES_LINES / s.binY m) * s.lineBytes m

/-- A bin emitted (R208, R209, R249, R250): its line written to the elastic buffer and owed to every subscriber. -/
def State.emitBin (s : State) (b : Bin) : State :=
  let s := { s with prod := { s.prod with bins := s.prod.bins.filter (fun x => !(x.rend = b.rend && x.bin = b.bin)) } }
  match b.members with
  | [] => s
  | first :: _ =>
    let k := b.members.length
    let bx := s.binX b.rend
    let lo := b.bin * s.binY b.rend
    let sums := (b.members.drop 1).foldl (fun a x => (a.zip x.sums).map (fun e => e.1 + e.2)) first.sums
    let deep := s.bit F.PIPE_RENDm_CFG_DEPTH b.rend
    let data := sums.flatMap (fun (v : Nat) => sampleBytes deep (rheDiv (v : Int) (bx * k)).toNat)
    let bits := b.members.foldl (fun a x => Nat.lor a (x.bits / 2 ^ 48)) 0
    let want := (List.range (s.binY b.rend)).filter (fun j => s.prod.firstOut.any (fun f => decide (f ≤ lo + j)))
    let bits := if k < want.length then Nat.lor bits 2 else bits
    let mask := b.members.foldl (fun a x => (a.zip x.mask).map (fun e => e.1 ||| e.2)) (zeros 64)
    let pen := lo % 2 ^ 32 + lo / 2 ^ 32 % 2 ^ 16 * 2 ^ 32 + bits * 2 ^ 48
    let line : OutLine := ⟨lo, b.rend, s.ringAddr b.rend lo, data.length, pen, mask, false⟩
    let s := s.writeMem line.addr data
    let old := s.prod.elastic.filter (fun l => !(l.n = lo && l.rend = b.rend))
    let s := { s with prod := { s.prod with elastic := old ++ [line], emitted := s.prod.emitted.set b.rend (lo + 1) } }
    (s.openSessions.filter (fun k => (s.session k).tx.subscribes b.rend)).foldl (fun s k =>
      s.modTx k (fun x => { x with owed := x.owed ++ [(lo, b.rend)] })) s

/-- A produced line added to its bin in rendition `m`; earlier bins are complete (R209). -/
def State.addBin (s : State) (m n : Nat) (x : Member) : State :=
  let by_ := s.binY m
  let bin := n / by_
  let s := (s.prod.bins.filter (fun b => b.rend = m && decide (b.bin < bin))).foldl State.emitBin s
  if bin * by_ < nthD 0 s.prod.emitted m then s
  else
    let b : Bin := match s.prod.bins.find? (fun b => b.rend = m && b.bin = bin) with
      | some b => { b with members := b.members ++ [x] }
      | none => ⟨m, bin, [x]⟩
    let s := { s with prod := { s.prod with bins := b :: s.prod.bins.filter (fun y => !(y.rend = m && y.bin = bin)) } }
    if n % by_ = by_ - 1 then s.emitBin b else s

/-- Every pending bin emitted when the production of output lines ends (R209). -/
def State.flushBins (s : State) : State := s.prod.bins.foldl State.emitBin s

/-! The production of a line (R193 to R196, R247). -/

/-- The next output line that may be produced (R195). -/
def State.nextOut (s : State) : Nat :=
  match s.prod.firstOut with
  | some _ => s.prod.next
  | none => max s.prod.next s.firstLine

/-- One above the highest exposure that is decided: placed, or skipped for good. -/
def State.decidedTop (s : State) : Nat := max s.prod.placedTop (maxN (s.prod.missed.map (· + 1)))

/-- The engines hold every exposure that line `n` needs (R193). -/
def State.inputsIn (s : State) (n : Nat) : Bool :=
  decide (n + s.lat < s.decidedTop) &&
    (let p := maxN ((s.prod.placed.filter (fun m => decide (m ≤ n + s.lat))).map (· + 1))
     p = 0 || s.span.all (fun i => match (s.eng i).recs with
       | x :: _ => decide (p ≤ x.k + 1)
       | [] => false))

/-- The next output line: lines whose own exposure was not placed are not produced (R196). -/
def State.lineNext (s : State) : Option Nat := (s.prod.placed.filter (fun n => decide (s.nextOut ≤ n))).min?

/-- Line `n` is not to be produced: it lies beyond the job's last line, or above a seal whose recapture is still to come
(11_reseam.md R299, 01_system_overview.md R22). -/
def State.beyond (s : State) (n : Nat) : Bool :=
  (s.job.lineCount ≠ 0 && decide (s.job.lineCount ≤ n)) || s.prod.sealNext.any (fun l => decide (l ≤ n))

/-- The job's lines are produced in the present state. -/
def State.producing (s : State) : Bool := s.op.inJob && s.op ≠ .armed && s.prod.n0.isSome

/-- The tiles whose engines own an invalid column (R196). -/
def invalidTiles (first : Nat) : List (List ColPx) → List Nat
  | [] => []
  | c :: l => if c.any ColPx.inv then first :: invalidTiles (first + 1) l else invalidTiles (first + 1) l

/-- The tile-validity mask (R250). -/
def maskOf (tiles : List Nat) : List Byte :=
  (List.range 64).map (fun b => BitVec.ofNat 8 (sumN ((List.range 8).map (fun k => if tiles.contains (8 * b + k) then 2 ^ k else 0))))

/-- The image bits of line `n` but for the summary bits, as bits 48 up of the pennant word (R247). -/
def State.imageBits (s : State) (n flags : Nat) (invalid : Bool) : Nat :=
  let gap := match s.prod.last with
    | some l => decide (n ≠ l + 1)
    | none => decide (n ≠ s.prime)
  let unver := (List.range 256).any (fun d => s.sectInSpan d && s.unverified d)
  b2n (s.prod.reseam = some n) + 2 * b2n gap + 8 * b2n (bitAt flags 1) + 16 * b2n (bitAt flags 2) + 32 * b2n unver
    + 64 * b2n (bitAt flags 3) + 128 * b2n invalid + 256 * b2n (s.prod.marked.contains n)

/-- Analytics of every span engine over a line (R251 to R259), and the line's tree packet (R266). -/
def State.lineParts (s : State) (n : Nat) (counted : Bool) (tiles : List (List ColPx)) : State × Part :=
  (mapIdxFrom (fun k c => (s.job.first + k, c)) 0 tiles).foldl (fun (a : State × Part) e =>
    let r := a.1.engineLine e.1 n counted e.2
    let p := r.2
    (r.1, ⟨min (2 ^ 32 - 1) (a.2.sum + p.sum), a.2.cnt + p.cnt, Nat.lor a.2.evt p.evt, a.2.recs ++ p.recs, a.2.blocks + p.blocks,
      a.2.flagged + p.flagged⟩)) (s, ⟨0, 0, 0, [], 0, 0⟩)

/-- The tree packet of a line (R266), with the settings that hold for it (R268). -/
def State.treeOf (s : State) (n : Nat) (p : Part) (bits : Nat) (tiles : List Nat) (inv : List Nat) (ks : List KernelIn)
    (bankOk counted : Bool) : Tree :=
  ⟨n, p.sum, p.cnt, p.evt, bits, minND (2 ^ 24 - 1) inv, maxN inv, tiles.length, p.blocks, p.flagged, ks, p.recs, bankOk, counted,
    s.bandCfg, s.refRowOf n⟩

/-- Output line `n` produced (R193, R196, R239, R243, R247). -/
def State.produceLine (s : State) (n : Nat) : State :=
  let s := s.span.foldl (fun s i => s.fillBefore i (n + s.lat + 1)) s
  let (cols, s) := s.lineCols n
  let tiles := mapIdxFrom (fun k (c : List Col) => c.map (s.colour (s.job.first + k))) 0
    ((List.range s.job.count).map (fun k => (cols.drop (480 * k)).take 480))
  let all := tiles.flatten
  let s := s.count F.PIPE_CMX_CLAMP_CNT_COUNT 0 (sumN (all.map (·.clamps)))
  let bad := invalidTiles s.job.first tiles
  let inv := (indicesWhere ColPx.inv 0 all).map (· + 480 * s.job.first)
  let flags := all.foldl (fun a c => Nat.lor a c.fl) 0
  let bits := s.imageBits n flags (!bad.isEmpty)
  let counted := decide (s.prod.analysed ≤ n)
  let (s, part) := s.lineParts n counted tiles
  let bankOk := flags / 16 % 4 = s.fld F.PIPE_BANK_STATUS_ACTIVE + 1
  let s := s.span.foldl (fun s i => s.modEng i (fun e => { e with invalidLast := bad.contains i, watch := none })) s
  let s := s.makeRoom n
  let ks := if s.kernelRuns then mapIdxFrom (fun k c => s.kernelIn (s.job.first + k) n c) 0 tiles else []
  let tree := s.prod.tree ++ [s.treeOf n part (bits / 8 % 64) bad inv ks bankOk counted]
  let prod : Produce := { s.prod with tree := tree, next := n + 1, firstOut := some (s.prod.firstOut.getD n), last := some n,
                                      made := (n :: s.prod.made).take 64,
                                      analysed := max s.prod.analysed (n + 1),
                                      reseam := if s.prod.reseam = some n then none else s.prod.reseam }
  let s : State := { s with prod := prod }
  let s := s.rends.foldl (fun s m => s.addBin m n ⟨n, s.rendSums m all, bits * 2 ^ 48, maskOf bad⟩) s
  let aux := bitsOf (bits * 2 ^ 48) 51 6
  let s := { s with prod := { s.prod with takeover := s.prod.takeover.map (fun (t : Nat × Nat × Nat) => (t.1, t.2.1, Nat.lor t.2.2 aux)) } }
  s.statsDone false

/-- The next output line produced, when its inputs are in (R193). -/
def State.lineReady (s : State) : State :=
  match s.lineNext with
  | some n => if s.producing && !s.beyond n && s.inputsIn n then ((s.produceLine n).pruneElastic).noteFill else s
  | none => s

/-- The verdict unit takes the oldest tree packet (R257, R261 to R264), and the summary bits join the line (R247). -/
def State.verdictLine (s : State) : State :=
  match s.prod.tree with
  | [] => s
  | x :: rest =>
    let s := { s with prod := { s.prod with tree := rest } }
    let (s, r1, on1) := s.bandTest x
    let (s, r2, on2) := s.spanTest x
    let (s, r3, on3) := s.refTest x
    let spanActive := s.ana.spanInv || s.ana.refMiss
    let onset := Nat.lor (x.evt % 32) (2 * b2n on1 + 16 * b2n (on2 || on3))
    let active := Nat.lor (x.evt / 256 % 32) (2 * b2n s.ana.band + 16 * b2n spanActive)
    let both := Nat.lor onset active
    let sumBits := b2n (bitAt both 0 || bitAt both 2) + 2 * b2n (bitAt both 1) + 4 * b2n (bitAt both 3 || bitAt both 4)
    let add := fun (p : Nat) => Nat.lor p (sumBits * 2 ^ 57)
    let covers := fun (n m : Nat) => decide (n ≤ x.line) && decide (x.line < n + s.binY m)
    let elastic := s.prod.elastic.map (fun (l : OutLine) => if covers l.n l.rend then { l with pennant := add l.pennant } else l)
    let bins := s.prod.bins.map (fun (b : Bin) =>
      { b with members := b.members.map (fun (y : Member) => if y.line = x.line then { y with bits := add y.bits } else y) })
    let s := { s with prod := { s.prod with elastic := elastic, bins := bins } }
    let (recs, left) := collectRecs x.line (x.records ++ r1 ++ r2 ++ r3)
    let s := s.count F.ANA_MERGED_CNT_COUNT 0 left
    let s := (recs.foldl State.pushVerdict s).drivePins onset active
    s.kernelPass x

end Sys2Proof.Machine
end

