-- ==== Sys2Proof/Machine/EquinoxOps.lean ====
section
/-! DEFINITION. Equinox runs (08_calibration.md R218 to R226): the strip, the sums, the new banks, dust, verification, the swap
and the ends of a run. -/

namespace Sys2Proof.Machine

/-! The strip axis (R219). -/

/-- The strip axis and its group. -/
def State.stripAxis (s : State) : Nat := s.fld F.PIPE_EQX_AXIS_AXIS
def State.stripGroup (s : State) : Nat := s.fld F.MOT_AXIS_CFG_GROUP s.stripAxis
def State.stripOn (s : State) : Bool := s.bit F.PIPE_EQX_AXIS_EN

/-- The strip axis cannot be used: STALL, position unknown, not enabled, in no group (R219, R226). -/
def State.stripBad (s : State) : Bool :=
  let x := s.stripAxis
  s.bit F.MOT_AXIS_STATUS_STALL x || s.bit F.MOT_AXIS_STATUS_POSITION_LOST x || s.bit F.MOT_AXIS_STATUS_MICROSTEP_UNKNOWN x
    || !s.bit F.MOT_AXIS_STATUS_ENABLED x || decide (4 ≤ s.stripGroup)

/-- POS and PARK in steps. -/
def State.stripPos (s : State) : Int := s.sfld F.PIPE_EQX_POS_POS
def State.stripPark (s : State) : Int := s.sfld F.PIPE_EQX_PARK_POS

/-- A move of axis `x` alone to position `p` queued in its group, at HOME_V.FAST and MOT_GRP_HOME_A. DESIGN CHOICE, assumption
log 74. -/
def State.firmMove (s : State) (x : Nat) (p : Int) : State :=
  let d := wrapS 48 (p - (s.axis x).pos)
  let g := s.fld F.MOT_AXIS_CFG_GROUP x
  let v := max (s.fld F.MOT_GRP_VSTART_RATE g) (256 * s.fld F.MOT_AXIS_HOME_V_FAST x)
  let m : Move := ⟨(List.range 8).map (fun y => if y = x then d else 0), v, max 1000 (s.fld F.MOT_GRP_HOME_A_A g), 0, false, false,
    0xFFFF, true⟩
  s.modGroup g (fun y => { y with queue := y.queue ++ [m], used := true })

/-- The strip axis stands at `p`, its group at rest. -/
def State.stripAt (s : State) (p : Int) : Bool := !s.groupBusy s.stripGroup && (s.axis s.stripAxis).pos = wrapS 48 p

/-- A strip that a run has moved out goes back to PARK by itself when the operation that moved it ends (R219); between the points of a
thermal sweep it stays under the bar (R233). -/
def State.stripReturn (s : State) : State :=
  if (s.ops.eqx.any (fun e => e.out) || s.ops.therm.any (fun h => s.stripOn && !h.points.isEmpty)) && !s.stripBad then
    ((s.haltGroup s.stripGroup).firmMove s.stripAxis s.stripPark).modGroup s.stripGroup (fun y => { y with back := true })
  else s

/-- The group of the strip axis given back. -/
def State.stripFree (s : State) : State := s.modGroup s.stripGroup (fun y => { y with used := false })

/-! The start of a run (R220). -/

/-- The run in progress changed. -/
def State.setEqx (s : State) (e : Option Eqx) : State := { s with ops := { s.ops with eqx := e } }

/-- Engine `i`'s inactive bank cleared, and its VALID with it (R220). -/
def State.clearInactive (s : State) (i : Nat) : State :=
  let b := 1 - s.active i
  (s.clearMem (bankAddr i b) 11520).setFld (fldValid b) 0 i

/-- A run begins: `src` as `Eqx` codes it. Refreshes under way are given up, so that the next one carries duty 0. -/
def State.eqxStart (s : State) (src : Nat) (path : Path) : State :=
  let tiles := s.workTiles
  let known := !s.stripOn || !s.stripBad
  let e : Eqx := ⟨src, path, 0, 0, 0, false, [], s.masterPos, [], false, if known then 0 else 5, tiles.map (fun _ => (0, 0)), [], []⟩
  let s := tiles.foldl State.clearInactive s
  let s := s.driven.foldl (fun s c => s.modChain c (fun x => { x with waiting := false, passed := false, markDue := none, eqxFails := 0,
                                                                      latched := false, quiet := true })) s
  let s := s.setEqx (some e)
  let s := if src ≤ 3 then s.setFld F.PIPE_EQX_STATUS_BUSY 1 else s
  if s.stripOn ∧ known then
    (if s.stripAt s.stripPos || (s.ops.therm.isSome && s.groupBusy s.stripGroup) then s else s.firmMove s.stripAxis s.stripPos).setEqx (some { e with out := true })
  else s

/-! The sums (R221). -/

/-- A tile's sums as its inactive bank holds them: lamp sums and counts, then (ΣD, ΣW) of each photosite. -/
structure Sums where
  lampD : Nat
  lampW : Nat
  kD : Nat
  kW : Nat
  px : List (Int × Nat)
  deriving DecidableEq, Repr

/-- The sums of tile `i`. -/
def State.sums (s : State) (i : Nat) : Sums :=
  let l := s.bankBytes i (1 - s.active i)
  let h := fun k => ofLe (slice l (4 * k) 4)
  ⟨h 0, h 1, h 2, h 3, ((List.range 4).flatMap (bankSlots l)).map (fun v => (toSigned 24 v, v / 2 ^ 24))⟩

/-- D and Wh of a photosite (R221). -/
def Sums.dark (x : Sums) (p : Int × Nat) : Int := rheDiv p.1 x.kD
def Sums.white (x : Sums) (p : Int × Nat) : Int := rheDiv (p.2 : Int) x.kW

/-- LDARK and LREF (R221). -/
def Sums.ldark (x : Sums) : Nat := (rheDiv (x.lampD : Int) x.kD).toNat
def Sums.lref (x : Sums) : Nat := (rheDiv (x.lampW : Int) x.kW).toNat

/-- The reason for which the captured sums fail the run, 0 for none (R226). -/
def State.sumsFault (s : State) (e : Eqx) : Nat :=
  let xs := s.workTiles.map s.sums
  if xs.any (fun x => decide (x.kD < 48 || x.kW < 48)) then 2
  else if xs.any (fun x => decide (x.lref < x.ldark + 0x100)) then 3
  else if e.lampClip then 4
  else 0

/-! Dust (R223). -/

/-- A ratio ρ at a photosite, as an exact fraction. -/
structure Rho where
  j : Nat
  n : Int
  d : Nat
  deriving DecidableEq, Repr

/-- `a ≤ b` of two ratios. -/
def Rho.le (a b : Rho) : Bool := decide (a.n * b.d ≤ b.n * a.d)

def insRho (x : Rho) : List Rho → List Rho
  | [] => [x]
  | a :: l => if x.le a then x :: a :: l else a :: insRho x l

/-- The lower median of some ratios. -/
def rhoMedian (l : List Rho) : Option Rho := (l.foldr insRho [])[(l.length - 1) / 2]?

/-- Photosites whose ratio departs from the median by more than `ppt` thousandths of it. -/
def dustOf (ppt : Nat) (l : List Rho) : List Rho :=
  match rhoMedian l with
  | none => []
  | some m => l.filter (fun r => decide ((ppt : Int) * m.n * r.d < (r.n * m.d - m.n * r.d).natAbs * 1000))

/-- The interpolated ratio of dust photosite `j` (R223), as a fraction. -/
def rhoAt (good : List Rho) (j : Nat) : Int × Nat :=
  let left := (good.filter (fun r => decide (r.j < j))).getLast?
  let right := (good.filter (fun r => decide (j < r.j))).head?
  match left, right with
  | some a, some b => ((b.j - j : Nat) * a.n * b.d + (j - a.j : Nat) * b.n * a.d, (b.j - a.j) * a.d * b.d)
  | some a, none => (a.n, a.d)
  | none, some b => (b.n, b.d)
  | none, none => match rhoMedian good with
    | some m => (m.n, m.d)
    | none => (1, 1)

/-- The dust photosites of a row and what each takes in place of `base`. -/
def dustRow (ppt : Nat) (rs : List Rho) (base : Nat → Int) : List (Nat × Int) :=
  let dust := dustOf ppt rs
  let good := rs.filter (fun r => !dust.contains r)
  dust.map (fun r =>
    let q := if good.isEmpty then (match rhoMedian rs with
      | some m => (m.n, m.d)
      | none => (1, 1)) else rhoAt good r.j
    (r.j, rheDiv (base r.j * q.1) q.2))

/-- The longest run of consecutive numbers in an ascending list. -/
def longestRun : Nat → Option Nat → List Nat → Nat
  | k, _, [] => k
  | k, prev, j :: l =>
    let k' := if prev.any (fun p => p + 1 = j) then k + 1 else 1
    max k' (longestRun k' (some j) l)

/-! The new bank (R222, R224, R174). -/

/-- The strip's reflectance for a channel (R222). -/
def State.stripRefl (s : State) (c : Nat) : Nat :=
  match c with
  | 0 => s.fld F.PIPE_EQX_STRIP_RG_REFL_RED
  | 1 => s.fld F.PIPE_EQX_STRIP_RG_REFL_GRN
  | 2 => s.fld F.PIPE_EQX_STRIP_BN_REFL_BLU
  | _ => s.fld F.PIPE_EQX_STRIP_BN_REFL_NIR

/-- Tc of channel `c` (R222). -/
def State.targetOf (s : State) (c : Nat) : Nat := (rheDiv ((s.fld F.PIPE_SHADE_WHITE_WHITE * s.stripRefl c : Nat) : Int) (2 ^ 14)).toNat

/-- G from Tc and S (R222); the result for S = 0 is open. -/
def eqxGain (tc : Nat) (sig : Int) : Nat :=
  if sig = 0 then Config.gainAtZero tc % 65536 else (clampI 1 0xFFFF (rheDiv ((tc * 2 ^ 14 : Nat) : Int) sig.toNat)).toNat

/-- A native slot built from the means of its photosite (R222), and whether it is a new defect. `base` is the base bank's
slot. -/
def nativePx (tc minSig base : Nat) (d w : Int) (clipped : Bool) : Nat × Bool :=
  if slotDefect base then (nativeSlot 0 0 (slotKo base) (slotKg base) false true, false)
  else
    let o := clampI (-2048) 2047 d
    let sig := w - o
    if d ≠ o ∨ sig < minSig ∨ clipped then (nativeSlot 0 0 (slotKo base) (slotKg base) false true, true)
    else (nativeSlot (eqxGain tc sig) o (slotKo base) (slotKg base) false false, false)

/-- A built bank: its bytes, dust photosites by channel and index, new defects, fallback, clamped RCP. -/
structure Built where
  bytes : List Byte
  dust : List (List Nat)
  defects : Nat
  fell : Bool
  clamps : Nat
  tcal : Option Int
  deriving DecidableEq, Repr

/-- A bank header (R175), with CRC 0. -/
def bankHead (form serial gen : Nat) (tcal dtMin dtMax : Int) (lref ldark : Nat) : List Byte :=
  be 1 form ++ be 1 1 ++ zeros 2 ++ le 4 serial ++ le 4 gen ++ le 2 (ofSigned 16 tcal) ++ le 2 (ofSigned 16 dtMin)
    ++ le 2 (ofSigned 16 dtMax) ++ le 2 lref ++ le 2 ldark ++ zeros 26

/-- The bank of 1,912 slots. -/
def bankOf (head : List Byte) (slots : List Nat) : List Byte := bankSeal (head ++ slots.flatMap (le 6))

/-- One more than the greater GEN of engine `i`'s two banks (R222). -/
def State.nextGen (s : State) (i : Nat) : Nat := (max (s.fld F.TILE_ENG_GEN_A_GEN i) (s.fld F.TILE_ENG_GEN_B_GEN i) + 1) % 2 ^ 32

/-- Tile `i` has a record of its own with BASE_VALID (R229): a slot that holds the record of another SERIAL, of a tile since replaced,
holds none of this tile's (R232). -/
def State.hasBase (s : State) (i : Nat) : Bool := s.recFlag i 1 && s.recLe i 8 4 = identSerial (s.lane i).ident

/-- The base bank of tile `i`'s record, all zero for a tile without BASE_VALID (R229). -/
def State.baseBank (s : State) (i : Nat) : List Byte := if s.hasBase i then s.recBytes i 128 11520 else zeros 11520

/-- T_CAL of tile `i` (R222). -/
def State.runTcal (s : State) (i : Nat) (t : Int × Nat) : Int := if t.2 = 0 then bankTcal (s.baseBank i) else rheDiv t.1 t.2

/-- T_LO and T_HI that bound tile `i`'s fit: the record's, or T_CAL ± 2 K for a tile without BASE_VALID (R232). -/
def State.runFit (s : State) (i : Nat) (t : Int) : Int × Int := if s.hasBase i then (s.recS i 22, s.recS i 24) else (t - 512, t + 512)

/-- The native bank of tile `i` from its sums (R222 to R224). -/
def State.buildNative (s : State) (i : Nat) (x : Sums) (clips : List (Nat × Nat)) (t : Int × Nat) : Built :=
  let base := s.baseBank i
  let n := s.sites i
  let ppt := s.fld F.PIPE_EQX_CFG_DUST_PPT
  let minSig := s.fld F.PIPE_EQX_MIN_MIN_SIGNAL
  let rows := (List.range 4).map (fun c =>
    let bs := bankSlots base c
    let ps := (x.px.drop (478 * c)).take 478
    mapIdxFrom (fun j p => if j < n then
        nativePx (s.targetOf c) minSig (nthD 0 bs j) (x.dark p) (x.white p) (clips.contains (i, 478 * c + j))
      else (0, false)) 0 ps)
  let bad := (rows.flatten.filter (·.2)).length
  let tc := s.runTcal i t
  if s.fld F.PIPE_EQX_CFG_MAX_NEW_DEFECT < bad then
    let l := s.bankBytes i (s.active i)
    ⟨bankSeal (l.take 8 ++ le 4 (s.nextGen i) ++ l.drop 12), [[], [], [], []], bad, true, 0, some (bankTcal l)⟩
  else
    let fixed := mapIdxFrom (fun c (r : List (Nat × Bool)) =>
      let bs := bankSlots base c
      let rs := if s.hasBase i then
          ((List.range n).filter (fun j => !slotDefect (nthD (0, false) r j).1 && slotG (nthD 0 bs j) ≠ 0)).map (fun j =>
            Rho.mk j (slotG (nthD (0, false) r j).1) (slotG (nthD 0 bs j)))
        else []
      let dust := dustRow ppt rs (fun j => slotG (nthD 0 bs j))
      (mapIdxFrom (fun j (v : Nat × Bool) =>
        match assocGet j dust with
        | some g => v.1 - slotG v.1 + clampU 16 g + 2 ^ 44
        | none => v.1) 0 r, dust.map (·.1))) 0 rows
    let fit := s.runFit i tc
    let head := bankHead 1 (identSerial (s.lane i).ident) (s.nextGen i) tc (minI 0 (fit.1 - tc)) (maxI 0 (fit.2 - tc)) x.lref x.ldark
    ⟨bankOf head (fixed.flatMap (·.1)), fixed.map (·.2), bad, false, 0, some tc⟩

/-- The compatibility bank of tile `i` from its sums (R174, R223). -/
def State.buildCompat (s : State) (i : Nat) (x : Sums) : Built :=
  let n := s.sites i
  let white := s.fld F.PIPE_SHADE_WHITE_WHITE
  let has := s.recFlag i 2 || s.job.images.contains i
  let ref := s.readMem (s.imageAddr i 2) 11520
  let rows := (List.range 4).map (fun c =>
    let bs := bankSlots ref c
    let ps := ((x.px.drop (478 * c)).take n).map (fun p => (clampU 16 (x.dark p), clampU 16 (x.white p)))
    let gap := fun (j : Nat) => ((bitsOf (nthD 0 bs j) 16 16 : Nat) : Int) - (nthD 0 bs j % 65536 : Nat)
    let rs := if has then ((List.range n).filter (fun j => decide (0 < gap j))).map (fun j =>
        let p := nthD (0, 0) ps j
        Rho.mk j ((p.2 : Int) - p.1) (gap j).toNat) else []
    let dust := dustRow (s.fld F.PIPE_EQX_CFG_DUST_PPT) rs gap
    let out := mapIdxFrom (fun j (p : Nat × Nat) =>
      let w := match assocGet j dust with
        | some g => clampU 16 (p.1 + g)
        | none => p.2
      let r := rcpOf white p.1 w
      (p.1 + w * 2 ^ 16 + r.1 * 2 ^ 32, r.2)) 0 ps
    (padList (0, false) 478 out, dust.map (·.1)))
  let head := bankHead 2 (identSerial (s.lane i).ident) (s.nextGen i) 0 0 0 x.lref x.ldark
  ⟨bankOf head (rows.flatMap (fun r => r.1.map (·.1))), rows.map (·.2), 0, false,
    ((rows.flatMap (·.1)).filter (·.2)).length, none⟩

/-- The dust map of a run in the tile's slot of the calibration copy (R214). -/
def dustMap (dust : List (List Nat)) : List Byte :=
  let bits := (mapIdxFrom (fun c (l : List Nat) => l.map (fun j => 478 * c + j)) 0 dust).flatten
  (List.range 240).map (fun b => BitVec.ofNat 8 (sumN ((bits.filter (fun x => x / 8 = b)).map (fun x => 2 ^ (x % 8)))))

/-- A tile's new bank put into scratch and into the engine's inactive bank (R225), with what the registers show of it. -/
def State.placeBank (s : State) (i k : Nat) (e : Eqx) (x : Built) : State :=
  let b := 1 - s.active i
  let s := s.keepImage i b x.bytes
  let s := (s.writeMem (bankAddr i b) x.bytes).setFld (fldValid b) 0 i
  let s := if s.recPresent i then s.writeMem (recAddr i + 11648) (dustMap x.dust) else s
  let s := s.modEng i (fun g => { g with light := g.light.set b (if x.fell then nthD 0 g.light (1 - b) else nthD 0 e.light k) })
  let s := s.setFlds [(F.TILE_EQX_RESULT_DUST, sumN (x.dust.map (·.length))), (F.TILE_EQX_RESULT_NEW_DEFECT, x.defects)] i
  let s := s.count F.PIPE_COEF_CLAMP_CNT_COUNT 0 x.clamps
  let s := if x.fell then (s.setFld F.TILE_CAL_STATUS_EQX_FALLBACK 1 i).burgee 3 clsWarn 7 i else s
  (List.range 4).foldl (fun s c =>
    if s.fld F.PIPE_EQX_CFG_DUST_RUN < longestRun 0 none (nthD [] x.dust c) then s.burgee 3 clsWarn 8 i 0 c else s) s

/-- The bank of tile `i`, the `k`-th worked on. -/
def State.buildBank (s : State) (e : Eqx) (i k : Nat) : Built :=
  if s.compat then s.buildCompat i (s.sums i) else s.buildNative i (s.sums i) e.clipped (nthD (0, 0) e.tSum k)

/-- Every new bank computed, written and its verification begun (R222 to R225). -/
def State.eqxBuild (s : State) (e : Eqx) : State :=
  let tiles := s.workTiles
  let built := mapIdxFrom (fun k i => (i, k, s.buildBank e i k)) 0 tiles
  let s := built.foldl (fun s b => s.placeBank b.1 b.2.1 e b.2.2) s
  let ts := built.filterMap (fun b => b.2.2.tcal)
  let s := s.setFlds [(F.PIPE_EQX_STATUS_FALLBACK, (built.filter (fun b => b.2.2.fell)).length),
    (F.PIPE_EQX_DUST_CNT_COUNT, sumN (built.map (fun b => sumN (b.2.2.dust.map (·.length)))))]
  let s := match ts with
    | [] => s
    | t :: l => s.setFlds [(F.PIPE_EQX_TCAL_MIN, ofSigned 16 (l.foldl minI t)), (F.PIPE_EQX_TCAL_MAX, ofSigned 16 (l.foldl maxI t))]
  (s.setEqx (some { e with phase := 6, checking := tiles })).noteVerify

/-! The ends of a run (R225, R226). -/

/-- The end of a CAL_ALIGN or CAL_THERMAL (21_register_map.md R533): `result` 1 completed, 2 failed. The device returns to
IDLE (01_system_overview.md R19). -/
def State.opDone (s : State) (result reason : Nat) : State :=
  let s := s.setFlds [(F.SYS_OP_STATUS_BUSY, 0), (F.SYS_OP_STATUS_RESULT, result), (F.SYS_OP_STATUS_REASON, reason)]
  let s := match s.ops.align with
    | some a => if a.motion = 1 then s.haltGroup a.group else s
    | none => s
  let s := s.tilesIdle
  ({ s with ops := { s.ops with align := none, therm := none, eqx := none, arm := none } }).enterIdle

/-- The target moved forward by group `g` at `pcs` pc/s (R227): its media axis, without an end of its own, at MOT_GRP_HOME_A.
DESIGN CHOICE, assumption log 74. -/
def State.targetMove (s : State) (g pcs : Nat) : State :=
  match s.mediaAxis g with
  | none => s
  | some x =>
    let v := max (s.fld F.MOT_GRP_VSTART_RATE g) (s.pacedRate x pcs / 10 ^ 9)
    let d := s.mediaSign x * (2 ^ 31 - 1)
    let m : Move := ⟨(List.range 8).map (fun y => if y = x then d else 0), v, max 1000 (s.fld F.MOT_GRP_HOME_A_A g), 0, false, false,
      0xFFFF, true⟩
    s.modGroup g (fun y => { y with queue := y.queue ++ [m], used := true })

/-- The capture of a CAL_ALIGN begins (R229): position mode on the 1200 dpi grid of the measured range. -/
def State.alignBegin (s : State) : State :=
  let s := { s with engs := s.engs.map (fun (e : Eng) => { e with tracks := [] }) }
  let s := s.trackRestart
  let p := s.masterPos * 2 ^ 16
  let s := { s with ops := { s.ops with align := s.ops.align.map (fun (a : AlignOp) => { a with capturing := true, phase := p, t0 := s.tb }) } }
  (match s.ops.align with
    | some a => if a.motion = 1 then s.targetMove a.group a.speed else s
    | none => s).startPlacing

/-- The reply to the command that a run belongs to (15_command_set.md R401, R398). -/
def State.eqxReply (s : State) (e : Eqx) (ok : Bool) : State :=
  if e.src = 1 ∨ e.src = 2 then s.sendReply e.path (if ok then rspOk [] else rspErr stFault e.reason) else s

/-- The reply of JOB_ARM (15_command_set.md R408). -/
def State.armReply (s : State) : List Byte :=
  be 4 (s.fld F.XPT_CE_LINES_LINES) ++ be 1 s.lat ++ be 1 s.prime ++ zeros 2

/-- The run is over, its strip parked (R226). -/
def State.eqxEnd (s : State) (e : Eqx) : State :=
  let ok := e.reason = 0
  let s := if e.src ≤ 3 then s.setFlds [(F.PIPE_EQX_STATUS_BUSY, 0), (F.PIPE_EQX_STATUS_RESULT, if ok then 1 else 2),
    (F.PIPE_EQX_STATUS_REASON, e.reason)] else s
  let s := if s.sched.timeMode then s.timeModeOff else s
  let s := (s.setEqx none).stripFree
  match e.src with
  | 0 =>
    if ok then ({ s with op := .armed }).sendReply e.path (rspOk s.armReply)
    else (s.enterIdle).sendReply e.path (rspErr stFault e.reason)
  | 1 => if ok then s.enterIdle else s.enterIdle.eqxReply e false
  | 2 =>
    let s := ({ s with op := .running }).resumePlacing
    if ok then s else s.eqxReply e false
  | 3 => if ok then s.alignBegin else s.opDone 2 2
  | _ => if ok then s else s.opDone 2 2

/-- The strip taken back to PARK, and the run ended once it is there (R219, R226). -/
def State.eqxPark (s : State) (e : Eqx) : State :=
  let s := if s.sched.timeMode then s.timeModeOff else s
  if !e.out || s.stripBad || s.stripAt s.stripPark then s.eqxEnd e else s.setEqx (some { e with phase := 7 })

/-- The run fails (R226): the inactive banks are not VALID, the strip halts and returns. -/
def State.eqxFail (s : State) (e : Eqx) : State :=
  let s := (s.workTiles.foldl State.clearInactive s).burgee 3 clsWarn 6 0xFFFF 0 e.reason
  let e : Eqx := { e with checking := [] }
  let s := (s.setEqx (some e)).noteVerify
  let s := if e.out then s.haltGroup s.stripGroup else s
  s.eqxPark e

/-- Every bank has verified: the swap is made or made pending (R225). -/
def State.eqxSwap (s : State) (e : Eqx) : State :=
  let s := if e.src = 2 then
      s.setFlds [(F.PIPE_BANK_CTRL_SWAP_MODE, 1), (F.PIPE_BANK_STATUS_ARMED, 1), (F.PIPE_BANK_STATUS_PENDING, 1)]
    else s.swapAt (s.fld F.SCHED_LINE_LINE)
  (s.eqxReply e true).eqxPark e

/-- Engine `i` has finished its check within the run (R225): a bank that fails is copied and checked once more. -/
def State.eqxVerified (s : State) (e : Eqx) (i : Nat) : State :=
  let b := 1 - s.active i
  let s := s.verifyBank i b
  if s.bit (fldValid b) i then
    let e : Eqx := { e with checking := e.checking.filter (· ≠ i) }
    let s := (s.setEqx (some e)).noteVerify
    if e.checking.isEmpty then s.eqxSwap e else s
  else if e.again.contains i then s.eqxFail { e with reason := 8 }
  else
    let s := s.writeMem (bankAddr i b) (s.imageOf i b)
    s.setEqx (some { e with again := i :: e.again })

/-- The last white line's window has closed and every frame of it has come or failed. -/
def State.captureOver (s : State) : Bool := s.sched.expo.isNone && s.workTiles.all (fun i => (s.lane i).slot.isNone)

/-- The sums gathered and the banks built (R222 to R226). -/
def State.eqxCaptured (s : State) (e : Eqx) : State :=
  let s := s.timeModeOff
  let why := s.sumsFault e
  if why = 0 then s.eqxBuild e else s.eqxFail { e with reason := why }

/-- The refreshes of every driven chain carry duty 0 and have passed, or a mark of before the run waits for a gate. -/
def State.darkReady (s : State) : Bool :=
  s.driven.all (fun c => ((s.chain c).passed && (s.chain c).sentDark) || (s.chain c).marked)

/-- The tiles worked on are in RUN: no transaction waits on a driven segment (03_triry_link.md R78). -/
def State.busQuiet (s : State) : Bool := s.driven.all (fun g => (s.bcb g).queue.isEmpty && (s.bcb g).cur.isNone)

/-- The strip is where it may be in a phase of the run; a halt leaves it elsewhere (R226). -/
def State.stripLost (s : State) (e : Eqx) : Bool :=
  e.out && e.phase ≤ 4 && (s.stripBad || (!s.groupBusy s.stripGroup && !s.stripAt s.stripPos
    && !s.stripAt (s.stripPos + s.fld F.PIPE_EQX_WIGGLE_STEPS)))

/-- What a run does of itself as soon as it may. -/
def State.eqxProgress (s : State) : State :=
  match s.ops.eqx with
  | none => s
  | some e =>
    if e.phase = 7 then
      (if s.stripBad || s.stripAt s.stripPark then s.eqxEnd e
       else if s.groupBusy s.stripGroup then s else s.firmMove s.stripAxis s.stripPark)
    else if e.reason ≠ 0 then s.eqxFail e
    else if s.stripLost e then s.eqxFail { e with reason := 5 }
    else if e.phase = 0 then
      (if s.ops.arm.isNone && (!e.out || s.stripAt s.stripPos) && s.busQuiet && s.darkReady then
        (s.setEqx (some { e with phase := 1 })).timeModeOn
       else if e.out && !s.groupBusy s.stripGroup && !s.stripAt s.stripPos then s.firmMove s.stripAxis s.stripPos
       else s)
    else if e.phase = 4 ∧ e.out ∧ s.fld F.PIPE_EQX_WIGGLE_STEPS ≠ 0 ∧ !s.groupBusy s.stripGroup then
      s.firmMove s.stripAxis (if s.stripAt s.stripPos then s.stripPos + s.fld F.PIPE_EQX_WIGGLE_STEPS else s.stripPos)
    else s

end Sys2Proof.Machine
end

