-- ==== Sys2Proof/Machine/AlignRunOps.lean ====
section
/-! DEFINITION. Start-up alignment (08_calibration.md R227 to R232) and the thermal sweep (R233, R234): what firmware derives from
the captures, and the records it writes. -/

namespace Sys2Proof.Machine

/-! Exact fractions (00_scope.md R5). -/

/-- A rational rounded half to even. -/
def rheRat (q : Rat) : Int := rheDiv q.num q.den

/-- The sum of some rationals, and their mean. -/
def sumQ (l : List Rat) : Rat := l.foldl (· + ·) 0
def meanQ (l : List Rat) : Rat := if l.isEmpty then 0 else sumQ l / l.length

/-- The least-squares line through points (x, y): value at x = 0 and slope. -/
def fitLine (l : List (Rat × Rat)) : Rat × Rat :=
  let mx := meanQ (l.map (·.1))
  let my := meanQ (l.map (·.2))
  let sxx := sumQ (l.map (fun p => (p.1 - mx) * (p.1 - mx)))
  let sxy := sumQ (l.map (fun p => (p.1 - mx) * (p.2 - my)))
  let b := if sxx = 0 then 0 else sxy / sxx
  (my - b * mx, b)

/-- ⌊√q⌋ of a rational. -/
def sqrtFloor (q : Rat) : Nat := isqrt (q.num.toNat / q.den)

/-- rhe(255 × max(0, 1 − 4σ)) from the variance σ² (R230). -/
def confOf (var : Rat) : Nat :=
  let q := 1020 * 1020 * var
  let k := sqrtFloor q
  let mid : Rat := ((2 * k + 1 : Nat) : Rat) * ((2 * k + 1 : Nat) : Rat)
  if 255 ≤ k then 0
  else if 4 * q < mid then 255 - k
  else if mid < 4 * q then 255 - k - 1
  else if (255 - k) % 2 = 0 then 255 - k else 255 - k - 1

/-! Crossings (R230). -/

/-- The crossings of row `r`, photosite `j` of tile `i`, in lines, oldest first. -/
def State.crossings (s : State) (i r j : Nat) : List Rat :=
  ((nthD ({} : Track) (s.eng i).tracks (r * s.sites i + j)).cross.reverse).map (fun (c : Int) => (c : Rat) / 64)

/-- e_r(j): the mean crossing after each edge's nominal line, 60 lines apart, is removed (R228, R230). -/
def State.edgeMean (s : State) (i r j : Nat) : Rat := meanQ (mapIdxFrom (fun k (c : Rat) => c - 60 * (k : Rat)) 0 (s.crossings i r j))

/-- D_r of tile `i`, in 1/256 line (R230). -/
def State.measD (s : State) (i r : Nat) : Int :=
  rheRat (256 * meanQ ((List.range (s.sites i)).map (fun j => s.edgeMean i 3 j - s.edgeMean i r j)))

/-- The mean profile of zone B at photosite `j` over the four rows (R229). -/
def State.profileAt (s : State) (i j : Nat) : Rat :=
  let ts := (List.range 4).map (fun r => nthD ({} : Track) (s.eng i).tracks (r * s.sites i + j))
  let n := sumN (ts.map (·.cnt))
  if n = 0 then 0 else (sumN (ts.map (·.sum)) : Rat) / n

/-- The centroids of the dark runs of a profile, below WHITE/2 and weighted by their depth below it, in photosites. DEDUCED,
assumption log 71. -/
def centroids (half : Rat) (acc : Rat × Rat) : Nat → List Rat → List Rat
  | _, [] => if acc.2 = 0 then [] else [acc.1 / acc.2]
  | j, v :: l =>
    if v < half then centroids half (acc.1 + (half - v) * j, acc.2 + (half - v)) (j + 1) l
    else if acc.2 = 0 then centroids half (0, 0) (j + 1) l
    else acc.1 / acc.2 :: centroids half (0, 0) (j + 1) l

/-- The zone B lines of tile `i`. -/
def State.marksOf (s : State) (i : Nat) : List Rat :=
  centroids ((s.fld F.PIPE_SHADE_WHITE_WHITE : Rat) / 2) (0, 0) 0 ((List.range (s.sites i)).map (s.profileAt i))

/-- One tile's measurement before the constants common to the range: D_RED, D_GRN, D_BLU, SCALE, X of photosite 0 in 1/1
pixel less 480·i, a_i and SKEW. -/
structure Meas where
  tile : Nat
  d : List Int
  scale : Int
  xo : Rat
  a : Rat
  skew : Int
  deriving DecidableEq, Repr

/-- The zone B fit of tile `i` (R230): `x0` is the column of the first target line. Zone B lines stand 120 pixels apart. -/
def State.zoneFit (s : State) (i : Nat) (x0 : Rat) : Int × Rat :=
  let pts := (s.marksOf i).map (fun u => (((rheRat ((480 * i + u - x0) / 120) : Int) : Rat), u))
  let (u0, pitch) := fitLine pts
  let q : Rat := if pitch = 0 then 1 else 120 / pitch
  (rheRat ((q - 1) * 2 ^ 20), x0 - u0 * q - 480 * i)

/-- x_j − x_mid in pixels (07_alignment_seams.md R187). -/
def offMid (scale : Int) (j : Nat) : Rat := (2 * (j : Rat) - 477) / 2 * (1 + (scale : Rat) / 2 ^ 20)

/-- The measurement of tile `i` (R230). -/
def State.measure (s : State) (x0 : Rat) (i : Nat) : Meas :=
  let (scale, xo) := s.zoneFit i x0
  let (a, b) := fitLine ((List.range (s.sites i)).map (fun j => (offMid scale j, s.edgeMean i 3 j)))
  ⟨i, [s.measD i 0, s.measD i 1, s.measD i 2], scale, xo, a, rheRat (b * 10 ^ 6)⟩

/-- The declared XO of tile `i` (03_triry_link.md R60): X_ORIGIN of its identity record and FIRST_SITE pixels. -/
def State.declaredXo (s : State) (i : Nat) : Rat :=
  (beAt (s.lane i).ident 14 2 : Rat) * 3 / 63500 + s.firstSite i

/-- The reference of Y_OFF over bar x, in pixels, and the constant of XO (R230): from the whole range, or from the tiles outside
the subset. -/
def State.alignRef (s : State) (a : AlignOp) (ms : List Meas) : (Rat × Rat) × Rat :=
  let outside := ms.filter (fun m => !(decide (a.setFirst ≤ m.tile) && decide (m.tile < a.setFirst + a.setCount)))
  if a.mode = 1 then
    (fitLine (outside.map (fun m => ((480 * m.tile + 240 : Rat), m.a - ((s.recGeo m.tile).yOff : Rat) / 256))),
      meanQ (outside.map (fun m => m.xo - ((s.recGeo m.tile).xo : Rat) / 256)))
  else
    (fitLine (ms.map (fun m => ((480 * m.tile + 240 : Rat), m.a))), meanQ (ms.map (fun m => m.xo - s.declaredXo m.tile)))

/-- The geometry of a measured tile but for its joint. -/
def State.measGeo (s : State) (ref : (Rat × Rat) × Rat) (m : Meas) : Geo :=
  let y := m.a - (ref.1.1 + ref.1.2 * (480 * m.tile + 240))
  ⟨rheRat (256 * y), m.skew, m.d.map Int.toNat ++ [0], rheRat (256 * (m.xo - ref.2)), m.scale, 0, 0, 0, s.sites m.tile⟩

/-! Joints (R230, R231). -/

/-- The aligned crossing of edge `k` over four photosites of a tile from `j0`, all rows averaged (R230). -/
def State.alignedEdge (s : State) (i j0 k : Nat) (g : Geo) : Rat :=
  meanQ ((List.range 4).flatMap (fun r => (List.range 4).map (fun o =>
    let j := j0 + o
    nthD 0 (s.crossings i r j) k + ((nthD 0 g.d r : Nat) : Rat) / 256 - (g.yOff : Rat) / 256
      - (g.skew : Rat) / 10 ^ 6 * offMid g.scale j)))

/-- YDIFF of the joint right of tile `k` at each of the 16 edges. -/
def State.jointEdges (s : State) (k : Nat) (gl gr : Geo) : List Rat :=
  (List.range 16).map (fun e => s.alignedEdge (k + 1) 0 e gr - s.alignedEdge k (gl.sites - 4) e gl)

/-- GAP (R230), in 1/256 pixel. -/
def gapOf (gl gr : Geo) : Int :=
  let xl := (gl.xo : Rat) / 256 + ((gl.sites : Rat) - 1) * (1 + (gl.scale : Rat) / 2 ^ 20)
  rheRat (256 * (480 + (gr.xo : Rat) / 256 - xl - 1))

/-- The columns that would cross the boundary right of tile `k` (R201). -/
def crossOf (k : Nat) (gl gr : Geo) : Int := ((max (gl.last k + 1) (gr.first (k + 1)) : Nat) : Int) - 480 * (k + 1)

/-- YDIFF measured at the joint right of tile `k`, in 1/256 line, and whether it lies outside 07_alignment_seams.md R185. -/
def State.measYdiff (s : State) (k : Nat) (gl gr : Geo) : Int := rheRat (256 * meanQ (s.jointEdges k gl gr))
def State.ydiffBad (s : State) (k : Nat) (gl gr : Geo) : Bool :=
  let y := s.measYdiff k gl gr
  decide (y < -128) || decide (128 < y)

/-- The joint right of tile `k` measured: its geometry bytes 78 to 83, or JOINT_RANGE (R231, 02_sensor_bar.md R35). -/
def State.measJoint (s : State) (k : Nat) (gl gr : Geo) : Option (List Byte) :=
  let es := s.jointEdges k gl gr
  let m := meanQ es
  let gap := gapOf gl gr
  if gap < 0 ∨ 1024 < gap ∨ 8 < (crossOf k gl gr).natAbs then none
  else some (le 2 gap.toNat ++ le 2 (ofSigned 16 (s.measYdiff k gl gr)) ++ be 1 (confOf (meanQ (es.map (fun e => (e - m) * (e - m))))) ++ [0])

/-! The records (R231, R232). -/

/-- The geometry bytes of a tile but for its joint. -/
def Geo.bytes (g : Geo) : List Byte :=
  le 2 (ofSigned 16 g.yOff) ++ le 2 (ofSigned 16 g.skew) ++ le 2 (nthD 0 g.d 0) ++ le 2 (nthD 0 g.d 1) ++ le 2 (nthD 0 g.d 2)
    ++ le 2 (ofSigned 16 g.xo) ++ le 2 (ofSigned 16 g.scale)

/-- A new record (R232): its header from the identity record, the bank of the run as base bank, Ko and Kg 0, NO_SWEEP. -/
def State.newRecord (s : State) (i : Nat) : State :=
  let id := (s.lane i).ident
  let bank := s.bankBytes i (s.active i)
  let t := bankTcal bank
  let head := le 4 0xC0EF5120 ++ be 1 1 ++ be 1 0x0A ++ le 2 i ++ le 4 (identSerial id) ++ le 2 (identVendor id)
    ++ le 2 (identModel id) ++ le 4 0 ++ le 2 (s.firstSite i) ++ le 2 (ofSigned 16 (t - 512)) ++ le 2 (ofSigned 16 (t + 512))
    ++ zeros 102
  s.writeRec i 0 (head ++ bank ++ zeros 240)

/-- A tile whose geometry lies outside 07_alignment_seams.md R185 (R231). -/
def State.alignFail (s : State) (i : Nat) : State := (s.setFld F.TILE_CAL_STATUS_ALIGN_FAIL 1 i).burgee 3 clsWarn 9 i

/-- A measured tile's geometry written (R231, R232), or ALIGN_FAIL. The joint bytes of the record stand. -/
def State.writeGeo (s : State) (ok : Bool) (g : Nat × Geo) : State × Nat :=
  let i := g.1
  if ok then
    let s := if s.recPresent i && s.recLe i 8 4 = identSerial (s.lane i).ident then s else s.newRecord i
    let flags := Nat.lor (s.recLe i 5 1) 1
    let s := s.writeRec i 20 (le 2 (s.firstSite i))
    ((s.writeRec i 5 (be 1 flags)).writeRec i 64 g.2.bytes, 1)
  else (s.alignFail i, 0)

/-- The joint right of tile `k` written, or marked JOINT_RANGE (R231). -/
def State.writeJoint (s : State) (k : Nat) (gl gr : Geo) : State :=
  if !s.recPresent k then s
  else match s.measJoint k gl gr with
    | some l => s.writeRec k 78 l
    | none => (s.writeRec k 78 (zeros 5 ++ [1])).burgee 3 clsWarn 10 k

/-- The comparison of CHECK (R232). -/
def State.checkGeo (s : State) (g : Nat × Geo) : State :=
  let i := g.1
  let old := s.recGeo i
  let dy := g.2.yOff - old.yOff
  let dx := g.2.xo - old.xo
  let bad := decide (4 * s.fld F.PIPE_ALIGN_TOL_Y_TOL < dy.natAbs) || decide (4 * s.fld F.PIPE_ALIGN_TOL_X_TOL < dx.natAbs)
  let s := s.setFlds [(F.TILE_ALIGN_DEV_DY, ofSigned 16 dy), (F.TILE_ALIGN_DEV_DX, ofSigned 16 dx)] i
  if bad then s.setFld F.TILE_CAL_STATUS_ALIGN_CHECK_FAIL 1 i else s

/-- The geometry that tile `i` of the range has after the measurement: measured, or stored for a tile outside the subset. -/
def geoAfter (s : State) (gs : List (Nat × Geo)) (i : Nat) : Geo := (assocGet i gs).getD (s.recGeo i)

/-- The geometry derived and written after the target has passed (R230 to R232). A tile whose YDIFF leaves its range fails as one whose
other values do, and its joints are not written. -/
def State.alignWrite (s : State) (a : AlignOp) : State :=
  let tiles := s.workTiles
  let x0 : Rat := (((tiles.flatMap (fun i => (s.marksOf i).map (fun u => 480 * (i : Rat) + u)))).head?).getD 0
  let ms := tiles.map (s.measure x0)
  let ref := s.alignRef a ms
  let inSet := fun (i : Nat) => a.mode ≠ 1 || (decide (a.setFirst ≤ i) && decide (i < a.setFirst + a.setCount))
  let gs := (ms.filter (fun m => inSet m.tile)).map (fun m => (m.tile, s.measGeo ref m))
  if a.mode = 2 then (gs.foldl State.checkGeo s).setFld F.SYS_OP_STATUS_PROGRESS 0
  else
    let after := tiles.map (fun i => (i, geoAfter s gs i))
    let geo := fun (i : Nat) => (assocGet i after).getD (s.recGeo i)
    let joints := tiles.filter (fun k => decide (k + 1 < a.first + a.count) && (inSet k || inSet (k + 1)) && (geo k).tileOk &&
      (geo (k + 1)).tileOk)
    let bad := joints.filter (fun k => (s.measJoint k (geo k) (geo (k + 1))).isSome && s.ydiffBad k (geo k) (geo (k + 1)))
    let r := gs.foldl (fun (x : State × Nat) g => let y := x.1.writeGeo (g.2.tileOk && !bad.contains g.1) g; (y.1, x.2 + y.2)) (s, 0)
    let s := (bad.filter (fun k => !inSet k)).foldl State.alignFail r.1
    let s := (joints.filter (fun k => !bad.contains k && !bad.contains (k + 1))).foldl (fun s k =>
      s.writeJoint k (geo k) (geo (k + 1))) s
    s.setFld F.SYS_OP_STATUS_PROGRESS r.2

/-- The target has passed (R230): the geometry is derived when every tile found 16 edges. -/
def State.alignCaptured (s : State) (a : AlignOp) : State :=
  if s.workTiles.all (fun i => !(s.eng i).tracks.isEmpty && (s.eng i).tracks.all (fun x => x.cross.length = 16)) then
    (s.alignWrite a).opDone 1 0
  else s.opDone 2 6

/-- No photosite of the range has met an edge yet. -/
def State.noEdges (s : State) : Bool := s.workTiles.all (fun i => (s.eng i).tracks.all (fun x => x.cross.isEmpty))

/-- A capture of CAL_ALIGN that has failed ends (R229). -/
def State.alignProgress (s : State) : State :=
  match s.ops.align with
  | some a => if a.capturing ∧ a.bad ≠ 0 then s.opDone 2 a.bad else s
  | none => s

/-! The thermal sweep (R233, R234). -/

/-- The tiles of a range with T_i, and their sum. -/
def State.tempsOf (s : State) : List (Option Int) := s.workTiles.map s.tileTemp

/-- The captured point (R233): the means of every tile. -/
def State.takePoint (s : State) (e : Eqx) : ThermPt :=
  let xs := s.workTiles.map s.sums
  ⟨mapIdxFrom (fun k i => s.runTcal i (nthD (0, 0) e.tSum k)) 0 s.workTiles, xs.map (fun x => ((x.lref : Int) - x.ldark, (x.ldark : Int))),
    xs.map (fun x => x.px.map x.dark), xs.map (fun x => x.px.map x.white), e.clipped⟩

/-- The lowest and the highest of some integers. -/
def lowI (l : List Int) : Int := l.foldl minI (l.headD 0)
def highI (l : List Int) : Int := l.foldl maxI (l.headD 0)

/-- The temperatures of tile number `k` of the range at every point. -/
def ThermOp.tempsAt (h : ThermOp) (k : Nat) : List Int := h.points.map (fun p => nthD 0 p.temps k)

/-- Every tile's points span SWEEP_K (R233). -/
def ThermOp.swept (h : ThermOp) : Bool :=
  (List.range h.count).all (fun k => let l := h.tempsAt k; decide ((256 * h.sweepK : Nat) ≤ (highI l - lowI l : Int)))

/-- The mean temperature of the range has risen by 0.5 K since the last point (R233). -/
def State.thermDue (s : State) (h : ThermOp) : Bool :=
  let now := s.tempsOf
  match h.points.getLast? with
  | none => false
  | some p => now.all Option.isSome && decide (sumI p.temps + 128 * (h.count : Int) ≤ sumI (now.map (fun t => t.getD 0)))

/-- The fit of one photosite (R234): x_k = T_k − T̄ in kelvin, D_k, normalised whites. Answers the slot, and whether Ko or Kg
clamped. A new defect is marked as R222 marks it, over the base bank's slot `base`. -/
def fitPx (tc minSig base : Nat) (xs : List Rat) (ds ws : List Rat) : Nat × Bool :=
  let sxx := sumQ (xs.map (fun x => x * x))
  let slope := fun (ys : List Rat) => if sxx = 0 then 0 else sumQ ((xs.zip ys).map (fun p => p.1 * p.2)) / sxx
  let gs := (ds.zip ws).map (fun p => if p.2 = p.1 then 0 else (tc : Rat) * 2 ^ 14 / (p.2 - p.1))
  let mg := meanQ gs
  let md := meanQ ds
  -- O and Ko are in 8.4 and 2^−1 of it per kelvin, Kg in 2^−16 of G per kelvin
  let ko := rheRat (2 * slope ds)
  let kg := rheRat (if mg = 0 then 0 else 2 ^ 16 * slope gs / mg)
  let o := clampI (-2048) 2047 (rheRat md)
  let d := rheRat md
  let sig := rheRat (meanQ ws) - o
  if d ≠ o ∨ sig < minSig then (nativeSlot 0 0 (slotKo base) (slotKg base) false true, false)
  else (nativeSlot (clampI 1 0xFFFF (rheRat mg)).toNat o (clampI (-128) 127 ko) (clampI (-128) 127 kg) false false,
    decide (ko ≠ clampI (-128) 127 ko) || decide (kg ≠ clampI (-128) 127 kg))

/-- A white mean normalised to the lamp of the first point (R233). -/
def normWhite (d w : Int) (l1 l : Int) : Rat := if l = 0 then (w : Rat) else (d : Rat) + ((w : Rat) - d) * l1 / l

/-- The fitted base bank of tile number `k` of the range and whether more than 1 % of its photosites clamped. -/
def State.fitTile (s : State) (h : ThermOp) (k i : Nat) : List Byte × Bool :=
  let ts := h.tempsAt k
  let mean := meanQ (ts.map (fun (t : Int) => (t : Rat)))
  let xs := ts.map (fun (t : Int) => ((t : Rat) - mean) / 256)
  let lamps := h.points.map (fun p => nthD (0, 0) p.lamps k)
  let l1 := (lamps.headD (0, 0)).1
  let n := s.sites i
  let base := s.baseBank i
  let minSig := s.fld F.PIPE_EQX_MIN_MIN_SIGNAL
  let clips := h.points.flatMap (·.clips)
  let slots := (List.range 4).flatMap (fun c =>
    let bs := bankSlots base c
    (List.range 478).map (fun j =>
      if n ≤ j then (0, false)
      else if slotDefect (nthD 0 bs j) then (nthD 0 bs j, false)
      else
        let q := 478 * c + j
        let ds := h.points.map (fun p => ((nthD 0 (nthD [] p.dark k) q : Int) : Rat))
        let ws := (h.points.zip lamps).map (fun e => normWhite (nthD 0 (nthD [] e.1.dark k) q) (nthD 0 (nthD [] e.1.white k) q) l1 e.2.1)
        let slot := nthD 0 bs j
        if clips.contains (i, q) then (nativeSlot 0 0 (slotKo slot) (slotKg slot) false true, false)
        else fitPx (s.targetOf c) minSig slot xs ds ws))
  let tcal := rheRat mean
  let l0 := lamps.headD (0, 0)
  let head := bankHead 1 (identSerial (s.lane i).ident) (bankGen base) tcal (rheRat ((lowI ts : Rat) - mean))
    (rheRat ((highI ts : Rat) - mean)) (l0.1 + l0.2).toNat l0.2.toNat
  (bankOf head (slots.map (·.1)), decide (4 * s.sites i < 100 * (slots.filter (·.2)).length))

/-- The model fitted and written over the range (R234). -/
def State.thermFit (s : State) (h : ThermOp) : State :=
  let tiles := s.workTiles
  let fits := mapIdxFrom (fun k i => (k, i, s.fitTile h k i)) 0 tiles
  fits.foldl (fun s f =>
    let i := f.2.1
    let ts := h.tempsAt f.1
    let s := s.writeRec i 128 f.2.2.1
    let s := s.writeRec i 22 (le 2 (ofSigned 16 (lowI ts)) ++ le 2 (ofSigned 16 (highI ts)))
    let s := s.writeRec i 5 (be 1 (Nat.land (s.recLe i 5 1) 0x07))
    if f.2.2.2 then s.burgee 3 clsWarn 11 i else s) s

/-- A captured point taken up (R233): the next one, or the fit when every tile's points span SWEEP_K. The strip stays under the bar
between the points. -/
def State.thermTaken (s : State) (h : ThermOp) (e : Eqx) : State :=
  let s := s.timeModeOff
  let why := s.sumsFault e
  if why ≠ 0 then s.eqxFail { e with reason := why }
  else
    let h := { h with points := h.points ++ [s.takePoint e] }
    let s := ({ s with ops := { s.ops with therm := some h } }).setFld F.SYS_OP_STATUS_PROGRESS h.points.length
    if h.swept then (((s.thermFit h).stripReturn).setEqx none).opDone 1 0
    else s.setEqx none

end Sys2Proof.Machine
end

