-- ==== Sys2Proof/Machine/ScanOps.lean ====
section
/-! DEFINITION. Paced scanning (11_reseam.md R295 to R305): the capacity and its marks, the servo, the phases of a hold. -/

namespace Sys2Proof.Machine

/-- The media axis of the paced group. -/
def State.pacedAxis (s : State) : Nat := (s.mediaAxis s.pacedGroup).getD 0

/-- |RATIO| of the media axis, in 1/2^16 step per pc. -/
def State.pacedRatio (s : State) : Nat := (s.sfld F.MOT_AXIS_RATIO_RATIO s.pacedAxis).natAbs

/-- Mark `k` in lines (R297). -/
def State.markLines (s : State) (k : Nat) : Nat := k * s.fld F.SCAN_CAP_LINES / 1024

/-- v_cmd of a fill (R298). -/
def State.servoSpeed (s : State) (f : Nat) : Nat :=
  let lo := s.markLines (s.fld F.SCAN_MARK0_PACE_LO)
  let hi := s.markLines (s.fld F.SCAN_MARK0_PACE_HI)
  let vmax := s.fld F.SCAN_VMAX_PCS
  let vmin := s.fld F.SCAN_VMIN_PCS
  if f ≤ lo then vmax
  else if hi ≤ f then vmin
  else (rheDiv ((vmax * (hi - lo) - (vmax - vmin) * (f - lo) : Nat) : Int) (hi - lo)).toNat

/-- The servo's tick (R297 to R299): the fill, the commanded speed while pacing, the hold at the HOLD mark. -/
def State.servo (s : State) : State :=
  if !s.job.scan || !(s.op = .running || s.op = .holding) then s
  else
    let s := s.noteFill
    let s := if s.fld F.SCAN_STATUS_PHASE = 1 then s.setFld F.SCAN_VCMD_PCS (s.servoSpeed s.fill) else s
    if s.markLines (s.fld F.SCAN_MARK1_HOLD) ≤ s.fill ∧ (s.op = .running ∨ s.fld F.SCAN_STATUS_PHASE = 5) then s.holdLast 0 else s

/-- The paced entry queued on the paced group (R296, R302). -/
def State.queuePaced (s : State) : State :=
  let v := s.pacedRate s.pacedAxis (s.fld F.SCAN_VMAX_PCS) / 10 ^ 9
  let m : Move := ⟨List.replicate 8 0, v, 1000 * s.fld F.SCAN_ACC_A, 1000 * s.fld F.SCAN_ACC_J, false, true, 0xFFFF, true⟩
  s.modGroup s.pacedGroup (fun y => { y with queue := [m], used := true })

/-- A rational rounded up. -/
def ceilQ (q : Rat) : Nat := (-((-q.num).fdiv q.den)).toNat

/-- d_acc in pc (R303), rounded up: from rest to VMIN at the paced A and J. -/
def State.accelPc (s : State) : Nat :=
  let v := s.fld F.SCAN_VMIN_PCS
  let a := s.fld F.SCAN_ACC_A
  let j := s.fld F.SCAN_ACC_J
  let r := s.pacedRatio
  let flat : Rat := ((v * v * r : Nat) : Rat) / ((2000 * a * 2 ^ 16 : Nat) : Rat)
  if j = 0 then ceilQ flat
  else if a * a * 2 ^ 16 ≤ v * j * r then ceilQ (flat + ((v * a : Nat) : Rat) / ((2000 * j : Nat) : Rat))
  else
    let q : Rat := ((v * v * v * r : Nat) : Rat) / ((j * 10 ^ 6 * 2 ^ 16 : Nat) : Rat)
    let k := sqrtFloor q
    if ((k * k : Nat) : Rat) = q then k else k + 1

/-- B_off (R303). -/
def State.backOff (s : State) : Nat := s.fld F.SCAN_BACKLASH_PC + s.accelPc + ceilDiv (16 * s.linePitch) (2 ^ 32)

/-- The steps from the master's position to the turn position p_back (R302). -/
def State.backSteps (s : State) : Int :=
  let way := diff16 (s.gridPos s.prod.resumeNo - 2 ^ 16 * (s.backOff : Int)) (2 ^ 16 * s.masterPos)
  rheDiv (way * s.sfld F.MOT_AXIS_RATIO_RATIO s.pacedAxis) (2 ^ 32)

/-- BACKING entered (R302): one move to p_back at the paced A and J, at no more than SCAN_VMAX. -/
def State.startBacking (s : State) : State :=
  let s := s.setFlds [(F.SCAN_STATUS_PHASE, 3), (F.SCAN_BACKOFF_PC, s.backOff)]
  let x := s.pacedAxis
  let d := s.backSteps
  let v := max (s.fld F.MOT_GRP_VSTART_RATE s.pacedGroup) (s.pacedRate x (s.fld F.SCAN_VMAX_PCS) / 10 ^ 9)
  let m : Move := ⟨(List.range 8).map (fun y => if y = x then d else 0), v, 1000 * s.fld F.SCAN_ACC_A, 1000 * s.fld F.SCAN_ACC_J,
    false, false, 0xFFFF, true⟩
  let s := { s with scan := { s.scan with back := wrapS 48 ((s.axis x).pos + d) } }
  s.modGroup s.pacedGroup (fun y => { y with queue := [m] })

/-- The hold path gives up (R305): the job ends as under JOB_STOP. -/
def State.scanGiveUp (s : State) (x : Nat) : State := (s.burgee 6 clsWarn 3 x).stopJob

/-- The paced axes enabled as AXIS_ENABLE does (R292, R305): the first that fails with POS_MISMATCH, or none. -/
def State.enablePaced (s : State) : State × Option Nat :=
  (s.axesOf s.pacedGroup).foldl (fun (a : State × Option Nat) x =>
    match a.2 with
    | some _ => a
    | none => let r := a.1.enableAxis x false; (r.1, if r.2 then none else some x)) (s, none)

/-- An axis of the paced group that has STALL set. -/
def State.pacedStall (s : State) : Option Nat := (s.axesOf s.pacedGroup).find? (fun x => s.bit F.MOT_AXIS_STATUS_STALL x)

/-- The paced group at rest goes on to BACKING (R302, R305): at once, or once ESTOP_LATCH is clear and the axes are enabled. -/
def State.scanResume (s : State) : State :=
  if s.bit F.MOT_STATUS_ESTOP_LATCH then s
  else
    let off := (s.axesOf s.pacedGroup).find? (fun x => !s.bit F.MOT_AXIS_STATUS_ENABLED x)
    match s.pacedStall, off with
    | none, none => s.startBacking
    | st, _ =>
      match st with
      | some x =>
        if s.fld F.SCAN_CFG_STALL_RETRY ≤ s.scan.retries then s.scanGiveUp x
        else
          let s := { s with scan := { s.scan with retries := s.scan.retries + 1 } }
          let r := s.enablePaced
          (match r.2 with
            | some y => r.1.scanGiveUp y
            | none => r.1.startBacking)
      | none =>
        let r := s.enablePaced
        match r.2 with
        | some y => r.1.scanGiveUp y
        | none => r.1.startBacking

/-- The paced group is at rest in HOLDING in phase `k`. -/
def State.scanRests (s : State) (k : Nat) : Bool :=
  s.op = .holding && s.fld F.SCAN_STATUS_PHASE = k && !s.groupBusy s.pacedGroup

/-- BRAKING ends at rest (R302). -/
def State.brakingOver (s : State) : State := if s.scanRests 2 then s.scanResume else s

/-- BACKING ends at p_back (R302); a group stopped short of it is enabled and backed again (R305). -/
def State.backingOver (s : State) : State :=
  if !s.scanRests 3 then s
  else if (s.axis s.pacedAxis).pos = s.scan.back then s.setFld F.SCAN_STATUS_PHASE 4
  else s.scanResume

/-- The conditions of R304. -/
def State.mayLeave (s : State) : Bool :=
  decide (s.fill ≤ s.markLines (s.fld F.SCAN_MARK1_RESUME)) && s.span.all (fun i => s.bit F.TILE_LANE_STATUS_BLOCK_LOCK i)
    && s.span.all (fun i => (s.eng i).restarting.isNone) && s.owner.isSome && !s.bit F.MOT_STATUS_ESTOP_LATCH
    && (s.axesOf s.pacedGroup).all (fun x => !s.bit F.MOT_AXIS_STATUS_STALL x && !s.bit F.MOT_AXIS_STATUS_POSITION_LOST x
      && !s.bit F.MOT_AXIS_STATUS_MICROSTEP_UNKNOWN x)

/-- WAITING ends (R302, R304): the group approaches at SCAN_VMIN. -/
def State.waitOver (s : State) : State :=
  if s.scanRests 4 && s.mayLeave then
    (s.setFlds [(F.SCAN_STATUS_PHASE, 5), (F.SCAN_VCMD_PCS, s.fld F.SCAN_VMIN_PCS)]).queuePaced
  else s

/-- A stall of the paced group enters the hold path (R299). -/
def State.scanStall (s : State) (before : List Nat) : State :=
  if s.job.scan && (s.op = .running || s.op = .holding)
      && (s.axesOf s.pacedGroup).any (fun x => s.bit F.MOT_AXIS_STATUS_STALL x && !before.contains x) then s.holdLast 6
  else s

/-- A profile tick of group `g` (10_motion.md R277), with the hold path's share (R299). -/
def State.groupTick (s : State) (g : Nat) : State :=
  let before := (List.range 8).filter (fun x => s.bit F.MOT_AXIS_STATUS_STALL x)
  (s.profileTick g).scanStall before

/-- ESTOP_N's filtered level (10_motion.md R287, R299): a fall stops every axis at once. -/
def State.estopLevel (s : State) (low : Bool) : State :=
  let s := { s with env := { s.env with estop := low } }
  let was := s.bit F.MOT_STATUS_ESTOP
  let s := s.setFld F.MOT_STATUS_ESTOP (b2n low)
  if low ∧ !was then
    let s := (s.stopAllAxes).setFld F.MOT_STATUS_ESTOP_LATCH 1
    if s.job.scan && (s.op = .running || s.op = .holding) then s.holdLast 7 else s
  else s

/-- The level of index input `k` as the searches that use it take it up (10_motion.md R293). -/
def State.searchInput (s : State) (k : Nat) : State :=
  (List.range 4).foldl (fun s g =>
    match (s.group g).homing with
    | some h => if s.fld F.MOT_AXIS_HOME_INPUT h.axis = k then s.homeAdvance g h else s
    | none => s) s

/-- HOLD_DELAY after the axis's group came to rest (10_motion.md R285). -/
def State.holdDelay (s : State) (ax : Nat) : State :=
  let g := s.fld F.MOT_AXIS_CFG_GROUP ax
  if !(decide (g < 4) && s.groupMoving g) ∧ (s.axis ax).restAt + 1000000 * s.fld F.MOT_AXIS_BOOST_HOLD_DELAY ax ≤ s.tb then
    (s.modAxis ax (fun a => { a with hold := true })).setIref ax
  else s

/-- 1 ms after the enabling of an axis (10_motion.md R292). -/
def State.enableOver (s : State) (ax : Nat) : State :=
  match (s.axis ax).enabling with
  | some t => if t ≤ s.tb then s.modAxis ax (fun a => { a with enabling := none, canMove := true }) else s
  | none => s

end Sys2Proof.Machine
end

