-- ==== Sys2Proof/Machine/Operands.lean ====
section
/-! DEFINITION. The forms of the operands: which roles an opcode is legal to and which payload lengths it takes
(15_command_set.md R393, R406 to R414), the select registers (21_register_map.md R523), and the register words of the link tests
(03_triry_link.md R88, 14_host_network.md R388). -/

namespace Sys2Proof.Machine

/-- The roles that an opcode is legal to, none for an unknown opcode. Registers are open to every role here; their own rules
decide (notes c and d). -/
def opRoles (op : Nat) : Option (List Nat) :=
  match op with
  | 0x0101 => some [0, 1, 2]
  | 0x0102 => some [0, 1, 2, 3]
  | 0x0103 => some [0, 1, 2, 3]
  | 0x0104 => some [0, 1]
  | 0x0201 => some [0, 1, 2, 3, 4]
  | 0x0202 => some [0, 1, 2, 3, 4]
  | 0x0203 => some [0, 1, 2, 3, 4]
  | 0x0204 => some [2]
  | 0x0301 => some [0]
  | 0x0302 => some [0]
  | 0x0303 => some [0]
  | 0x0304 => some [0]
  | 0x0305 => some [0, 3]
  | 0x0401 => some [0, 2]
  | 0x0402 => some [2]
  | 0x0403 => some [2]
  | 0x0404 => some [2]
  | 0x0405 => some [2]
  | 0x0501 => some [0]
  | 0x0502 => some [0]
  | 0x0503 => some [0]
  | 0x0504 => some [0]
  | 0x0601 => some [0]
  | 0x0602 => some [2]
  | 0x0701 => some [0]
  | 0x0702 => some [0]
  | 0x0703 => some [0, 1, 2, 3]
  | 0x0801 => some [2]
  | 0x0802 => some [2]
  | 0x0803 => some [2]
  | 0x0804 => some [2]
  | 0x0805 => some [2, 3]
  | 0x0806 => some [2, 3]
  | 0x0807 => some [2]
  | 0x0808 => some [2]
  | 0x0809 => some [2]
  | 0x0901 => some [0, 3]
  | _ => none

/-! Payload lengths (R393, step 8). -/

/-- A list of `n` entries of `w` bytes, 1 to 256 of them. -/
def listLen (w len : Nat) : Bool := len % w = 0 && within (len / w) 1 256

/-- The length is one that the opcode takes (R406 to R412). -/
def opLenOk (op : Nat) (p : Path) (pl : List Byte) : Bool :=
  let n := pl.length
  match op with
  | 0x0101 => n = 20
  | 0x0102 => n = (if p = .bmp then 1 else 0)
  | 0x0103 => n = 32
  | 0x0104 => n = 4
  | 0x0201 => listLen 4 n
  | 0x0202 => listLen 8 n
  | 0x0203 => n = 12
  | 0x0204 => decide (4 ≤ n) && n = 4 + byteAt pl 3
  | 0x0301 => decide (16 ≤ n) && (n - 16) % 8 = 0 && decide (n ≤ 16 + 8 * 256)
  | 0x0402 => n = 28
  | 0x0403 => n = 12
  | 0x0404 => within n 9 8192
  | 0x0405 => n = 1
  | 0x0501 => n = 80
  | 0x0502 => n = 1
  | 0x0503 => n = 1
  | 0x0504 => n = 3
  | 0x0601 => decide (4 ≤ n) && n = 4 + 6 * beAt pl 2 2
  | 0x0602 => n = 2
  | 0x0701 => within n 13 8192
  | 0x0702 => listLen 8 n
  | 0x0802 => n = 4
  | 0x0803 => within n 5 8192
  | 0x0805 => n = 8
  | 0x0806 => n = 4
  | 0x0807 => n = 40
  | 0x0901 => n = 1
  | _ => n = 0

/-! Registers. -/

/-- The address of select register `j` (21_register_map.md R523). -/
def selAddr (j : Nat) : Nat := nthD 0 [0x20000, 0x50000, 0x60000, 0x70000, 0x80000, 0xA0000, 0xB0000] j

/-- TILE_LANE_CTRL with a LOOPBACK and a PRBS. -/
def laneWord (loop prbs : Nat) : Nat := loop % 4 * 2 + prbs % 4 * 8

/-- NET_PORT_TEST with a LOOPBACK and a PRBS. -/
def portWord (loop prbs : Nat) : Nat := loop % 4 + prbs % 4 * 4

end Sys2Proof.Machine
end

