-- ==== Sys2Proof/Machine/MonOps.lean ====
section
/-! DEFINITION. The bar monitor (12_bar_monitor.md): sequences, excitations, results, urgent conversions, wire breaks and the
temperatures of the three-wire RTDs. -/

namespace Sys2Proof.Machine

/-- The domain of the bar monitor, the scheduler, motion and illumination (18_power_startup.md R448). -/
def domUnc : Nat := 144

/-- The window instance of entry `e` of converter `k` (R331). -/
def entryOf (k e : Nat) : Nat := 16 * k + e

/-- The entry in conversion. -/
def State.curEntry (s : State) (k : Nat) : Nat := entryOf k (s.fld F.MON_CONV_STATUS_ENTRY k)

/-- A filter output's 24-bit code (R314), and whether the clamp limited it. -/
def clampCode (c : Int) : Int × Bool := (clampS 24 c, decide (clampS 24 c ≠ c))

/-! Excitations (R322 to R324). -/

def State.exOn (s : State) (x : Nat) : Bool := bitAt (s.fld F.MON_EX_STATUS_ON) x
def State.exRev (s : State) (x : Nat) : Bool := bitAt (s.fld F.MON_EX_STATUS_REVERSED) x
def State.exShort (s : State) (x : Nat) : Bool := bitAt (s.fld F.MON_EX_STATUS_SHORT) x

/-- Bit `k` of a number set to `b`. -/
def putBit (n k : Nat) (b : Bool) : Nat := n - b2n (bitAt n k) * 2 ^ k + b2n b * 2 ^ k

/-- Entry `e` of converter `k` as it is configured now. -/
def State.entryCfg (s : State) (k e : Nat) : EntryCfg :=
  let i := entryOf k e
  ⟨s.fld F.MON_SEQ_IN_INP i, s.fld F.MON_SEQ_IN_INN i, s.fld F.MON_SEQ_IN_GAIN i, s.fld F.MON_SEQ_IN_OSR i, s.bit F.MON_SEQ_EX_REF_EX i,
    s.fld F.MON_SEQ_EX_EX i, s.bit F.MON_SEQ_EX_EX_USE i, s.bit F.MON_SEQ_EX_CHOP i, s.fld F.MON_SEQ_EX_LEAD i⟩

/-- The time of one filter output in ns at an OSR_CODE (R314, R317). -/
def filterNs (osr : Nat) : Nat := 320 * (32 * 2 ^ osr)

/-- The time of one output of the conversion in progress, sequence or urgent. -/
def State.outputNs (s : State) (k : Nat) : Nat :=
  filterNs (match (s.conv k).urgent with
    | some 0 => s.fld F.MON_URG_HOLDUP_CFG_OSR
    | some _ => s.fld F.MON_URG_HEAD_CFG_OSR
    | none => (s.conv k).cfg.osr)

/-- A conversion in progress on converter `k`, its LEAD and its interruption included, uses channel `x` (R320, R322). -/
def State.usesEx (s : State) (k x : Nat) : Bool :=
  let c := s.conv k
  decide (2 ≤ c.phase) && decide (c.phase ≤ 4) && c.cfg.use && c.cfg.ex = x

/-- Every converter whose conversion uses channel `x` restarts its settling (R323): the 4th output from now on is its result. -/
def State.resettle (s : State) (x : Nat) : State :=
  (List.range 4).foldl (fun s k =>
    if s.usesEx k x && (s.conv k).phase = 3 then
      let p := s.outputNs k
      (s.modConv k (fun c => { c with due := c.since + ((s.tb - c.since) / p + 4) * p })).setFld F.MON_CONV_STATUS_SETTLING 1 k
    else s) s

/-- Channel `x` switched to a state (R322); a shorted channel stays off (R324). -/
def State.switchEx (s : State) (x : Nat) (on rev : Bool) : State :=
  let on := on && !s.exShort x
  let rev := rev && on
  if s.exOn x = on ∧ s.exRev x = rev then s
  else ((s.setFld F.MON_EX_STATUS_ON (putBit (s.fld F.MON_EX_STATUS_ON) x on)).setFld F.MON_EX_STATUS_REVERSED
      (putBit (s.fld F.MON_EX_STATUS_REVERSED) x rev)).emit (.excite x on rev)

/-- Channel `x` after a user has gone: on while HOLD_ON or another conversion needs it, else off (R322). -/
def State.releaseEx (s : State) (x : Nat) : State :=
  if (List.range 4).any (fun k => s.usesEx k x) then s
  else s.switchEx x (s.bit F.MON_EX_CFGx_HOLD_ON x) false

/-- A write of HOLD_ON (R322, R323). -/
def State.writeHoldOn (s : State) (x v : Nat) : State :=
  let s := s.setFld F.MON_EX_CFGx_HOLD_ON v x
  let was := s.exOn x
  let s := s.releaseEx x
  if s.exOn x = was then s else s.resettle x

/-! Sequences (R316). -/

/-- Converter `k` converts: the filter is reset and settles, and its 4th output is the result (R316, R317). -/
def State.convSettle (s : State) (k : Nat) : State :=
  (s.modConv k (fun c => { c with phase := 3, since := s.tb, due := s.tb + 4 * filterNs c.cfg.osr })).setFlds [(F.MON_CONV_STATUS_SETTLING, 1), (F.MON_CONV_STATUS_WAIT_EX, 0)] k

/-- Step 2 of an entry's half (R316, R322): its excitation switched, waited for, or already as needed. -/
def State.convExcite (s : State) (k : Nat) : State :=
  let c := s.conv k
  let x := c.cfg.ex
  let rev := c.half
  if !c.cfg.use || s.exShort x then s.convSettle k
  else if s.exOn x ∧ s.exRev x = rev then s.convSettle k
  else if (List.range 4).any (fun j => j ≠ k && s.usesEx j x) then
    (s.modConv k (fun c => { c with phase := 1 })).setFlds [(F.MON_CONV_STATUS_WAIT_EX, 1), (F.MON_CONV_STATUS_SETTLING, 0)] k
  else
    ((s.switchEx x true rev).modConv k (fun c => { c with phase := 2, due := s.tb + 1000 * c.cfg.lead })).setFlds
      [(F.MON_CONV_STATUS_WAIT_EX, 0), (F.MON_CONV_STATUS_SETTLING, 0)] k

/-- An entry begins at step 1, or begins again (R316, R320), with its present configuration (R331). A channel that is short marks its conversion BREAK (R324). -/
def State.convStart (s : State) (k : Nat) : State :=
  let e := s.entryCfg k (s.fld F.MON_CONV_STATUS_ENTRY k)
  let short := e.use && s.exShort e.ex
  (s.modConv k (fun c => { c with half := false, brk := short, clip := false, cfg := e, brkIn := [] })).convExcite k

/-- Converters that wait for an excitation try again, the lower-numbered first (R322). -/
def State.wakeWaiters (s : State) : State :=
  (List.range 4).foldl (fun s k => if (s.conv k).phase = 1 then s.convExcite k else s) s

/-- The sequence of converter `k` runs when RUN is set, and stops otherwise. -/
def State.convRun (s : State) (k : Nat) : State :=
  if s.season domUnc ≠ .summer then s
  else if s.bit F.MON_CONV_CFG_RUN k then
    (if (s.conv k).phase = 0 ∧ (s.conv k).urgent.isNone then (s.setFld F.MON_CONV_STATUS_ENTRY 0 k).convStart k else s)
  else
    let x := (s.conv k).cfg.ex
    let s := s.modConv k (fun c => { c with phase := 0 })
    ((s.setFlds [(F.MON_CONV_STATUS_SETTLING, 0), (F.MON_CONV_STATUS_WAIT_EX, 0)] k).releaseEx x).wakeWaiters

/-- LEAD is over (R316). -/
def State.leadOver (s : State) (k : Nat) : State := if (s.conv k).phase = 2 ∧ (s.conv k).due ≤ s.tb then s.convSettle k else s

/-! Results (R318, R328). -/

/-- A result put into MON_DATA (R318). -/
def State.putData (s : State) (k : Nat) (code : Int) (brk clip : Bool) : State :=
  let s := if s.bit F.MON_DATA_NEW k then (s.setFld F.MON_CONV_STATUS_OVERRUN 1 k).count F.MON_OVERRUN_CNT_COUNT k else s
  let s := s.modConv k (fun c => { c with dataPass := c.pass, dataGain := c.cfg.gain })
  s.setFlds [(F.MON_DATA_RESULT, ofSigned 24 code), (F.MON_DATA_ENTRY, s.fld F.MON_CONV_STATUS_ENTRY k), (F.MON_DATA_BREAK, b2n brk),
    (F.MON_DATA_CLIP, b2n clip), (F.MON_DATA_NEW, 1)] k

/-- A conversion of input `a` has ended; MON_BRK_LIVE clears after BRK_CLR conversions without a break (R328). -/
def State.cleanInput (s : State) (a : Nat) (brk : Bool) : State :=
  if 32 ≤ a ∨ !bitAt (s.fld F.MON_BRK_LIVE_AIN) a then s
  else
    let n := if brk then 0 else (assocGet a s.mon.watch).getD 0 + 1
    if s.fld F.MON_CFG_BRK_CLR ≤ n then
      { s.setFld F.MON_BRK_LIVE_AIN (putBit (s.fld F.MON_BRK_LIVE_AIN) a false) with mon := { s.mon with watch := assocDel a s.mon.watch } }
    else { s with mon := { s.mon with watch := assocSet a n s.mon.watch } }

/-- The entry is done (R316): a reversed excitation returns to normal polarity, converters that waited for it go first, the next entry
starts at once, and the channel turns off where no conversion uses it any more (R322). -/
def State.convNext (s : State) (k : Nat) : State :=
  let x := (s.conv k).cfg.ex
  let back := (s.conv k).half && (s.conv k).cfg.use
  let s := (s.modConv k (fun c => { c with phase := 0 })).setFld F.MON_CONV_STATUS_SETTLING 0 k
  let s := if back then s.switchEx x (s.exOn x) false else s
  let n := s.fld F.MON_CONV_STATUS_ENTRY k
  let wrap := decide (s.fld F.MON_CONV_CFG_LEN k ≤ n)
  let s := s.setFld F.MON_CONV_STATUS_ENTRY (if wrap then 0 else n + 1) k
  let s := if wrap then s.modConv k (fun c => { c with pass := c.pass + 1 }) else s
  let s := s.wakeWaiters
  (if s.bit F.MON_CONV_CFG_RUN k then s.convStart k else s).releaseEx x

/-- The 4th output of a conversion (R316). -/
def State.convEnd (s : State) (k : Nat) (code : Int) (brk clip : Bool) : State :=
  let c := s.conv k
  if c.phase ≠ 3 ∨ c.urgent.isSome ∨ s.tb < c.due then s
  else
    let (code, lim) := clampCode code
    let brk := brk || c.brk
    let clip := clip || lim || c.clip
    let s := (s.setFld F.MON_FORCE_OUTPUT (ofSigned 24 code) k).modConv k (fun c => { c with outUrg := false })
    if c.cfg.chop ∧ !c.half then
      (s.modConv k (fun c => { c with half := true, first := code, brk := brk, clip := clip })).convExcite k
    else
      let sg : Int := if c.cfg.refEx then 1 else -1
      let r := if c.cfg.chop then rheDiv (c.first + sg * code) 2 else code
      let s := s.putData k r brk clip
      let s := (if c.cfg.inp = c.cfg.inn then [c.cfg.inp] else [c.cfg.inp, c.cfg.inn]).foldl (fun s a => s.cleanInput a (c.brkIn.contains a)) s
      s.convNext k

/-- A wire break on input `a` (R327, R328): an input that a conversion in progress watches. -/
def State.wireBroken (s : State) (a : Nat) : State :=
  let users := (List.range 4).filter (fun k =>
    let c := s.conv k
    (c.phase = 2 || (c.phase = 3 && c.urgent.isNone)) && c.cfg.use && s.exOn c.cfg.ex && (c.cfg.inp = a || c.cfg.inn = a))
  if users.isEmpty ∨ 32 ≤ a then s
  else
    let s := users.foldl (fun s k => s.modConv k (fun c => { c with brk := true, brkIn := a :: c.brkIn })) s
    let isNew := !bitAt (s.fld F.MON_BRK_LIVE_AIN) a
    let s := s.setFlds [(F.MON_BRK_LIVE_AIN, putBit (s.fld F.MON_BRK_LIVE_AIN) a true),
      (F.MON_BRK_LATCH_AIN, putBit (s.fld F.MON_BRK_LATCH_AIN) a true)]
    let s := { s with mon := { s.mon with watch := assocSet a 0 s.mon.watch } }
    if isNew then s.burgee 7 clsWarn 1 a else s

/-- The protection of a channel (R324). -/
def State.exShorted (s : State) (x : Nat) : State :=
  let s := (List.range 4).foldl (fun s k => if s.usesEx k x then s.modConv k (fun c => { c with brk := true }) else s) s
  let s := (s.switchEx x false false).resettle x
  (s.setFld F.MON_EX_STATUS_SHORT (putBit (s.fld F.MON_EX_STATUS_SHORT) x true)).burgee 7 clsWarn 2 x

/-! Urgent conversions (R320, R321). -/

/-- The filter is reset for an urgent conversion. -/
def State.urgentBegin (s : State) (k : Nat) : State :=
  s.modConv k (fun c => { c with since := s.tb, due := s.tb + 4 * s.outputNs k })

/-- An urgent request of kind `kind` for converter `k` (R320): `chain` names the chain of a HEADROOM. -/
def State.urgentAsk (s : State) (k kind chain : Nat) : State :=
  let c := s.conv k
  let s := s.modConv k (fun c => if kind = 0 then { c with urgHold := true } else { c with urgHead := some (c.urgHead.getD chain) })
  if c.urgent.isSome then s
  else
    let ph := if c.phase = 0 then 0 else if c.phase = 1 then 5 else 4
    ((s.modConv k (fun c => { c with phase := ph, urgent := some kind })).urgentBegin k).setFlds
      [(F.MON_CONV_STATUS_URGENT, 1), (F.MON_CONV_STATUS_WAIT_EX, 0), (F.MON_CONV_STATUS_SETTLING, 1)] k

/-- The supply of a chain as its urgent conversion found it (R321). -/
def State.supplySeen (s : State) (chain : Nat) (code : Int) : State :=
  if code.fdiv 256 < s.fld F.MON_URG_HEAD_CFG_SUP_MIN then s.burgee 5 clsWarn 7 chain else s

/-- An urgent conversion ends (R320): its result, then the other kind or the sequence. -/
def State.urgentOver (s : State) (k : Nat) (code : Int) (brk clip : Bool) : State :=
  let c := s.conv k
  match c.urgent with
  | none => s
  | some kind =>
    if s.tb < c.due then s
    else
    let (code, lim) := clampCode code
    let s := s.setFlds [(F.MON_URG_DATA_RESULT, ofSigned 24 code), (F.MON_URG_DATA_KIND, kind), (F.MON_URG_DATA_BREAK, b2n brk),
      (F.MON_URG_DATA_CLIP, b2n (clip || lim)), (F.MON_URG_DATA_NEW, 1), (F.MON_FORCE_OUTPUT, ofSigned 24 code)] k
    let s := if kind = 0 then { s with env := { s.env with holdupCode := code.toNat } } else s.supplySeen (c.urgHead.getD 0) code
    let s := s.modConv k (fun c => if kind = 0 then { c with urgHold := false, outUrg := true } else { c with urgHead := none, outUrg := true })
    let c := s.conv k
    if c.urgHold then (s.modConv k (fun c => { c with urgent := some 0 })).urgentBegin k
    else if c.urgHead.isSome then (s.modConv k (fun c => { c with urgent := some 1 })).urgentBegin k
    else
      let s := (s.modConv k (fun c => { c with urgent := none })).setFlds
        [(F.MON_CONV_STATUS_URGENT, 0), (F.MON_CONV_STATUS_SETTLING, 0)] k
      if s.bit F.MON_CONV_CFG_RUN k then s.convStart k else s.modConv k (fun c => { c with phase := 0 })

/-! RTDs (R325 to R329). -/

/-- R(T)/R0 of IEC 60751 (R326). -/
def rtdRatio (t : Rat) : Rat :=
  let base := 1 + t * 39083 / 10 ^ 7 - t * t * 5775 / 10 ^ 10
  if t < 0 then base - 4183 / 10 ^ 15 * (t - 100) * t * t * t else base

/-- The largest code `c` for which the ratio at c − 1/2 codes does not exceed `q`, from bit `k` down. -/
def rtdSearch (q : Rat) : Nat → Int → Int
  | 0, c => c
  | k + 1, c =>
    let d := c + 2 ^ k
    rtdSearch q k (if d ≤ 32767 ∧ rtdRatio ((2 * (d : Rat) - 1) / 512) ≤ q then d else c)

/-- T as signed 8.8 °C, rounded half to even (R326). -/
def rtdCode (q : Rat) : Int :=
  let c := rtdSearch q 17 (-32768)
  if rtdRatio ((2 * (c : Rat) - 1) / 512) = q ∧ c % 2 ≠ 0 then c - 1 else c

/-- R_RTD/R0 from the codes of a pass, each with its GAIN_CODE (R325), none where the formula has no value. -/
def State.rtdValue (s : State) (r : Nat) (a b : Int × Nat) : Option Rat :=
  let ratio := fun (c : Int × Nat) => (c.1 : Rat) / ((2 ^ (23 + c.2) : Nat) : Rat)
  let ra : Rat := ratio a
  let rb : Rat := ratio b
  let r0 : Rat := if s.bit F.MON_RTD_CFG_TYPE r then 10 ^ 6 else 10 ^ 5
  if 1 - ra - rb = 0 then none
  else some ((s.fld F.MON_RTD_RREF_MOHM r : Rat) * (rb - ra) / (1 - ra - rb) / r0)

/-- The entries of RTD `r` meet the connection of a three-wire RTD (R329). -/
def State.rtdWired (s : State) (r : Nat) : Bool :=
  let k := s.fld F.MON_RTD_CFG_CONV r
  let l := entryOf k (s.fld F.MON_RTD_CFG_ENTRY_LEAD r)
  let m := entryOf k (s.fld F.MON_RTD_CFG_ENTRY_MAIN r)
  s.bit F.MON_SEQ_EX_REF_EX l && s.bit F.MON_SEQ_EX_REF_EX m && s.bit F.MON_SEQ_EX_EX_USE l && s.bit F.MON_SEQ_EX_EX_USE m
    && s.fld F.MON_SEQ_EX_EX l = s.fld F.MON_SEQ_EX_EX m && s.fld F.MON_SEQ_IN_INN l = s.fld F.MON_SEQ_IN_INP m
    && s.fld F.MON_SEQ_IN_INN m = 48 + s.fld F.MON_SEQ_EX_EX m

def State.rtd (s : State) (r : Nat) : Rtd := nthD {} s.mon.rtds r
def State.modRtd (s : State) (r : Nat) (f : Rtd → Rtd) : State := { s with mon := { s.mon with rtds := modifyNth f r s.mon.rtds } }

/-- Every enabled RTD's entries held against the connection it needs (R329): one that does not meet it has no value, and its burgee is
raised once. -/
def State.rtdsCheck (s : State) : State :=
  (List.range 8).foldl (fun s r =>
    if s.bit F.MON_RTD_CFG_EN r && !s.rtdWired r then
      let s := if (s.rtd r).wrong then s else s.burgee 7 clsWarn 3 r
      (s.modRtd r (fun x => { x with wrong := true, lead := none, main := none })).setFld F.MON_RTD_T_NONE 1 r
    else s.modRtd r (fun x => { x with wrong := false })) s

/-- A result of an entry of RTD `r` (R325, R328): `pass` is the pass it belongs to, `code` its code and gain, none when it is not valid. -/
def State.rtdTake (s : State) (r pass e : Nat) (code : Option (Int × Nat)) (brk : Bool) : State :=
  let isLead := decide (s.fld F.MON_RTD_CFG_ENTRY_LEAD r = e)
  let isMain := decide (s.fld F.MON_RTD_CFG_ENTRY_MAIN r = e)
  if (!isLead && !isMain) || (s.rtd r).wrong then s
  else
    let s := s.modRtd r (fun x =>
      { x with broken := x.broken || brk,
               lead := if isLead then code.map (fun c => (pass, c)) else x.lead,
               main := if isMain then code.map (fun c => (pass, c)) else x.main })
    let s := if brk then s.setFld F.MON_RTD_T_STALE 1 r else s
    match (s.rtd r).lead, (s.rtd r).main with
    | some (pa, a), some (pb, b) =>
      if pa ≠ pb then s
      else match s.rtdValue r a b with
        | none => s
        | some q =>
          (s.modRtd r (fun x => { x with broken := false })).setFlds
            [(F.MON_RTD_T_T, ofSigned 16 (rtdCode q)), (F.MON_RTD_T_STALE, 0), (F.MON_RTD_T_NONE, 0)] r
    | _, _ => s

/-- Firmware reads MON_DATA of converter `k` (R318, R325): NEW clears, and the RTDs of its entry take the code. -/
def State.monRead (s : State) (k : Nat) : State :=
  if !s.bit F.MON_DATA_NEW k then s
  else
    let s := s.setFld F.MON_DATA_NEW 0 k
    let e := s.fld F.MON_DATA_ENTRY k
    let brk := s.bit F.MON_DATA_BREAK k
    let code := if brk || s.bit F.MON_DATA_CLIP k then none else some (s.sfld F.MON_DATA_RESULT k, (s.conv k).dataGain)
    let pass := (s.conv k).dataPass
    ((List.range 8).filter (fun r => s.bit F.MON_RTD_CFG_EN r && s.fld F.MON_RTD_CFG_CONV r = k)).foldl (fun s r =>
      s.rtdTake r pass e code brk) s

/-- Every enabled RTD has a value or has been found BREAK (R329); one that is wrongly connected never has one. -/
def State.rtdsKnown (s : State) : Bool :=
  (List.range 8).all (fun r => !s.bit F.MON_RTD_CFG_EN r || !s.bit F.MON_RTD_T_NONE r || (s.rtd r).broken || (s.rtd r).wrong)

/-- The last filter output is a discarded one (R319): one has come since the filter was reset, and not the result. -/
def State.discarding (s : State) (k : Nat) : Bool :=
  ((s.conv k).phase = 3 || (s.conv k).urgent.isSome) && decide ((s.conv k).since + s.outputNs k ≤ s.tb)

/-- The monitor stops (R330): sequences and excitations off, results lost. -/
def State.monStop (s : State) : State :=
  let s := (List.range 8).foldl (fun s x => s.switchEx x false false) s
  let s := (List.range 4).foldl (fun s k => s.setFlds [(F.MON_CONV_STATUS_ENTRY, 0), (F.MON_CONV_STATUS_URGENT, 0),
    (F.MON_CONV_STATUS_SETTLING, 0), (F.MON_CONV_STATUS_WAIT_EX, 0), (F.MON_DATA_RESULT, 0), (F.MON_DATA_ENTRY, 0), (F.MON_DATA_BREAK, 0),
    (F.MON_DATA_NEW, 0), (F.MON_DATA_CLIP, 0), (F.MON_URG_DATA_RESULT, 0), (F.MON_URG_DATA_KIND, 0), (F.MON_URG_DATA_BREAK, 0),
    (F.MON_URG_DATA_CLIP, 0), (F.MON_URG_DATA_NEW, 0), (F.MON_FORCE_OUTPUT, 0)] k) s
  let s := (List.range 8).foldl (fun s r => s.setFlds [(F.MON_RTD_T_T, 0), (F.MON_RTD_T_STALE, 0), (F.MON_RTD_T_NONE, 1)] r) s
  { s with mon := {} }

/-- The monitor starts (R329, R331): NONE on every RTD, the sequences with RUN set begin. -/
def State.monStart (s : State) : State :=
  let s := { s with mon := {} }
  let s := (List.range 8).foldl (fun s r => s.setFlds [(F.MON_RTD_T_STALE, 0), (F.MON_RTD_T_NONE, 1)] r) s
  let s := (List.range 8).foldl (fun s x => s.releaseEx x) s.rtdsCheck
  (List.range 4).foldl (fun s k => s.convRun k) s

end Sys2Proof.Machine
end

