-- ==== Sys2Proof/Machine/QdrOps.lean ====
section
/-! DEFINITION. Line memory (13_memory_block_mover.md R332 to R346): its configuration, deskew tracking, error checking by
region, scrubbing; and the block mover (R347 to R356). -/

namespace Sys2Proof.Machine

/-! Calibration records read from flash (08_calibration.md R213, R214). -/

/-- The CRC-32C of a record over bytes 0 to 59, then 64 to 23,295 (R212). -/
def recCrc (l : List Byte) : Nat := crc32c (l.take 60 ++ l.drop 64)

/-- The bytes of slot `i` in copy `b`, 0 CS_A and 1 CS_B. -/
def State.calSlot (s : State) (b i : Nat) : List Byte := s.readMem (flashCal b i) 23296

/-- The record is valid for slot `i` (R213). -/
def recValid (i : Nat) (l : List Byte) : Bool :=
  ofLe (slice l 0 4) = 0xC0EF5120 && byteAt l 4 = 1 && ofLe (slice l 60 4) = recCrc l && ofLe (slice l 6 2) = i

def recGen (l : List Byte) : Nat := ofLe (slice l 16 4)

/-- The record that slot `i` gives (R213), with the burgees its copies raise. -/
def State.takeRecord (s : State) (i : Nat) : State × Option (List Byte) :=
  let a := s.calSlot 0 i
  let b := s.calSlot 1 i
  let erased := slotErased a && slotErased b
  match recValid i a, recValid i b with
  | true, true => (s, some (if recGen a < recGen b then b else a))
  | true, false => (s.burgee 3 clsWarn 2 i 0 1, some a)
  | false, true => (s.burgee 3 clsWarn 2 i 0 0, some b)
  | false, false => (if erased then s else s.burgee 3 clsWarn 3 i, none)

/-- Slot `i` of the QDR calibration copy filled from flash (R214). -/
def State.fillSlot (s : State) (i : Nat) : State :=
  let (s, r) := s.takeRecord i
  match r with
  | some l => (s.writeMem (recAddr i) (l.take 11648)).writeMem (recAddr i + 11888) [1]
  | none => s.writeMem (recAddr i + 11888) [0]

/-! Configuration (R332, R344). -/

/-- The usable size in MiB (R332). -/
def State.qdrMib (s : State) : Nat :=
  match s.fld F.QDR_CFG_DEVICES + s.fld F.QDR_CFG_DENSITY with
  | 0 => 32
  | 1 => 64
  | _ => 128

/-- RATE in MT/s (R332). -/
def State.qdrRate (s : State) : Nat :=
  match s.fld F.QDR_CFG_RATE with
  | 0 => 2133
  | 1 => 1866
  | 2 => 1600
  | 3 => 1333
  | _ => 1066

/-- The usable words' end. -/
def State.qdrEnd (s : State) : Nat := s.fld F.QDR_SIZE_MIB * 2 ^ 20

/-- Training and initialisation of the channels (R334): `causes` gives each channel's FAIL_CAUSE, 0 for none. The fill leaves
every usable word zero. -/
def State.qdrInit (s : State) (causes : List Nat) : State :=
  let s := (List.range 4).foldl (fun s c =>
    let k := nthD 0 causes c
    if k = 0 then s.setFlds [(F.QCH_STATUS_TRAINED, 1), (F.QCH_STATUS_TRAIN_FAIL, 0), (F.QCH_STATUS_FAIL_CAUSE, 0)] c
    else (s.setFlds [(F.QCH_STATUS_TRAINED, 0), (F.QCH_STATUS_TRAIN_FAIL, 1), (F.QCH_STATUS_FAIL_CAUSE, k)] c).burgee 8 clsWarn 1 c 0 k) s
  let ok := (List.range 4).all (fun c => nthD 0 causes c = 0)
  let s := s.setFlds [(F.QDR_STATUS_USABLE, b2n ok), (F.QDR_SIZE_MIB, s.qdrMib), (F.QDR_BW_USABLE_MBPS, 32 * s.qdrRate),
    (F.QDR_BW_ADMIT_MBPS, 32 * s.qdrRate - 4500), (F.QDR_ELASTIC_SIZE_BYTES, s.qdrMib * 2 ^ 20 - 0x1C00000)]
  { s.clearMem 0 (2 ^ 27) with bad := [], scrub := 0 }

/-- A delay after a measurement: at most one tap from where it was (R335). -/
def trackTap (old new : Nat) : Nat := (clampI ((old : Int) - 1) ((old : Int) + 1) (new : Int)).toNat

/-- The block of the fixed scratch region that channel `c` trains on, one of its last four (R333, R335): what the measurement leaves
there is not given, a free value, assumption log 2. -/
def State.deskewBlock (s : State) (c : Nat) : State :=
  ({ s with free := s.free + 64 }).writeMem (0x1BFFF00 + 64 * (c % 4)) ((List.range 64).map (fun j => BitVec.ofNat 8 (Config.freeValue (s.free + j))))

/-- A channel's deskew re-measured (R335). -/
def State.deskew (s : State) (m : Deskew) : State :=
  let s := s.deskewBlock m.ch
  let s := s.setFlds [(F.QCH_DESKEW_READ_MIN, trackTap (s.fld F.QCH_DESKEW_READ_MIN m.ch) m.rdMin),
    (F.QCH_DESKEW_READ_MAX, trackTap (s.fld F.QCH_DESKEW_READ_MAX m.ch) m.rdMax),
    (F.QCH_DESKEW_WRITE_MIN, trackTap (s.fld F.QCH_DESKEW_WRITE_MIN m.ch) m.wrMin),
    (F.QCH_DESKEW_WRITE_MAX, trackTap (s.fld F.QCH_DESKEW_WRITE_MAX m.ch) m.wrMax)] m.ch
  if m.limit then (s.setFld F.QCH_STATUS_TRACK_LIMIT 1 m.ch).burgee 8 clsWarn 3 m.ch else s

def State.deskewAll (s : State) (l : List Deskew) : State :=
  if s.qdrUsable then (l.filter (fun m => decide (m.ch < 4))).foldl State.deskew s else s

/-! Uncorrectable errors by region (R337, R340). -/

/-- The channel of a QDR address (R333). -/
def qdrCh (a : Nat) : Nat := a / 64 % 4

/-- An uncorrectable word in slot `i` of the calibration copy, at offset `o`. -/
def State.ueRecord (s : State) (a : Nat) : State :=
  let i := a / 12288
  let o := a % 12288
  if !s.recPresent i then s
  else if s.recUnsaved i then (s.writeMem (recAddr i + 11888) [0]).burgee 3 clsWarn 5 i
  else
    let s := s.fillSlot i
    if 11648 ≤ o ∧ o < 11888 then
      let (v, s) := s.draw
      s.writeMem a (le 8 v)
    else { s with bad := s.bad.filter (· ≠ a) }

/-- An uncorrectable word in the bank-image area: the image is lost, and CAL_LOST names the tile. -/
def State.ueImage (s : State) (a : Nat) : State :=
  let one := if s.bit F.PIPE_SHADE_CFG_FORM then 34560 else 23040
  s.burgee 3 clsWarn 5 (s.job.first + (a - 0x1C00000) / one)

/-- An uncorrectable word in a line of the elastic buffer: a hold where the OWNER has yet to acknowledge it, and a gap for every
other session that has (R340, 14_host_network.md R384). Answers whether the word was unresolved. -/
def State.ueLine (s : State) (a : Nat) : State × Bool :=
  match s.prod.elastic.find? (fun l => !l.lost && decide (l.addr ≤ a + 7) && decide (a < l.addr + l.len)) with
  | none => (s, false)
  | some l =>
    let owed := s.openSessions.filter (fun k => (s.session k).tx.unresolved.contains (l.n, l.rend))
    if owed.isEmpty then (s, false)
    else if s.job.scan ∧ (s.op = .running ∨ s.op = .holding) ∧ owed.any (fun k => s.roleOf k = 0) then (s.hold 4 l.n false, true)
    else
      let lost := s.prod.elastic.map (fun (x : OutLine) => if x.n = l.n ∧ x.rend = l.rend then { x with lost := true } else x)
      let s := { s with prod := { s.prod with elastic := lost } }
      ((owed.foldl (fun s k => s.gapLine k l.n l.rend 1) s).pruneElastic, true)

/-- A read of word `a` that answers with an error (R337, R338), and what it does by region (R340). -/
def State.qdrError (s : State) (a : Nat) : State :=
  let s := ((s.count F.QCH_UE_CNT_COUNT (qdrCh a)).setFld F.QCH_UE_ADDR_ADDR a (qdrCh a))
  let warn := fun (s : State) => s.burgee 8 clsWarn 2 (qdrCh a) 0 a
  if a < 0x600000 then (warn s).ueRecord a
  else if a < 0x1600000 then
    let r := s.ana.refRows.filter (fun r => decide (a + 8 ≤ s.refAddr r) || decide (s.refAddr r + refSlot s.job.count ≤ a))
    warn { s with ana := { s.ana with refRows := r } }
  else if a < 0x1A00000 then warn s
  else if a < 0x1C00000 then
    -- firmware's other copy stands
    warn { s with bad := s.bad.filter (· ≠ a) }
  else if a < s.fld F.QDR_ELASTIC_BASE_ADDR then (warn s).ueImage a
  else
    let (s, live) := s.ueLine a
    if live then s.recovered 8 2 (qdrCh a) (if s.op = .holding then 6 else 7) a s.tb else warn s

/-- Word `a` found to hold an uncorrectable error, which it keeps until it is written again (R337). -/
def State.qdrUe (s : State) (a : Nat) : State := ({ s with bad := a :: s.bad.filter (· ≠ a) }).qdrError a

/-- The first word of `[a, a + n)` that holds an uncorrectable error. -/
def State.badWord (s : State) (a n : Nat) : Option Nat := (s.bad.filter (fun w => decide (a < w + 8) && decide (w < a + n))).min?

/-! Scrubbing (R339). -/

/-- The flipped bits of a word, each named once. -/
def flipsOf (l : List Nat) : List Nat := dedup (l.filter (· < 72))

/-- A scrub read of a word that holds `flips`, its command flagged `flags` times (R337 to R339). What three or more flips read as
is not given: a free value decides whether they are detected, and what the word then reads. -/
def State.scrubWord (s : State) (a : Nat) (flips : List Nat) (flags : Nat) : State :=
  let s := s.count F.QCH_AP_ERR_CNT_COUNT (qdrCh a) (min flags 2)
  if 2 ≤ flags then s.qdrError a
  else if s.bad.contains a then s.qdrUe a
  else
    match flipsOf flips with
    | [] => s
    | [_] =>
      let (v, s) := s.draw
      (s.count F.QCH_CE_CNT_COUNT (qdrCh a)).setFlds [(F.QCH_CE_ADDR_ADDR, a), (F.QCH_CE_SYN_SYN, v)] (qdrCh a)
    | [_, _] => s.qdrUe a
    | _ =>
      let (v, s) := s.draw
      if v % 2 = 1 then s.qdrUe a
      else
        let (w, s) := s.draw
        s.writeMem a (le 8 w)

/-- The scrubber reads its next word (R339). -/
def State.scrubNext (s : State) (flips : List Nat) (flags : Nat) : State :=
  if !s.qdrUsable || !s.bit F.QDR_SCRUB_EN then s
  else
    let a := s.scrub
    let s := s.scrubWord a flips flags
    if s.qdrEnd ≤ a + 8 then { s.wrapInc F.QDR_STATUS_SCRUB_PASSES with scrub := 0 } else { s with scrub := a + 8 }

/-! The block mover: regions and checks (R348, R350). -/

/-- The bounds at which the regions of a space end, ascending, as offsets. -/
def sramBounds : List Nat := [0x1E60, 0x4B60, 0x7860, 0x1E4E0, 0x21270, 0x28A70, 0x2CA70, 0x2EA70]
def flashBounds : List Nat :=
  [0x800000, 0x1000000, 0x1010000, 0x1020000, 0x1030000, 0x1040000, 0x1050000, 0x1100000, 0x1200000, 0x1600000, 0x2600000,
    0x3600000, 2 ^ 32]
def State.qdrBounds (s : State) : List Nat :=
  [0x600000, 0x1600000, 0x1A00000, 0x1C00000, s.fld F.QDR_ELASTIC_BASE_ADDR, s.qdrEnd]

/-- The end of the region that holds address `a`, none where no region does. -/
def State.regionEnd (s : State) (a : Nat) : Option Nat :=
  let sp := a / 2 ^ 36
  let o := a % 2 ^ 36
  let within := fun (base o : Nat) (l : List Nat) => (l.find? (fun b => decide (o < b))).map (base + ·)
  if sp = 0 then within 0 o s.qdrBounds
  else if sp = 1 then (if 2 ^ 27 ≤ o then none else within (a - o % 2 ^ 18) (o % 2 ^ 18) (sramBounds ++ [0x30000]))
  else if sp = 2 then (if 2 ^ 27 ≤ o then none else within (a - o % 2 ^ 18) (o % 2 ^ 18) [32768])
  else if sp = 3 then within spaceCtl o [2 ^ 21]
  else if sp = 4 then within spaceFlash o flashBounds
  else none

/-- A range lies in one region. -/
def State.rangeOk (s : State) (a n : Nat) : Bool := n = 0 || (s.regionEnd a).any (fun e => decide (a + n ≤ e))

def State.bmvOp (s : State) (c : Nat) : Nat := s.fld F.BMV_CTRL_OP c
def State.bmvLen (s : State) (c : Nat) : Nat := 64 * s.fld F.BMV_LEN_BLOCKS c
def State.bmvPasses (s : State) (c : Nat) : List Nat := List.range (s.fld F.BMV_CTRL_REPEAT c + 1)

/-- The operation reads its source; it writes its destination. -/
def State.bmvReads (s : State) (c : Nat) : Bool := s.bmvOp c % 2 = 0
def State.bmvWrites (s : State) (c : Nat) : Bool := s.bmvOp c < 2

/-- The source and destination of pass `p` (R349). -/
def State.bmvSrc (s : State) (c p : Nat) : Nat :=
  (s.fld F.BMV_SRC_HI_ADDR c * 2 ^ 32 + s.fld F.BMV_SRC_LO_ADDR c + p * s.fld F.BMV_SRC_STRIDE_BYTES c) % 2 ^ 40
def State.bmvDst (s : State) (c p : Nat) : Nat :=
  (s.fld F.BMV_DST_HI_ADDR c * 2 ^ 32 + s.fld F.BMV_DST_LO_ADDR c + p * s.fld F.BMV_DST_STRIDE_BYTES c) % 2 ^ 40

/-- A destination that channel `c` may not write, and a place that BMV6 and BMV7 may not use (R350, R356). -/
def State.bmvProt (s : State) (c p : Nat) : Bool :=
  let d := s.bmvDst c p
  let inner := fun (a : Nat) => decide (1 ≤ a / 2 ^ 36) && decide (a / 2 ^ 36 ≤ 3)
  let unalloc := s.bmvWrites c && d / 2 ^ 36 = 1 && decide (0x2EA70 ≤ d % 2 ^ 18)
  let svc := decide (6 ≤ c) && (inner d || (s.bmvReads c && inner (s.bmvSrc c p))
    || (s.bmvWrites c && decide (d < s.fld F.QDR_ELASTIC_BASE_ADDR)))
  unalloc || svc

/-- The checks of a submission, in order (R350): the ERR code, 0 for none. -/
def State.bmvCheck (s : State) (c : Nat) : Nat :=
  let ps := s.bmvPasses c
  let n := s.bmvLen c
  let rd := s.bmvReads c
  let odd := fun (x : Nat) => x % 8 ≠ 0
  if odd (s.bmvDst c 0) || odd (s.fld F.BMV_DST_STRIDE_BYTES c) || (rd && (odd (s.bmvSrc c 0) || odd (s.fld F.BMV_SRC_STRIDE_BYTES c))) then 1
  else if ps.any (fun p => decide (5 ≤ s.bmvDst c p / 2 ^ 36) || (rd && decide (5 ≤ s.bmvSrc c p / 2 ^ 36))
      || (s.bmvWrites c && s.bmvDst c p / 2 ^ 36 = 4)) then 2
  else if ps.any (fun p => !s.rangeOk (s.bmvDst c p) n || (rd && !s.rangeOk (s.bmvSrc c p) n)) then 3
  else if ps.any (s.bmvProt c) then 4
  else 0

/-- A write of 1 to GO (R347): cleared counts, the checks, PENDING. -/
def State.bmvGo (s : State) (c : Nat) : State :=
  let st := s.fld F.BMV_STATUS_STATE c
  if st = 1 ∨ st = 2 then s
  else
    let s := s.setFlds [(F.BMV_STATUS_ERR, 0), (F.BMV_STATUS_MISMATCH, 0), (F.BMV_CMP_CNT_COUNT, 0)] c
    let e := s.bmvCheck c
    if e = 0 then s.setFld F.BMV_STATUS_STATE 1 c else s.setFld F.BMV_STATUS_ERR e c

/-- A write of BMV_CTRL: the descriptor's fields outside PENDING and RUNNING, then GO (R347) and ABORT (R355). -/
def State.bmvDescr (s : State) (c v : Nat) : State :=
  let st := s.fld F.BMV_STATUS_STATE c
  if st = 1 ∨ st = 2 then s
  else s.setFlds [(F.BMV_CTRL_OP, v), (F.BMV_CTRL_REPEAT, v / 4), (F.BMV_CTRL_EV, v / 2 ^ 11), (F.BMV_CTRL_EV_EN, v / 2 ^ 17)] c

/-- The engine free again. -/
def State.bmvFree (s : State) (c : Nat) : State :=
  if s.bit F.BMV_ENGINE_BUSY ∧ s.fld F.BMV_ENGINE_CH = c then s.setFld F.BMV_ENGINE_BUSY 0 else s

/-- A write of 1 to ABORT (R355). -/
def State.bmvAbort (s : State) (c : Nat) : State :=
  match s.fld F.BMV_STATUS_STATE c with
  | 1 => s.setFld F.BMV_STATUS_STATE 0 c
  | 2 => (s.setFlds [(F.BMV_STATUS_STATE, 4), (F.BMV_STATUS_ERR, 7)] c).bmvFree c
  | _ => s

/-! Transfers (R349, R351 to R354). -/

/-- A write by the mover into engine memory: a coefficient bank it touches is no longer VALID, but for a restore's writes by BMV0
(06_engines_shading.md R177). -/
def State.bmvPut (s : State) (c a : Nat) (l : List Byte) : State :=
  let s := s.writeMem a l
  let i := a % 2 ^ 36 / 2 ^ 18
  if a / 2 ^ 36 = 1 ∧ !l.isEmpty ∧ !(c = 0 && (s.eng i).restarting.isSome) then
    let o := a % 2 ^ 18
    (List.range 2).foldl (fun s b =>
      let lo := 0x1E60 + 0x2D00 * b
      if o < lo + 0x2D00 ∧ lo < o + l.length then s.setFld (fldValid b) 0 i else s) s
  else s

/-- BMV_FILL as the eight bytes of a word (R349). -/
def State.bmvFill (s : State) (c : Nat) : List Byte := le 4 (s.fld F.BMV_FILL_LO_DATA c) ++ le 4 (s.fld F.BMV_FILL_HI_DATA c)

/-- The differing words between two strings, as word numbers. -/
def wordDiffs : Nat → Nat → List Byte → List Byte → List Nat
  | 0, _, _, _ => []
  | n + 1, k, a, b => if a.take 8 = b.take 8 then wordDiffs n (k + 1) (a.drop 8) (b.drop 8)
      else k :: wordDiffs n (k + 1) (a.drop 8) (b.drop 8)

/-- Pass `p` copies in descending address order (R351): its ranges overlap, the destination above the source. -/
def State.bmvDown (s : State) (c p : Nat) : Bool :=
  s.bmvOp c = 0 && decide (s.bmvSrc c p < s.bmvDst c p) && decide (s.bmvDst c p < s.bmvSrc c p + s.bmvLen c)

/-- The offset in pass `p` of `m` blocks from the `j`-th issued on (R351). -/
def State.bmvAt (s : State) (c p j m : Nat) : Nat := 64 * (if s.bmvDown c p then s.fld F.BMV_LEN_BLOCKS c - j - m else j)

/-- Blocks `[j, j + m)` of pass `p`, as they are issued, moved or compared. -/
def State.bmvPart (s : State) (c p j m : Nat) : State :=
  let o := s.bmvAt c p j m
  let n := 64 * m
  let d := s.bmvDst c p + o
  let words := (List.replicate (n / 8) (s.bmvFill c)).flatten
  let src := if s.bmvReads c then s.readMem (s.bmvSrc c p + o) n else words
  if s.bmvWrites c then s.bmvPut c d src
  else
    match wordDiffs (n / 8) 0 src (s.readMem d n) with
    | [] => s
    | k :: l =>
      let at_ := d + 8 * k
      let s := if s.fld F.BMV_CMP_CNT_COUNT c = 0 then
          s.setFlds [(F.BMV_CMP_ADDR_LO_ADDR, at_), (F.BMV_CMP_ADDR_HI_ADDR, at_ / 2 ^ 32)] c
        else s
      (s.count F.BMV_CMP_CNT_COUNT c (l.length + 1)).setFld F.BMV_STATUS_MISMATCH 1 c

/-- The blocks of a channel's passes before block `k` of them all. -/
def State.bmvRun (s : State) (c k : Nat) : State :=
  let len := s.fld F.BMV_LEN_BLOCKS c
  (s.bmvPasses c).foldl (fun s p => s.bmvPart c p 0 (min len (k - p * len))) s

/-- The first block issued of a range of `n` bytes that holds an uncorrectable word of line memory, the blocks issued from its end
where `down`. -/
def State.badBlock (s : State) (a n : Nat) (down : Bool) : Option Nat :=
  let l := s.bad.filter (fun w => decide (a < w + 8) && decide (w < a + n))
  if down then l.max?.map (fun w => (a + n - 1 - w) / 64) else l.min?.map (fun w => (w - a) / 64)

/-- Engine memory whose quad is not in Summer (R348). -/
def State.engineDown (s : State) (a : Nat) : Bool :=
  (a / 2 ^ 36 = 1 || a / 2 ^ 36 = 2) && !s.quadUp (a % 2 ^ 36 / 2 ^ 18)

/-- A write into the active bank that does not restore an engine (06_engines_shading.md R177). -/
def State.activeHit (s : State) (c a n : Nat) : Bool :=
  let i := a % 2 ^ 36 / 2 ^ 18
  let o := a % 2 ^ 18
  let lo := 0x1E60 + 0x2D00 * s.active i
  a / 2 ^ 36 = 1 && decide (o < lo + 0x2D00) && decide (lo < o + n) && !(c = 0 && (s.eng i).restarting.isSome)

/-- The first block of pass `p` that an access of the model's own memories answers with an error, and whether it is an access to
the destination. -/
def State.bmvPassErr (s : State) (c p : Nat) : Option (Nat × Bool) :=
  let n := s.bmvLen c
  let a := s.bmvSrc c p
  let d := s.bmvDst c p
  let src := if !s.bmvReads c then none else if s.engineDown a then some 0 else s.badBlock a n (s.bmvDown c p)
  let dst := if s.engineDown d then some 0
    else if s.bmvWrites c then (if s.activeHit c d n then some 0 else none) else s.badBlock d n false
  match src, dst with
  | none, none => none
  | some x, none => some (x, false)
  | none, some y => some (y, true)
  | some x, some y => if y < x then some (y, true) else some (x, false)

/-- The first such block over all passes. -/
def State.bmvErr (s : State) (c : Nat) : Option (Nat × Bool) :=
  (s.bmvPasses c).foldl (fun r p => match r with
    | some x => some x
    | none => (s.bmvPassErr c p).map (fun e => (p * s.fld F.BMV_LEN_BLOCKS c + e.1, e.2))) none

/-- The channel is DONE (R352). -/
def State.bmvDone (s : State) (c : Nat) : State :=
  let s := (s.setFlds [(F.BMV_STATUS_STATE, 3), (F.BMV_REMAIN_BLOCKS, 0), (F.BMV_REMAIN_PASS_PASSES, 0)] c).bmvFree c
  let s := s.wrapInc F.BMV_STATUS_DONE_CNT c
  if s.bit F.BMV_CTRL_EV_EN c then s.pulseEv (s.fld F.BMV_CTRL_EV c) else s

/-- An engine is being restored, on BMV0 (19_faults_recovery.md R473). -/
def State.restoring (s : State) : Bool := s.engs.any (fun e => e.restarting.isSome)

/-- The engine starts the PENDING channel with the lowest index (R347). A channel of no blocks is done at once, but for BMV0 during a
restore, whose length is not in its registers (assumption log 176). -/
def State.bmvStart (s : State) : State :=
  if s.bit F.BMV_ENGINE_BUSY then s
  else
    match (List.range 8).find? (fun c => s.fld F.BMV_STATUS_STATE c = 1) with
    | none => s
    | some c =>
      let s := (s.setFlds [(F.BMV_ENGINE_CH, c), (F.BMV_ENGINE_BUSY, 1)]).setFlds [(F.BMV_STATUS_STATE, 2),
        (F.BMV_REMAIN_BLOCKS, s.fld F.BMV_LEN_BLOCKS c), (F.BMV_REMAIN_PASS_PASSES, s.fld F.BMV_CTRL_REPEAT c)] c
      if s.fld F.BMV_LEN_BLOCKS c = 0 ∧ !(c = 0 && s.restoring) then s.bmvDone c else s

/-- The channel halts after its repeats at block `k` of all (R353, R354): the blocks before it stay written, and in a tail error
those after it. -/
def State.bmvHalt (s : State) (c k : Nat) (what : BmvAccess) : State :=
  let len := max 1 (s.fld F.BMV_LEN_BLOCKS c)
  let p := k / len
  let a := (if what = .source then s.bmvSrc c p else s.bmvDst c p) + s.bmvAt c p (k % len) 1
  let s := s.bmvRun c k
  let s := if what = .tail then
      let s := s.bmvPart c p (k % len + 1) (len - k % len - 1)
      ((s.bmvPasses c).filter (p < ·)).foldl (fun s q => s.bmvPart c q 0 len) s
    else s
  let left := if what = .tail then (0, 0) else (len - 1 - k % len, s.fld F.BMV_CTRL_REPEAT c - p)
  let s := (s.setFlds [(F.BMV_STATUS_STATE, 4), (F.BMV_STATUS_ERR, if what = .tail then 6 else 5),
    (F.BMV_STATUS_RETRIES, s.fld F.BMV_CFG_RETRY), (F.BMV_FAIL_LO_ADDR, a), (F.BMV_FAIL_HI_ADDR, a / 2 ^ 32),
    (F.BMV_REMAIN_BLOCKS, left.1), (F.BMV_REMAIN_PASS_PASSES, left.2)] c).bmvFree c
  s.recovered 9 1 c 8 (if what = .tail then 6 else 5) s.tb

/-- Line memory answered block `k` of all with an error `n` times: every write was flagged twice each time (R338), and a read found an
uncorrectable word (R337, R340), or was flagged so where a repeat has read it well. -/
def State.bmvLineError (s : State) (a n : Nat) (write again : Bool) : State :=
  if 2 ^ 36 ≤ a then s
  else if write || again then s.count F.QCH_AP_ERR_CNT_COUNT (qdrCh a) (2 * n)
  else
    let w := (s.badWord a 64).getD a
    (s.qdrUe w).count F.QCH_UE_CNT_COUNT (qdrCh w) (n - 1)

/-- Where block `k` of the running restore stands (19_faults_recovery.md R473): in a bank image or the bank for the 360 blocks of the two
banks, and at an address that is not stated for the blocks after them (assumption log 176). -/
def State.restoreAddr (s : State) (k : Nat) (src : Bool) : Nat × State :=
  match (List.range 512).find? (fun i => (s.eng i).restarting.isSome) with
  | some i =>
    if k < 360 then
      ((if src then s.imageAddr i (k / 180) else 2 ^ 36 + 2 ^ 18 * i + (if k < 180 then 0x1E60 else 0x4B60)) + 64 * (k % 180), s)
    else (Config.freeValue s.free, { s with free := s.free + 1 })
  | none => (0, s)

/-- An error response to the restore on BMV0 (R353): repeats that succeed, or the halt, which is no recovery but fatal
(19_faults_recovery.md R475). -/
def State.restoreError (s : State) (k again : Nat) (what : BmvAccess) : State :=
  let src := decide (what = .source)
  let (a, s) := s.restoreAddr k src
  if again < s.fld F.BMV_CFG_RETRY then
    let s := s.setFld F.BMV_STATUS_RETRIES (again + 1) 0
    if src then s.bmvLineError a (again + 1) false true else s
  else
    let s := (s.setFlds [(F.BMV_STATUS_STATE, 4), (F.BMV_STATUS_ERR, 5), (F.BMV_STATUS_RETRIES, s.fld F.BMV_CFG_RETRY),
      (F.BMV_FAIL_LO_ADDR, a), (F.BMV_FAIL_HI_ADDR, a / 2 ^ 32)] 0).bmvFree 0
    let s := s.recovered 9 1 0 8 5 s.tb
    if src then s.bmvLineError a (s.fld F.BMV_CFG_RETRY + 1) false false else s

/-- An error response with `again` repeats that failed too (R353). -/
def State.bmvError (s : State) (c k again : Nat) (what : BmvAccess) : State :=
  if c = 0 ∧ s.restoring ∧ s.fld F.BMV_STATUS_STATE 0 = 2 then s.restoreError k again what
  else if s.fld F.BMV_STATUS_STATE c ≠ 2 ∨ s.fld F.BMV_LEN_BLOCKS c * (s.fld F.BMV_CTRL_REPEAT c + 1) ≤ k then s
  else if what = .tail ∧ !s.bmvWrites c ∨ what = .source ∧ !s.bmvReads c then s
  else
    let len := s.fld F.BMV_LEN_BLOCKS c
    let p := k / len
    let a := (if what = .source then s.bmvSrc c p else s.bmvDst c p) + s.bmvAt c p (k % len) 1
    let write := decide (what ≠ .source) && s.bmvWrites c
    if again < s.fld F.BMV_CFG_RETRY then (s.setFld F.BMV_STATUS_RETRIES (again + 1) c).bmvLineError a (again + 1) write true
    else (s.bmvHalt c k what).bmvLineError a (s.fld F.BMV_CFG_RETRY + 1) write false

/-- Every block has been issued and answered (R352); an access that the model's own memories answer with an error halts the
channel instead. A restore's end is its engine's. -/
def State.bmvComplete (s : State) (c : Nat) : State :=
  if s.fld F.BMV_STATUS_STATE c ≠ 2 ∨ (c = 0 ∧ s.restoring) then s
  else match s.bmvErr c with
    | some (k, dst) => s.bmvError c k (s.fld F.BMV_CFG_RETRY) (if dst then .dest else .source)
    | none => ((s.bmvPasses c).foldl (fun s p => s.bmvPart c p 0 (s.fld F.BMV_LEN_BLOCKS c)) s).bmvDone c

end Sys2Proof.Machine
end

