-- ==== Sys2Proof/Machine/BmbOps.lean ====
section
/-! DEFINITION. The bar management bus (16_management_buses.md R415 to R421). -/

namespace Sys2Proof.Machine

/-- The controller may use the bus: its domain is up and it is not stuck (R418). -/
def State.bmbUsable (s : State) : Bool := s.season domUnc = .summer && !s.bit F.MBUS_BMB_STATUS_STUCK

/-- The answer to a firmware transaction (R416): `again` says that it is the one retry. -/
def State.bmbAnswered (s : State) (addr : Nat) (wr : List Byte) (rd : Nat) (ans : BmbAnswer) (again : Bool) (t : Nat) : State :=
  let s := (s.emit (.bmb addr wr rd)).setFld F.MBUS_BMB_STATUS_BUS_FREE 1
  let s := { s with bmb := { s.bmb with losses := 0 } }
  match ans with
  | .ok _ => { s with bmb := { s.bmb with retry := none } }
  | .nack _ =>
    let s := s.count F.MBUS_BMB_NACK_CNT_COUNT
    if again then { s with bmb := { s.bmb with retry := none } }
    else { s with bmb := { s.bmb with retry := some (addr, wr, rd), retryAt := t + 1000000 } }

/-- A transaction of at most 255 bytes on a free bus (R416, R417); each fails while STUCK is set (R418). -/
def State.bmbTransact (s : State) (t addr : Nat) (wr : List Byte) (rd : Nat) (ans : BmbAnswer) : State :=
  if !s.bmbUsable || decide (128 ≤ addr) || decide (255 < wr.length + rd) then s
  else s.bmbAnswered addr wr rd ans false t

/-- The retry 1 ms after a NACK (R416). -/
def State.bmbRetry (s : State) (t : Nat) (ans : BmbAnswer) : State :=
  match s.bmb.retry with
  | none => s
  | some (addr, wr, rd) =>
    if t < s.bmb.retryAt then s
    else if !s.bmbUsable then { s with bmb := { s.bmb with retry := none } }
    else s.bmbAnswered addr wr rd ans true t

/-- SCL low for 25 ms in a transaction (R417). -/
def State.bmbSclLow (s : State) : State :=
  if s.season domUnc ≠ .summer then s
  else
    let s := s.setFlds [(F.MBUS_BMB_STATUS_TIMEOUT, 1), (F.MBUS_BMB_STATUS_BUS_FREE, 0)]
    { s with bmb := { s.bmb with losses := 0 } }

/-- A bus clear (R418): `pulses` gives the pulse after which SDA read high, none when it stayed low. -/
def State.bmbClear (s : State) (t : Nat) (pulses : Option Nat) : State :=
  if s.season domUnc ≠ .summer ∨ (s.bit F.MBUS_BMB_STATUS_STUCK ∧ t < s.bmb.nextClear) then s
  else
    let s := (s.count F.MBUS_BMB_CLEAR_CNT_COUNT).emit (.bmbClear (min 9 (pulses.getD 9)))
    match pulses with
    | some n =>
      if n ≤ 9 then s.setFlds [(F.MBUS_BMB_STATUS_STUCK, 0), (F.MBUS_BMB_STATUS_BUS_FREE, 1)] else s
    | none =>
      let s := s.setFlds [(F.MBUS_BMB_STATUS_STUCK, 1), (F.MBUS_BMB_STATUS_BUS_FREE, 0)]
      ({ s with bmb := { s.bmb with nextClear := t + 1000000000, retry := none } }).burgee 0x0C clsWarn 1

/-- A loss of arbitration at a byte and bit of the present transaction (R419). -/
def State.bmbArb (s : State) (byte bit : Nat) : State :=
  if !s.bmbUsable then s
  else
    let n := s.bmb.losses + 1
    let s := (s.setFlds [(F.MBUS_BMB_ARB_BYTE, byte), (F.MBUS_BMB_ARB_BIT, bit), (F.MBUS_BMB_ARB_RETRIES, min 3 (n - 1)),
      (F.MBUS_BMB_ARB_ARB_LOST, 1), (F.MBUS_BMB_STATUS_BUS_FREE, 0)]).count F.MBUS_BMB_ARB_CNT_COUNT
    if n < 4 then { s with bmb := { s.bmb with losses := n } }
    else (({ s with bmb := { s.bmb with losses := 0 } }).setFld F.MBUS_BMB_STATUS_ARB_FAIL 1).burgee 0x0C clsWarn 2

/-- The level of BMB_ALERT_N after filtering (R420). -/
def State.bmbAlert (s : State) (low : Bool) : State :=
  if s.season domUnc ≠ .summer then s
  else
    let s := s.setFld F.MBUS_BMB_STATUS_ALERT_LIVE (b2n low)
    if low then s else { s with bmb := { s.bmb with alertReads := 0 } }

/-- The controller's read of the Alert Response Address (R420, R421): `stillLow` is the line's level after it. -/
def State.bmbAlertRead (s : State) (t : Nat) (ans : BmbAnswer) (stillLow : Bool) : State :=
  if !s.bmbUsable || !s.bit F.MBUS_BMB_CFG_ALERT_EN || !s.bit F.MBUS_BMB_STATUS_ALERT_LIVE || s.bmb.ignoreUntil.isSome then s
  else
    let s := (s.emit (.bmb 0x0C [] 1)).setFlds [(F.MBUS_BMB_STATUS_BUS_FREE, 1), (F.MBUS_BMB_STATUS_ALERT_LIVE, b2n stillLow)]
    let s := match ans with
      | .nack _ => s.count F.MBUS_BMB_ALERT_SPURIOUS
      | .ok data =>
        let a := byteAt data 0 / 2
        let s := s.setFlds [(F.MBUS_BMB_ALERT_ADDR, a), (F.MBUS_BMB_ALERT_VALID, 1)]
        if Config.bmbDevice a then s else s.burgee 0x0C clsWarn 3 0xFFFF 0 a
    let n := if stillLow then s.bmb.alertReads + 1 else 0
    if n < 8 then { s with bmb := { s.bmb with alertReads := n } }
    else ({ s with bmb := { s.bmb with alertReads := 0, ignoreUntil := some (t + 1000000000) } }).burgee 0x0C clsWarn 4

/-- The end of ignoring the alert line (R421). -/
def State.bmbAlertBack (s : State) (t : Nat) (low : Bool) : State :=
  match s.bmb.ignoreUntil with
  | none => s
  | some u =>
    if t < u then s
    else ({ s with bmb := { s.bmb with ignoreUntil := none } }).setFld F.MBUS_BMB_STATUS_ALERT_LIVE (b2n low)

end Sys2Proof.Machine
end

