-- ==== Sys2Proof/Machine/SecOps.lean ====
section
/-! DEFINITION. The security core (17_security.md): verification of firmware copies and kernels, key and OTP packages, the
config block's writing (18_power_startup.md R461, R464), attestation. -/

namespace Sys2Proof.Machine

/-! Result codes (R436). -/

def secPass : Nat := 1
def secFormat : Nat := 2
def secRollback : Nat := 3
def secKeySlot : Nat := 4
def secKeyHash : Nat := 5
def secSigRsa : Nat := 6
def secSigSlh : Nat := 7
def secImage : Nat := 8
def secUnwrap : Nat := 10

/-! The two signatures (R431). -/

/-- A public key of a manifest or kernel: RSA modulus and exponent, SLH-DSA key, with their key hashes. -/
structure PubKeys where
  rsaN : List Byte
  rsaE : List Byte
  slh : List Byte

/-- The keys as they lie in a record from `o` on: modulus, exponent, SLH-DSA public key. -/
def keysAt (m : List Byte) (o : Nat) : PubKeys := ⟨slice m o 384, slice m (o + 384) 4, slice m (o + 388) 48⟩

def PubKeys.rsaHash (k : PubKeys) : List Byte := Config.sha384 (k.rsaN ++ k.rsaE)
def PubKeys.slhHash (k : PubKeys) : List Byte := Config.sha384 k.slh

/-- The vendor slots `r` and `q` are revoked (R432). -/
def State.slotRevoked (s : State) (r q : Nat) : Bool := bitAt s.sec.revRsa r || bitAt s.sec.revSlh q

/-- Key hashes and both signatures over `body`, against the expected hashes: a code of R436. -/
def signCode (k : PubKeys) (rsaHash slhHash body sigR sigS : List Byte) : Nat :=
  if k.rsaHash ≠ rsaHash ∨ k.slhHash ≠ slhHash then secKeyHash
  else if !Config.rsaVerify k.rsaN (ofLe k.rsaE) body sigR then secSigRsa
  else if !Config.slhVerify k.slh body sigS then secSigSlh
  else secPass

/-! Firmware copies (R434 to R436). -/

/-- Image entry `k` of a manifest: TYPE, OFFSET, LENGTH, digest. -/
structure Image where
  kind : Nat
  off : Nat
  len : Nat
  digest : List Byte

def imageOf (m : List Byte) (k : Nat) : Image :=
  let o := 64 + 64 * k
  ⟨byteAt m o, ofLe (slice m (o + 4) 4), ofLe (slice m (o + 8) 4), slice m (o + 16) 48⟩

def manImages (m : List Byte) : List Image := (List.range (min 8 (byteAt m 5))).map (imageOf m)
def manSvn (m : List Byte) : Nat := byteAt m 6
def manBuild (m : List Byte) : Nat := ofLe (slice m 8 4)
def manRsaSlot (m : List Byte) : Nat := byteAt m 12
def manSlhSlot (m : List Byte) : Nat := byteAt m 13
def manRevoke (m : List Byte) : Nat := byteAt m 14

/-- Two images do not overlap. -/
def apart (a b : Image) : Bool := decide (a.off + a.len ≤ b.off) || decide (b.off + b.len ≤ a.off)

/-- No two of the images overlap. -/
def allApart : List Image → Bool
  | [] => true
  | a :: l => l.all (apart a) && allApart l

/-- A well-formed manifest (R434, R435). -/
def manWellFormed (m : List Byte) : Bool :=
  let l := manImages m
  let n := fun (k : Nat) => (l.filter (fun i => i.kind = k)).length
  ofLe (slice m 0 4) = 0x4B524D46 && byteAt m 4 = 1 && ofLe (slice m 16 4) = 576 && decide (3 ≤ byteAt m 5)
    && decide (byteAt m 5 ≤ 8) && n 1 = 1 && n 2 = 1 && n 3 = 1 && decide (n 4 ≤ 1)
    && l.all (fun i => decide (20480 ≤ i.off) && i.off % 4096 = 0 && decide (i.off + i.len ≤ 8388608)) && allApart l

/-- The result of verifying copy `c`, whose manifest bytes are `m` (R436). -/
def State.fwCode (s : State) (c : Nat) (m : List Byte) : Nat :=
  let r := manRsaSlot m
  let q := manSlhSlot m
  if !manWellFormed m then secFormat
  else if manSvn m < s.sec.rollback then secRollback
  else if s.slotRevoked r q || bitAt (manRevoke m % 16) r || bitAt (manRevoke m / 16) q then secKeySlot
  else
    let code := signCode (keysAt m 576) (if r < 4 then Config.vendorRsaHash r else []) (if q < 4 then Config.vendorSlhHash q else [])
      (m.take 576) (slice m 1024 384) (slice m 1408 16224)
    if code ≠ secPass then code
    else if (manImages m).all (fun i => Config.sha384 (s.readMem (flashFw c + i.off) i.len) == i.digest) then secPass
    else secImage

/-- The manifest of copy `c` as it stands in flash. -/
def State.manifest (s : State) (c : Nat) : List Byte := s.readMem (flashFw c) 17632

/-- Boot verification (R436): the copies in order of SVN and BUILD, A first when equal. Answers whether one was released. -/
def State.romVerify (s : State) : State × Bool :=
  let a := s.manifest 0
  let b := s.manifest 1
  let aFirst := decide (manSvn b < manSvn a) || (manSvn a = manSvn b && decide (manBuild b ≤ manBuild a))
  let one := if aFirst then 0 else 1
  let two := 1 - one
  let c1 := s.fwCode one (if one = 0 then a else b)
  let c2 := if c1 = secPass then 0 else s.fwCode two (if two = 0 then a else b)
  let run := if c1 = secPass then one else two
  let ok := c1 = secPass || c2 = secPass
  let resA := if one = 0 then c1 else c2
  let resB := if one = 0 then c2 else c1
  let m := if run = 0 then a else b
  let s := s.setFlds [(F.SEC_STATUS_RESULT_A, resA), (F.SEC_STATUS_RESULT_B, resB), (F.SEC_STATUS_RUN_COPY, if ok then run else 0),
    (F.SEC_STATUS_RECOVERY, b2n (!ok)), (F.SEC_FW_A_BUILD_BUILD, if manWellFormed a then manBuild a else 0),
    (F.SEC_FW_B_BUILD_BUILD, if manWellFormed b then manBuild b else 0), (F.SEC_FW_SVN_A, if manWellFormed a then manSvn a else 0),
    (F.SEC_FW_SVN_B, if manWellFormed b then manSvn b else 0), (F.SEC_FW_SVN_RSA_SLOT, if ok then manRsaSlot m else 0),
    (F.SEC_FW_SVN_SLH_SLOT, if ok then manSlhSlot m else 0), (F.SEC_OTP_ROLLBACK, s.sec.rollback),
    (F.SEC_OTP_REVOKE_RSA, s.sec.revRsa), (F.SEC_OTP_REVOKE_SLH, s.sec.revSlh), (F.SEC_STATUS_CUST_LOCK, b2n s.sec.custLock)]
  if !ok then (s, false)
  else
    let s := { s with sec := { s.sec with revokeWant := manRevoke m, runSvn := manSvn m } }
    (if c1 ≠ secPass then s.burgee 0x0D clsWarn 1 one 0 c1 else s, true)

/-- DEVICE_ID shown by the SYS block (R441, 21_register_map.md R532). -/
def State.showDeviceId (s : State) : State :=
  let id := padTo 16 (Config.deviceId (s.readMem flashIdent 65536))
  (List.range 4).foldl (fun s j => s.setFld F.SYS_DEVICE_IDj_ID (beAt id (4 * j) 4) j) s

/-! Customer kernels (R445). -/

def kernelGen (l : List Byte) : Nat := ofLe (slice l 8 4)
def kernelLen (l : List Byte) : Nat := ofLe (slice l 12 4)

/-- The result of verifying a kernel package (R445), in the codes of R436. -/
def State.kernelCode (s : State) (l : List Byte) : Nat :=
  let n := kernelLen l
  if ofLe (slice l 0 4) ≠ 0x4B524B4E ∨ byteAt l 4 ≠ 1 ∨ 1 < byteAt l 5 ∨ n < 4 ∨ 16384 < n ∨ n % 4 ≠ 0 ∨ l.length < 17184 + n
      ∨ !allZero (slice l 64 64) ∨ !allZero (slice l 564 12) then secFormat
  else
    let cust := decide (byteAt l 5 = 0)
    let r := byteAt l 6
    let q := byteAt l 7
    if cust ≠ s.sec.custLock ∨ (!cust ∧ (4 ≤ r ∨ 4 ≤ q ∨ s.slotRevoked r q)) then secKeySlot
    else
      let code := signCode (keysAt l 128) (if cust then s.sec.custRsa else Config.vendorRsaHash r)
        (if cust then s.sec.custSlh else Config.vendorSlhHash q) (l.take 128) (slice l 576 384) (slice l 960 16224)
      if code ≠ secPass then code
      else if Config.sha384 (slice l 17184 n) == slice l 16 48 then secPass
      else secImage

/-- The package in kernel slot `b`, if it verifies. -/
def State.kernelSlot (s : State) (b : Nat) : Option (List Byte) :=
  let head := s.readMem (flashKernel b) 17184
  let n := kernelLen head
  if 16384 < n then none
  else
    let l := s.readMem (flashKernel b) (17184 + n)
    if s.kernelCode l = secPass then some l else none

/-- The slot with the higher GEN of those that verify. -/
def State.kernelBest (s : State) : Option (List Byte) :=
  match s.kernelSlot 0, s.kernelSlot 1 with
  | some a, some b => some (if kernelGen a < kernelGen b then b else a)
  | some a, none => some a
  | none, some b => some b
  | none, none => none

/-- The stored kernel loaded (R445). -/
def State.loadKernel (s : State) : State :=
  match s.kernelBest with
  | none =>
    let s := { s with sec := { s.sec with kernel := [], kernelDigest := [] } }
    s.setFlds [(F.SEC_KERNEL_VALID, 0), (F.SEC_KERNEL_SIGNER, 0), (F.SEC_KERNEL_CODE_LEN, 0), (F.SEC_KERNEL_GEN_GEN, 0)]
  | some l =>
    let s := { s with sec := { s.sec with kernel := slice l 17184 (kernelLen l), kernelDigest := slice l 16 48 } }
    s.setFlds [(F.SEC_KERNEL_VALID, 1), (F.SEC_KERNEL_SIGNER, byteAt l 5), (F.SEC_KERNEL_CODE_LEN, kernelLen l),
      (F.SEC_KERNEL_GEN_GEN, kernelGen l)]

/-! The config block (18_power_startup.md R461, R464). -/

def cfgGen (l : List Byte) : Nat := ofLe (slice l 8 4)
def cfgLen (l : List Byte) : Nat := ofLe (slice l 12 4)

/-- Config block `b`, up to its LENGTH. -/
def State.cfgBlock (s : State) (b : Nat) : List Byte :=
  s.readMem (flashConfig b) (min 65536 (cfgLen (s.readMem (flashConfig b) 16)))

/-- A valid block (R462). -/
def cfgValid (l : List Byte) : Bool :=
  ofLe (slice l 0 4) = 0x4B524342 && byteAt l 4 = 1 && decide (328 ≤ cfgLen l) && decide (cfgLen l ≤ 65536) && cfgLen l % 8 = 0
    && l.length = cfgLen l && ofLe (l.drop (l.length - 4)) = crc32c (l.take (l.length - 4))

/-- The stored value of a register (its named fields). -/
def State.rawReg (s : State) (r : Reg) (k inst : Nat) : Nat := sumN (r.flds.map (fun f => s.fldAt f k inst * 2 ^ f.lo))

/-- Instances of a window that a select register reaches (21_register_map.md R522), and its address. -/
def winCount : Win → Nat
  | .tile => 512
  | .sect => 256
  | .axis => 8
  | .mseq => 64
  | .qch => 4
  | .port => 17
  | .session => 8

def winSel : Win → Nat
  | .tile => 0x20000
  | .sect => 0x50000
  | .axis => 0x60000
  | .mseq => 0x70000
  | .qch => 0x80000
  | .port => 0xA0000
  | .session => 0xB0000

/-- The entries of the registers outside the windows: the config-loadable registers other than the selects. -/
def State.cfgPlain (s : State) : List (Nat × Nat) :=
  (regTable.filter (fun r => r.cfg && r.win.isNone && !(r.name.endsWith "_SEL"))).flatMap (fun r =>
    (List.range r.count).map (fun k => (r.addr + r.stride * k, s.rawReg r k 0)))

/-- The entries of one window: for each instance its select, then its config-loadable registers. -/
def State.cfgWindow (s : State) (w : Win) : List (Nat × Nat) :=
  let rs := regTable.filter (fun r => r.cfg && r.win = some w)
  if rs.isEmpty then []
  else (List.range (winCount w)).flatMap (fun k => (winSel w, k) :: rs.map (fun r => (r.addr, s.rawReg r 0 k)))

/-- The select registers as the firmware bank holds them. -/
def State.cfgSels (s : State) : List (Nat × Nat) :=
  mapIdxFrom (fun j w => (winSel w, nthD 0 (s.bank .fw).sels j)) 0 [Win.tile, .sect, .axis, .mseq, .qch, .port, .session]

/-- The present value of every config-loadable register, as entries (R464). -/
def State.cfgEntries (s : State) : List (Nat × Nat) :=
  s.cfgPlain ++ [Win.axis, .mseq, .port].flatMap s.cfgWindow ++ s.cfgSels

/-- A config block of 65,536 bytes (R461) with the present values and the present key store. -/
def State.newBlock (s : State) (gen : Nat) : List Byte :=
  let es := s.cfgEntries
  let body := le 4 0x4B524342 ++ be 1 1 ++ zeros 3 ++ le 4 gen ++ le 4 65536 ++ le 4 es.length ++ zeros 44
    ++ padTo 256 (Config.sealKeys s.sec.keys) ++ es.flatMap (fun e => le 4 e.1 ++ le 4 e.2)
  let l := padTo 65532 body
  l ++ le 4 (crc32c l)

/-- CONFIG_STORE (R464, R466): the status. -/
def State.storeConfig (s : State) : State × Nat :=
  let (ok, s) := s.holdupCheck 2 256 65536 0
  if !ok then (s, stDeferred)
  else
    let a := s.cfgBlock 0
    let b := s.cfgBlock 1
    let ga := if cfgValid a then cfgGen a else 0
    let gb := if cfgValid b then cfgGen b else 0
    let target := if cfgValid b && (!cfgValid a || decide (ga < gb)) then 0 else 1
    let r := s.flashPut (flashConfig target) 65536 (s.newBlock ((max ga gb + 1) % 2 ^ 32)) false
    (r.1, if r.2 then stOk else stFault)

/-- SEC_STATUS.KEYS (R446). -/
def State.showKeys (s : State) : State :=
  let has := fun (j : Nat) => b2n (nthD none s.sec.keys j).isSome
  s.setFld F.SEC_STATUS_KEYS (has 0 + 2 * has 1 + 4 * has 2)

/-! Packages (R444, R445). -/

/-- A key package committed by session `k` (R444): the status, and the code of R436. -/
def State.commitKey (s : State) (k : Nat) (l : List Byte) : State × Nat × Nat :=
  let id := (s.session k).id
  let role := byteAt l 5
  let op := byteAt l 6
  if byteAt l 4 ≠ 1 ∨ 2 < role ∨ 1 < op ∨ byteAt l 7 ≠ 0 ∨ !allZero (slice l 48 16) ∨ (op = 1 ∧ (role = 2 ∨ !allZero (slice l 8 40)))
  then (s, stBadParam, secFormat)
  else
    let wrapKey := Config.hmacSha256 id.ks (ascii "MOEVO-WRAP" ++ be 4 id.id)
    let new : Option (Option (List Byte)) := if op = 1 then some none else (Config.keyUnwrap wrapKey (slice l 8 40)).map some
    match new with
    | none => (s, stAuth, secUnwrap)
    | some v =>
      let old := s.sec.keys
      let (s', st) := ({ s with sec := { s.sec with keys := old.set role v } }).storeConfig
      if st = stOk then (s'.showKeys, stOk, secPass)
      else ({ s' with sec := { s'.sec with keys := old } }, st, 0)

/-- `new` blown over `old` in OTP (R433): its bit k, counted from bit `o` of the operation, is set where `m` says that it blew. -/
def blowBytes (m o : Nat) (old new : List Byte) : List Byte :=
  mapIdxFrom (fun k (b : Byte) => nthD 0 old k ||| (b &&& BitVec.ofNat 8 (m / 2 ^ (o + 8 * k)))) 0 new

/-- An OTP package committed by session `k` (R445): both hashes and CUST_LOCK are programmed under R433, and FAULT answers bits that do
not read back as blown. DESIGN CHOICE, assumption log 171. -/
def State.commitOtp (s : State) (k : Nat) (l : List Byte) : State × Nat × Nat :=
  let id := (s.session k).id
  if s.sec.custLock then (s, stState, 0)
  else if byteAt l 4 ≠ 1 ∨ byteAt l 5 ≠ 0 ∨ !allZero (slice l 6 10) then (s, stBadParam, secFormat)
  else if (Config.hmacSha256 id.ks (ascii "MOEVO-OTP" ++ be 4 id.id ++ l.take 112)).take 16 ≠ slice l 112 16 then (s, stAuth, 0)
  else
    let (ok, s) := s.holdupCheck 0 0 0 10000000
    if !ok then (s, stDeferred, 0)
    else
      let m := Config.otpBlew s.free
      let rsa := blowBytes m 0 s.sec.custRsa (slice l 16 48)
      let slh := blowBytes m 384 s.sec.custSlh (slice l 64 48)
      let lock := bitAt m 768
      let ok := rsa = slice l 16 48 ∧ slh = slice l 64 48 ∧ lock
      let s := { s with free := s.free + 1, sec := { s.sec with custRsa := rsa, custSlh := slh, custLock := lock } }
      let s := s.setFld F.SEC_STATUS_CUST_LOCK (b2n lock)
      if ok then (s, stOk, secPass) else (s.burgee 0x0D clsWarn 2, stFault, secPass)

/-- A kernel package committed (R445): into the slot with the lower GEN. -/
def State.commitKernel (s : State) (l : List Byte) : State × Nat × Nat :=
  let code := s.kernelCode l
  let a := s.kernelSlot 0
  let b := s.kernelSlot 1
  let old := match s.kernelBest with
    | some x => decide (kernelGen l ≤ kernelGen x)
    | none => false
  if code ≠ secPass then (s, stAuth, code)
  else if old then (s, stAuth, secRollback)
  else
    let (ok, s) := s.holdupCheck 2 (ceilDiv l.length 256) l.length 0
    if !ok then (s, stDeferred, secPass)
    else
      let target := match a, b with
        | some x, some y => if kernelGen y < kernelGen x then 1 else 0
        | some _, none => 1
        | none, _ => 0
      let r := s.flashPut (flashKernel target) 65536 l false
      (r.1, if r.2 then stOk else stFault, secPass)

/-- The copy that an update writes: the one that is not running, copy A in recovery (R438, R439). -/
def State.targetCopy (s : State) : Nat := if s.bit F.SEC_STATUS_RECOVERY then 0 else 1 - s.fld F.SEC_STATUS_RUN_COPY

/-- A firmware package committed (R440): bytes 0 to 20,479 from staging, the images from flash. -/
def State.commitFw (s : State) (l : List Byte) : State × Nat × Nat :=
  let c := s.targetCopy
  let code := s.fwCode c (l.take 17632)
  if code ≠ secPass then (s, stAuth, code)
  else
    let (ok, s) := s.holdupCheck 0 80 20480 0
    if !ok then (s, stDeferred, secPass)
    else
      let r := s.flashPut (flashFw c) 20480 (l.take 20480) false
      (r.1, if r.2 then stOk else stFault, secPass)

/-! Attestation (R442). -/

/-- CAL_DIGEST's message. -/
def State.calMessage (s : State) : List Byte :=
  ((List.range 512).filter s.recPresent).flatMap (fun i => be 2 i ++ s.recBytes i 0 11648)

/-- Any record UNSAVED (08_calibration.md R215). -/
def State.anyUnsaved (s : State) : Bool := (List.range 512).any (fun i => s.recPresent i && s.recUnsaved i)

/-- The body of a report. -/
def State.attestBody (s : State) (nonce : List Byte) : List Byte :=
  let run := s.fld F.SEC_STATUS_RUN_COPY
  let m := s.manifest run
  let flags := b2n (!s.qdrUsable) + 2 * b2n s.anyUnsaved + 4 * s.fld F.SYS_STATUS_CONFIG_DEFAULTED + 8 * s.fld F.SEC_STATUS_OTP_PENDING
  let slots := s.fld F.SEC_FW_SVN_RSA_SLOT + 16 * s.fld F.SEC_FW_SVN_SLH_SLOT + 128 * b2n s.sec.custLock
  let cfg := match s.sec.cfgAddr with
    | some b => padTo 48 (Config.sha384 (s.cfgBlock b))
    | none => zeros 48
  let cal := if s.qdrUsable then padTo 48 (Config.sha384 s.calMessage) else zeros 48
  let ker := if s.sec.kernel.isEmpty then zeros 48 else padTo 48 s.sec.kernelDigest
  let cust := if s.sec.custLock then padTo 48 (Config.sha384 (s.sec.custRsa ++ s.sec.custSlh)) else zeros 48
  be 4 0x41545354 ++ be 1 1 ++ be 1 run ++ zeros 2 ++ be 8 s.tb ++ be 4 (manBuild m) ++ be 1 (manSvn m) ++ be 1 s.sec.rollback
    ++ be 1 (s.sec.revRsa + 16 * s.sec.revSlh) ++ be 1 slots ++ be 1 s.op.code ++ be 1 flags ++ zeros 6 ++ padTo 32 nonce
    ++ padTo 48 (Config.sha384 (m.take 576)) ++ cfg ++ cal ++ ker ++ cust ++ padTo 16 (Config.deviceId (s.readMem flashIdent 65536))

/-- ATTEST (R442): the whole report, or none when the identity area fails its check (R441). -/
def State.attest (s : State) (nonce : List Byte) : State × Option (List Byte) :=
  let area := s.readMem flashIdent 65536
  if !Config.identityOk area then (s, none)
  else
    let body := s.attestBody nonce
    let cr := Config.certRsa area
    let cs := Config.certSlh area
    (s.count F.SEC_ATTEST_CNT_COUNT,
      some (body ++ padTo 384 (Config.rsaSign body) ++ padTo 16224 (Config.slhSign body) ++ be 4 cr.length ++ cr ++ be 4 cs.length ++ cs))

end Sys2Proof.Machine
end

