-- ==== Sys2Proof/Machine/RegRead.lean ====
section
/-! DEFINITION. Reading a register (21_register_map.md R517 to R528): select banks, windows, latches, Winter, and the fields
that show what the block holds elsewhere. -/

namespace Sys2Proof.Machine

/-! Selects and windows (R522 to R527). -/

/-- The place of a window's select in a bank, which is also its SEL_WHICH code (R532). -/
def winIdx : Win → Nat
  | .tile => 0
  | .sect => 1
  | .axis => 2
  | .mseq => 3
  | .qch => 4
  | .port => 5
  | .session => 6

/-- The select register at an address. -/
def selAt (addr : Nat) : Option Nat :=
  match addr with
  | 0x20000 => some 0
  | 0x50000 => some 1
  | 0x60000 => some 2
  | 0x70000 => some 3
  | 0x80000 => some 4
  | 0xA0000 => some 5
  | 0xB0000 => some 6
  | _ => none

/-- Valid values of the select at place `j` (R522). -/
def selCount (j : Nat) : Nat := nthD 0 [512, 256, 8, 64, 4, 17, 8] j

/-- A path's select value. -/
def State.selOf (s : State) (p : Path) (j : Nat) : Nat := nthD 0 (s.bank p).sels j

/-- SEL_RANGE or SEL_BCAST_READ set on a path (R524, R526). -/
def State.noteSel (s : State) (p : Path) (bcast : Bool) (j : Nat) : State :=
  s.modBank p (fun b => { b with selRange := b.selRange || !bcast, selBcast := b.selBcast || bcast, selWhich := j })

/-- SYS_ERR of a path (R532). -/
def Bank.err (b : Bank) : Nat := b2n b.selRange + 2 * b2n b.selBcast + 4 * b.selWhich

/-- The mode of the host port that link `q` belongs to: as it last came up, else as its register has it
(14_host_network.md R359, R389). -/
def State.portMode (s : State) (q : Nat) : Nat :=
  let m := if q < 16 then 4 * (q / 4) else 16
  match (s.port m).live with
  | some c => c.mode
  | none => s.fld F.NET_PORT_CFG_MODE m

/-- A link select of a port in 100G mode that names no link (R389). -/
def State.linkMuted (s : State) (q : Nat) : Bool :=
  decide (q < 16) && q % 4 ≠ 0 && (s.portMode q = 1 || s.portMode q = 2)

/-- The tiles that a TILE_SEL broadcast reaches (R522). -/
def State.bcastTiles (s : State) : List Nat :=
  if s.job.defined then s.span else (List.range 512).filter (fun i => s.bit F.TILE_STATUS_PRESENT i)

/-- The broadcast set of a window (R522), in ascending order. -/
def State.bcastSet (s : State) (w : Win) : List Nat :=
  match w with
  | .tile => s.bcastTiles
  | .sect => dedup (s.bcastTiles.map (· / 2))
  | .port => (List.range 17).filter (fun q => !s.linkMuted q)
  | .axis => List.range 8
  | .mseq => List.range 64
  | .qch => List.range 4
  | .session => List.range 8

/-! Winter (R521). -/

/-- The address lies among the lane and engine registers of a quad. -/
def quadAddr (a : Nat) : Bool := (decide (0x20140 ≤ a) && decide (a < 0x20164)) || (decide (0x20200 ≤ a) && decide (a < 0x2025C))

/-- The address lies in a block of the UNC domain (18_power_startup.md R448, R449). -/
def uncAddr (a : Nat) : Bool :=
  a = 0x20164 || (decide (0x40000 ≤ a) && decide (a < 0x80000)) || (decide (0xC0000 ≤ a) && decide (a < 0xC0040))

/-- The domain of the register is in Winter. -/
def State.regWinter (s : State) (a inst : Nat) : Bool :=
  if quadAddr a then s.quad inst = .winter else uncAddr a && s.season domUnc = .winter

/-- A field held in the always-on domain (18_power_startup.md R458). -/
def aonFld (f : Fld) : Bool :=
  match f.addr with
  | 0x40060 | 0x40064 | 0x40108 | 0x4010C | 0x60118 | 0x6011C | 0x6013C => true
  | 0x60120 => f.lo = 0
  | 0x60128 => f.lo = 3 || f.lo = 5 || f.lo = 6
  | _ => false

/-! What a register shows of the block. Each function gives the fields of one register that the register file does not hold. -/

/-- A position as a 64-bit number whose upper half shows bits [47:32] sign-extended. -/
def wide48 (x : Int) : Nat := ofSigned 64 (wrapS 48 x)

/-- One bit for each condition. -/
def State.sysStatus (s : State) : List (Fld × Nat) :=
  [(F.SYS_STATUS_STATE, s.op.code), (F.SYS_STATUS_JOB_DEFINED, b2n s.job.defined), (F.SYS_STATUS_MODE, b2n (s.job.defined && s.job.scan)),
    (F.SYS_STATUS_QDR_USABLE, s.fld F.QDR_STATUS_USABLE), (F.SYS_STATUS_UNSAVED, b2n s.anyUnsaved),
    (F.SYS_STATUS_RECOVERING, b2n (!s.flt.recov.isEmpty)), (F.SYS_STATUS_RECOVERY, s.fld F.SEC_STATUS_RECOVERY)]

/-- PROGRESS of the running CAL_ALIGN or CAL_THERMAL (R533). -/
def State.opProgress (s : State) : List (Fld × Nat) :=
  match s.ops.align, s.ops.therm with
  | some _, _ =>
    if s.alignRuns then [(F.SYS_OP_STATUS_PROGRESS, min 16 (minND 16 (s.workTiles.map s.edgesOf)))] else [(F.SYS_OP_STATUS_PROGRESS, 0)]
  | none, some h => [(F.SYS_OP_STATUS_PROGRESS, h.points.length)]
  | none, none => []

/-- SYS_SECTION_MAP of section `d` (R535). -/
def State.sectionMap (s : State) (d : Nat) : List (Fld × Nat) :=
  let w := s.fld F.LUM_SEC_STATUS_SLOT d
  [(F.SYS_SECTION_MAPs_HEADROOM, bitsOf w 0 8), (F.SYS_SECTION_MAPs_OPEN, bitsOf w 8 3), (F.SYS_SECTION_MAPs_SHORT, bitsOf w 11 3),
    (F.SYS_SECTION_MAPs_UNVERIFIED, bitsOf w 14 3), (F.SYS_SECTION_MAPs_TEMP_FLAG, bitsOf w 17 1),
    (F.SYS_SECTION_MAPs_ABSENT, s.fld F.LUM_SEC_STATUS_ABSENT d),
    (F.SYS_SECTION_MAPs_IN_SPAN, b2n (s.inSpan (2 * d) || s.inSpan (2 * d + 1))),
    (F.SYS_SECTION_MAPs_DERATE_PCT, (rheDiv (s.fld F.LUM_SEC_DERATE_FACTOR d * 100 : Nat) 16384).toNat)]

/-- SYS_TILE_MAP of tile `i` (R536). -/
def State.tileMap (s : State) (i : Nat) : List (Fld × Nat) :=
  let q := fun (n : Nat) => if s.quad i = .winter then 0 else n
  let e := s.eng i
  [(F.SYS_TILE_MAPi_PRESENT, s.fld F.TILE_STATUS_PRESENT i), (F.SYS_TILE_MAPi_USABLE, b2n (s.usable i)),
    (F.SYS_TILE_MAPi_IN_SPAN, b2n (s.inSpan i)), (F.SYS_TILE_MAPi_BLOCK_LOCK, q (s.fld F.TILE_LANE_STATUS_BLOCK_LOCK i)),
    (F.SYS_TILE_MAPi_TRAIN_FAIL, q (s.fld F.TILE_LANE_STATUS_TRAIN_FAIL i)), (F.SYS_TILE_MAPi_ENG_RUNNING, q (s.fld F.TILE_ENG_STATUS_RUNNING i)),
    (F.SYS_TILE_MAPi_ACTIVE, q (s.active i)), (F.SYS_TILE_MAPi_DRIFT_HOLD, s.fld F.TILE_CAL_STATUS_DRIFT_HOLD i),
    (F.SYS_TILE_MAPi_INVALID_LAST, q (b2n e.invalidLast)), (F.SYS_TILE_MAPi_LAMP_FAULT_LAST, q (b2n (e.lampLow && e.lampRun = 0))),
    (F.SYS_TILE_MAPi_JOINT_RANGE_RIGHT, b2n (s.jointRange i)), (F.SYS_TILE_MAPi_UNSAVED, b2n (s.recPresent i && s.recUnsaved i)),
    (F.SYS_TILE_MAPi_RESTARTS, q (s.fld F.TILE_ENG_STATUS_RESTARTS i))]

/-- The sixteen seasons of PWR_DOM `k` (18_power_startup.md R469). -/
def State.domWord (s : State) (k : Nat) : Nat := sumN ((List.range 16).map (fun j => (s.season (16 * k + j)).code * 4 ^ j))

/-- The SYS and PWR blocks. -/
def State.viewSys (s : State) (a k : Nat) : List (Fld × Nat) :=
  match a with
  | 0x18 => s.sysStatus
  | 0x20 => s.opProgress
  | 0x400 => s.sectionMap k
  | 0x800 => s.tileMap k
  | 0x1000 => [(F.SYS_TILE_SERIALi_SERIAL, if s.bit F.TILE_STATUS_PRESENT k then identSerial (s.lane k).ident else 0)]
  | 0x10100 => [(F.PWR_DOMk_SEASONS, s.domWord k)]
  | _ => []

/-- TILE_CAL_STATUS of tile `i` (08_calibration.md R238). -/
def State.calStatus (s : State) (i : Nat) : List (Fld × Nat) :=
  if s.recPresent i then
    [(F.TILE_CAL_STATUS_REC_VALID, b2n (s.calMatch i)), (F.TILE_CAL_STATUS_UNSAVED, b2n (s.recUnsaved i)),
      (F.TILE_CAL_STATUS_GEOM_VALID, b2n (s.recFlag i 0)), (F.TILE_CAL_STATUS_BASE_VALID, b2n (s.recFlag i 1)),
      (F.TILE_CAL_STATUS_COMPAT_VALID, b2n (s.recFlag i 2)), (F.TILE_CAL_STATUS_NO_SWEEP, b2n (s.recFlag i 3))]
  else [(F.TILE_CAL_STATUS_DRIFT_HOLD, 0), (F.TILE_CAL_STATUS_EQX_FALLBACK, 0), (F.TILE_CAL_STATUS_ALIGN_CHECK_FAIL, 0),
    (F.TILE_CAL_STATUS_ALIGN_FAIL, 0)]

/-- The TILE block: tile `i`, register index `k`. -/
def State.viewTile (s : State) (a k i : Nat) : List (Fld × Nat) :=
  match a with
  | 0x20100 => [(F.TILE_IDENTj_WORD, beAt (padTo 32 (s.lane i).shown) (4 * k) 4)]
  | 0x20120 => [(F.TILE_STATUS_CAL_MATCH, b2n (s.calMatch i && s.bit F.TILE_STATUS_IDENT_OK i)), (F.TILE_STATUS_USABLE, b2n (s.usableBits i)),
      (F.TILE_STATUS_IN_SPAN, b2n (s.inSpan i)), (F.TILE_STATUS_JOINT_RANGE_RIGHT, b2n (s.jointRange i))]
  | 0x20260 => s.calStatus i
  | 0x20264 => [(F.TILE_CAL_GEN_GEN, if s.recPresent i then recGen (s.recBytes i 0 64) else 0)]
  | 0x20268 => if s.recPresent i then [(F.TILE_CAL_TFIT_T_LO, s.recLe i 22 2), (F.TILE_CAL_TFIT_T_HI, s.recLe i 24 2)]
      else [(F.TILE_CAL_TFIT_T_LO, 0), (F.TILE_CAL_TFIT_T_HI, 0)]
  | 0x2026C => if s.recPresent i then [] else [(F.TILE_EQX_RESULT_DUST, 0), (F.TILE_EQX_RESULT_NEW_DEFECT, 0)]
  | 0x20270 => if s.recPresent i then [] else [(F.TILE_ALIGN_DEV_DY, 0), (F.TILE_ALIGN_DEV_DX, 0)]
  | _ => []

/-- The PIPE block. -/
def State.viewPipe (s : State) (a : Nat) : List (Fld × Nat) :=
  match a with
  | 0x30090 => [(F.PIPE_DRIFT_STATUS_TILES, (s.span.filter (fun i => s.bit F.TILE_CAL_STATUS_DRIFT_HOLD i)).length)]
  | _ => []

/-- LINE_PHASE as it reads: the written value and what JOB_START has added to it (04_position_scheduler.md R109). -/
def State.shownPhase (s : State) : Nat :=
  ofSigned 64 (toSigned 64 (s.fld F.LINE_PHASE_HI_PHASE * 2 ^ 32 + s.fld F.LINE_PHASE_LO_PHASE) + s.job.phase)

/-- The SCHED block (04_position_scheduler.md R98, R128): encoder `k`. SCHED_NEXT_RISE reads 0 while there is no prediction: assumption
log 165. -/
def State.viewSched (s : State) (a k : Nat) : List (Fld × Nat) :=
  let e := s.enc k
  match a with
  | 0x40010 => [(F.LINE_PHASE_LO_PHASE, s.shownPhase % 2 ^ 32)]
  | 0x40014 => [(F.LINE_PHASE_HI_PHASE, s.shownPhase / 2 ^ 32)]
  | 0x4003C => [(F.SCHED_NEXT_RISE_NS, ofSigned 32 (s.tNow.getD 0))]
  | 0x40040 => [(F.SCHED_POS_LO_POS, ofSigned 64 s.sched.pHat % 2 ^ 32)]
  | 0x40044 => [(F.SCHED_POS_HI_POS, ofSigned 64 s.sched.pHat / 2 ^ 32)]
  | 0x40048 => [(F.SCHED_VEL_VEL, ofSigned 32 (clampS 32 (rheShift s.sched.vHat 16)))]
  | 0x40060 => [(F.TB_NOW_LO_NS, s.tb % 2 ^ 32)]
  | 0x40064 => [(F.TB_NOW_HI_NS, s.tb / 2 ^ 32 % 2 ^ 32)]
  | 0x40104 => [(F.ENC_STATUS_LEVEL, b2n e.a + 2 * b2n e.b + 4 * b2n e.z)]
  | 0x40108 => [(F.ENC_POS_LO_POS, wide48 e.pos % 2 ^ 32)]
  | 0x4010C => [(F.ENC_POS_HI_POS, wide48 e.pos / 2 ^ 32)]
  | 0x40110 => [(F.ENC_TS_LO_TS, e.ts % 2 ^ 32)]
  | _ => []

/-- MOT_GRP_STATUS of group `g` (10_motion.md R294). -/
def State.grpStatus (s : State) (g : Nat) : List (Fld × Nat) :=
  let x := s.group g
  [(F.MOT_GRP_STATUS_QFILL, x.queue.length), (F.MOT_GRP_STATUS_MOVING, b2n (s.groupMoving g)), (F.MOT_GRP_STATUS_HALTING, b2n x.halting),
    (F.MOT_GRP_STATUS_PACED, b2n (x.run.any (fun r => r.mv.paced)))]

/-- The MOT block: group `k`, axis `i`. -/
def State.viewMot (s : State) (a k i : Nat) : List (Fld × Nat) :=
  match a with
  | 0x60040 => s.grpStatus k
  | 0x60118 => [(F.MOT_AXIS_POS_LO_POS, wide48 (s.axis i).pos % 2 ^ 32)]
  | 0x6011C => [(F.MOT_AXIS_POS_HI_POS, wide48 (s.axis i).pos / 2 ^ 32)]
  | 0x60120 => [(F.MOT_AXIS_MSTEP_INDEX, ((s.axis i).steps % (s.fld F.MOT_AXIS_MSTEP_CYCLE i : Int)).toNat)]
  | 0x60124 => [(F.MOT_AXIS_FERR_E, ofSigned 32 (clampS 32 (s.followErr i)))]
  | 0x60128 => [(F.MOT_AXIS_STATUS_MOVING, b2n (s.axisMoving i)), (F.MOT_AXIS_STATUS_HOMING, b2n (s.axisHoming i))]
  | 0x6013C => [(F.MOT_AXIS_STEPS_COUNT, ofSigned 32 (s.axis i).steps)]
  | _ => []

/-- The MON block: converter `k`. `free` is the output of a filter that settles, which the manual does not give
(12_bar_monitor.md R319). -/
def State.viewMon (s : State) (a k free : Nat) : List (Fld × Nat) :=
  match a with
  | 0x70044 => [(F.MON_CONV_STATUS_SETTLING, b2n (s.bit F.MON_CONV_STATUS_SETTLING k && decide (s.tb + s.outputNs k < (s.conv k).due)))]
  | 0x7004C =>
    (if s.discarding k then [(F.MON_FORCE_OUTPUT, free % 2 ^ 24)] else []) ++
      [(F.MON_FORCE_SETTLING, b2n (s.discarding k)),
        (F.MON_FORCE_URGENT, b2n (if s.discarding k then (s.conv k).urgent.isSome else (s.conv k).outUrg))]
  | _ => []

/-- XPT_WIN_FREE (14_host_network.md R376, R381): descriptors that no session holds. -/
def State.winFree (s : State) : Nat := 3584 - sumN (s.sessions.map (fun x => if x.id.st = 0 then 0 else x.id.win))

/-- The window of session `k` (14_host_network.md R390). -/
def State.viewSess (s : State) (a k : Nat) : List (Fld × Nat) :=
  let x := s.session k
  match a with
  | 0xB0100 => [(F.XPT_SESS_STATUS_STATE, x.id.st), (F.XPT_SESS_STATUS_ROLE, x.id.role), (F.XPT_SESS_STATUS_SEALED, b2n x.id.isSealed),
      (F.XPT_SESS_STATUS_STRIPE, b2n x.id.stripe), (F.XPT_SESS_STATUS_SEND_PORT, x.id.sendPort),
      (F.XPT_SESS_STATUS_PATHS, sumN ((List.range 17).map (fun q => if x.id.paths.any (fun c => c.1 = q) then 2 ^ q else 0)))]
  | 0xB0104 => [(F.XPT_SESS_SUB_REND, x.tx.rend), (F.XPT_SESS_SUB_RESERVED, b2n x.tx.reserved), (F.XPT_SESS_SUB_LAG, x.tx.lag)]
  | 0xB0108 => [(F.XPT_SESS_ID_ID, x.id.id)]
  | 0xB010C => [(F.XPT_SESS_LAGNOW_LINES, match s.prod.last with
      | some n => min (2 ^ 20 - 1) (x.tx.lagAt n)
      | none => 0)]
  | 0xB0110 => [(F.XPT_SESS_WIN_WIN, x.id.win)]
  | 0xB0114 => [(F.XPT_SESS_LIMIT_LIMIT, x.tx.limit)]
  | _ => []

/-- MBUS_BMP_STATUS (16_management_buses.md R424, R430). -/
def State.bmpInReady (s : State) : Bool := (s.cmd .bmp).run.isNone && (s.cmd .bmp).queue.isEmpty && s.bmp.chunks.isEmpty
def State.bmpStatus (s : State) : List (Fld × Nat) :=
  [(F.MBUS_BMP_STATUS_IN_READY, b2n s.bmpInReady), (F.MBUS_BMP_STATUS_OUT_AVAIL, b2n (!s.bmp.fifo.isEmpty)),
    (F.MBUS_BMP_STATUS_BUSY, b2n (s.cmd .bmp).run.isSome), (F.MBUS_BMP_STATUS_OUT_LEN, s.bmp.fifo.length)]

/-- The words of the dump that read as the error mark (19_faults_recovery.md R490): in FAULT_HOLD those of the QDR dump region. -/
def State.dumpUe (s : State) : Nat :=
  if s.op = .faultHold && s.bit F.FLT_STATUS_DUMP_QDR then (s.bad.filter (fun w => within w 0x1600000 0x19FFFFF)).length
  else s.fld F.FLT_DUMP_UE_COUNT

/-- The blocks from QDR to ANA. -/
def State.viewHigh (s : State) (a i : Nat) : List (Fld × Nat) :=
  match a with
  | 0x80008 => [(F.QDR_STATUS_SCRUBBING, b2n (s.bit F.QDR_STATUS_USABLE && s.bit F.QDR_SCRUB_EN))]
  | 0xB001C => [(F.XPT_WIN_FREE_DESC, s.winFree)]
  | 0xC0040 => [(F.MBUS_BMP_CFG_ADDR, 0x3A + s.env.strap % 4)]
  | 0xC0044 => s.bmpStatus
  | 0xE0000 => [(F.FLT_STATUS_RECOVERING, b2n (!s.flt.recov.isEmpty))]
  | 0xE0028 => [(F.FLT_DUMP_UE_COUNT, s.dumpUe)]
  | 0xE000C => [(F.FLT_RING_SEQ_SEQ, s.flt.seq % 2 ^ 32)]
  | 0xF002C => [(F.ANA_VQ_FILL_FILL, s.ringFill)]
  | _ => s.viewSess a i

/-- The fields of a register that the register file does not hold: array index `k`, window instance `i`. -/
def State.viewReg (s : State) (a k i free : Nat) : List (Fld × Nat) :=
  match a / 0x10000 with
  | 0 | 1 => s.viewSys a k
  | 2 => s.viewTile a k i
  | 3 => s.viewPipe a
  | 4 => s.viewSched a k
  | 6 => s.viewMot a k i
  | 7 => s.viewMon a k free
  | _ => s.viewHigh a i

/-- The present value of a field, as the register shows it. -/
def State.fldNow (s : State) (view : List (Fld × Nat)) (winter : Bool) (f : Fld) (k i : Nat) : Nat :=
  if f.acc = .wo || (winter && !aonFld f) then 0
  else match view.find? (fun e => e.1 = f) with
    | some e => e.2
    | none => s.fldAt f k i

/-- The present value of a register; reserved bits read 0 (00_scope.md R8). -/
def State.regNow (s : State) (r : Reg) (k i free : Nat) : Nat :=
  let view := s.viewReg r.addr k i free
  let w := s.regWinter r.addr i
  sumN (r.flds.map (fun f => s.fldNow view w f k i * 2 ^ f.lo)) % 2 ^ 32

/-! Latches (R520). -/

/-- The registers that a read of LO at this base address latches. -/
def latched (a : Nat) : List Nat :=
  match a with
  | 0x40060 => [0x40064]
  | 0x40040 => [0x40044]
  | 0x40108 => [0x4010C, 0x40110]
  | 0x60118 => [0x6011C]
  | _ => []

/-- The key of a latch: an address and an instance. -/
def latchKey (a k i : Nat) : Nat := (a + 0x20 * k) * 1024 + i

/-- The HI (and ENC_TS_LO) halves latched by a read of LO on path `p`. -/
def State.takeLatch (s : State) (p : Path) (r : Reg) (k i : Nat) : State :=
  (latched r.addr).foldl (fun s a =>
    match findReg a (blockRegs a) with
    | some (h, _) => s.modBank p (fun b => { b with latches := assocSet (latchKey a k i) (s.regNow h k i 0) b.latches })
    | none => s) s

/-- One instance of a register read: its value, with RC fields cleared and LO latching HI (R6, R520). A read in the clock of an event
stands before it in the queue, so that it gives the old value (R7): assumption log 148. -/
def State.readOne (s : State) (p : Path) (r : Reg) (k i : Nat) : State × Nat :=
  match selAt r.addr with
  | some j => (s, s.selOf p j)
  | none =>
    if r.addr = 0x1C then (s, (s.bank p).err)
    else
      match assocGet (latchKey r.addr k i) (s.bank p).latches with
      | some v => (s, v)
      | none =>
        let (free, s) := if r.addr = 0x7004C && s.discarding k then s.draw else (0, s)
        let v := s.regNow r k i free
        let w := s.regWinter r.addr i
        let s := if w && !(r.flds.any aonFld) then s else s.takeLatch p r k i
        let s := if w then s else r.flds.foldl (fun s f => if f.acc = .rc then s.setFldAt f k i 0 else s) s
        (s, v)

/-- A register read through a path's bank (R403, R517, R524, R526): none where the address is absent. -/
def State.readAddr (s : State) (p : Path) (addr : Nat) : State × Option Nat :=
  match regAt addr with
  | none => (s, none)
  | some (r, k) =>
    match r.win with
    | none => let (s, v) := s.readOne p r k 0; (s, some v)
    | some w =>
      let sel := s.selOf p (winIdx w)
      if sel = 0xFFFF then (s.noteSel p true (winIdx w), some 0)
      else if winCount w ≤ sel then (s.noteSel p false (winIdx w), some 0)
      else if w = .port && s.linkMuted sel then (s, some 0)
      else let (s, v) := s.readOne p r k sel; (s, some v)

end Sys2Proof.Machine
end

