-- ==== Sys2Proof/Machine/RegWrite.lean ====
section
/-! DEFINITION. Writing a register (15_command_set.md R403 to R405, 21_register_map.md R522 to R529): who may write, in which
state, within which range, and what the write does. -/

namespace Sys2Proof.Machine

/-! Roles (15_command_set.md R404, R414 notes c and d). -/

/-- The role and state rules of a write through path `p`: the status it fails with, `stOk` where it may go on. -/
def State.writeRole (s : State) (p : Path) (free : Bool) : Nat :=
  match p with
  | .fw => stOk
  | .bmp => if s.op = .boot then stState else if free then stOk else stRole
  | .sess k =>
    if s.op = .boot then stState
    else if free then stOk
    else if s.roleOf k = 0 then (if s.op = .faultHold then stState else stOk)
    else if s.roleOf k = 2 then (if s.op = .service then stOk else stState)
    else stRole

/-- A register that every path may write: a select, or SYS_ERR (R404, R531). -/
def freeWrite (addr : Nat) : Bool := (selAt addr).isSome || addr = 0x1C

/-- IDLE and SERVICE. -/
def State.calm (s : State) : Bool := s.op = .idle || s.op = .service

/-- Registers that are written only in IDLE and SERVICE. -/
def calmRegs (a : Nat) : Bool :=
  [0x40, 0x10008, 0x1000C, 0x10010, 0x10014, 0x10018,
    0x30000, 0x30004, 0x30008, 0x3000C, 0x30020, 0x30040, 0x30044, 0x30060, 0x30064, 0x30068, 0x3006C, 0x30070, 0x30074, 0x30078,
    0x3007C, 0x3008C, 0x300A0, 0x300C0, 0x300C4, 0x300C8, 0x300CC, 0x300D0, 0x300E0, 0x300E4, 0x300E8].contains a ||
  [0x40000, 0x40008, 0x4000C, 0x40010, 0x40014, 0x40018, 0x4001C, 0x40020, 0x40024, 0x40028,
    0x50004, 0x50008, 0x5000C, 0x50010, 0x50040, 0x5004C,
    0x60080, 0x60084, 0x60088, 0x6008C, 0x60090, 0x60094, 0x60098].contains a ||
  [0x70004, 0x70014, 0x7001C, 0x70020, 0x70040, 0x700C0, 0x70100, 0x70104, 0x70200, 0x70204, 0x70208, 0x80020,
    0xA0004, 0xA0008, 0xA0100, 0xA0104, 0xA0108, 0xA010C, 0xA0110, 0xA0114, 0xB0004, 0xB0008, 0xB000C,
    0xC0000, 0xC0040, 0xE0004, 0xE0008].contains a

/-- The axis registers that are written only while the axis neither moves nor homes (10_motion.md R294). -/
def restRegs (a : Nat) : Bool := [0x60100, 0x60104, 0x60110, 0x60114, 0x60120, 0x6012C, 0x60130, 0x60134, 0x60138].contains a

/-- An open session holds a path on port `q`. -/
def State.pathOn (s : State) (q : Nat) : Bool :=
  s.openSessions.any (fun k => (s.session k).id.paths.any (fun c => c.1 = q))

/-- ANA_CFG.CHAN, ANA_KERNEL_OPS and the SHIFT fields, which change only in IDLE and SERVICE (09_output_analytics.md R268). -/
def State.anaFixed (s : State) (a v : Nat) : Bool :=
  match a with
  | 0xF0000 => bitsOf v 0 3 ≠ s.fld F.ANA_CFG_CHAN
  | 0xF0004 => bitsOf v 0 4 ≠ s.fld F.ANA_STREAK_SHIFT
  | 0xF000C => bitsOf v 0 4 ≠ s.fld F.ANA_BAND_SHIFT
  | 0xF0030 => bitsOf v 0 12 ≠ s.fld F.ANA_KERNEL_OPS_OPS
  | _ => false

/-- The axis `i` may take another group, or a position: the groups concerned are at rest with empty queues (R294). -/
def State.groupsRest (s : State) (i v : Nat) : Bool :=
  !s.groupBusy (s.fld F.MOT_AXIS_CFG_GROUP i) && !(v % 8 ≠ s.fld F.MOT_AXIS_CFG_GROUP i && s.groupBusy (v % 8))

/-- The state rule of a register for a write of `v` by path `p`: array index `k`, window instance `i`. -/
def State.stateRule (s : State) (p : Path) (a k i v : Nat) : Nat :=
  if calmRegs a ∧ !s.calm then stState
  else if restRegs a ∧ (s.axisMoving i ∨ s.axisHoming i) then stBusy
  else
    match a with
    | 0x40070 => if s.op = .idle then stOk else stState
    | 0x20140 => if bitsOf v 0 5 ≠ 0 ∧ s.op ≠ .service then stState else stOk
    | 0x20148 => if s.op = .service then stOk else stState
    | 0x30010 | 0x30014 => if s.op = .calibrating ∧ p ≠ .fw then stBusy else stOk
    | 0x40100 | 0x40108 | 0x4010C => if k = s.masterIdx ∧ !s.calm then stState else stOk
    | 0x60100 =>
      if b2n (bitAt v 3) ≠ s.fld F.MOT_AXIS_CFG_MEDIA i ∧ !s.calm then stState else if s.groupsRest i v then stOk else stBusy
    | 0x60118 | 0x6011C => if s.groupBusy (s.fld F.MOT_AXIS_CFG_GROUP i) then stBusy else stOk
    | 0x70010 => if p = .fw then stOk else stRole
    | 0x90004 => if p ≠ .fw then stRole else if s.calm ∨ s.op = .boot then stOk else stState
    | 0xA0100 | 0xA0104 | 0xA0108 | 0xA010C | 0xA0110 | 0xA0114 => if s.pathOn i then stBusy else stOk
    | 0xA0128 =>
      if s.op ≠ .service then stState else if s.pathOn i then stBusy else stOk
    | _ =>
      if s.anaFixed a v ∧ !s.calm then stState
      else if 0x90100 ≤ a ∧ a < 0xA0000 ∧ p ≠ .fw then stRole
      else stOk

/-! Ranges. -/

/-- Ranges of SYS, PWR, PIPE and SCHED. -/
def State.rangeLow (s : State) (a v : Nat) : Bool :=
  let f := bitsOf v
  match a with
  | 0x40 => (List.range 6).all (fun j => f (2 * j) 2 ≠ 3)
  | 0x10010 => decide (0x100 ≤ f 16 16)
  | 0x10014 => f 0 16 ≠ 0
  | 0x10018 => f 0 12 ≠ 0 && f 16 16 ≠ 0
  | 0x30000 => f 1 3 ≠ 7
  | 0x30004 => decide (0x1000 ≤ f 0 16)
  | 0x3000C => f 0 8 ≠ 0
  | 0x30040 => f 0 2 ≠ 3
  | 0x30060 => f 0 8 ≠ 0 && f 8 6 ≠ 0 && f 24 4 ≠ 0
  | 0x300CC => f 0 1 = 0
  | 0x300E0 => f 1 2 ≠ 3 && decide (f 3 3 ≤ 3)
  | 0x40018 => within (f 0 24) 1000 16000000
  | 0x4001C => within (f 16 10) 100 1000
  | 0x40024 => within (f 0 11) 10 2000
  | 0x40028 => f 16 8 ≠ 0
  | 0x40030 => decide (s.fld F.SCHED_TMIN_NS ≤ f 0 24)
  | _ => true

/-- FAST is not below VSTART of the axis's group (10_motion.md R294). -/
def State.homeSpeedOk (s : State) (i v : Nat) : Bool :=
  let g := s.fld F.MOT_AXIS_CFG_GROUP i
  within (bitsOf v 16 16) 1 (bitsOf v 0 16) && (decide (4 ≤ g) || decide (s.fld F.MOT_GRP_VSTART_RATE g ≤ 256 * bitsOf v 0 16))

/-- Ranges of LUM, MOT and SCAN. -/
def State.rangeMid (s : State) (a i v : Nat) : Bool :=
  let f := bitsOf v
  match a with
  | 0x50004 => within (f 0 5) 8 16
  | 0x50008 => decide (f 0 8 < f 8 8) && within (f 16 7) 10 100 && within (f 24 4) 1 10
  | 0x5000C => within (f 0 12) 200 2000 && f 0 12 % 25 = 0
  | 0x50040 => within (f 0 7) 1 64 && f 8 8 ≠ 0
  | 0x5004C => decide (f 0 12 ≤ f 16 12)
  | 0x60048 => decide (v ≤ 100000 * 256)
  | 0x60084 => within v 1 (s.fld F.SCAN_VMAX_PCS)
  | 0x60088 => decide (v ≤ 40000000)
  | 0x60098 => f 0 16 ≠ 0
  | 0x60100 => decide (f 0 3 ≤ 4)
  | 0x60104 => within (f 0 11) 10 2000 && within (f 16 11) 10 2000
  | 0x60108 => decide (f 0 12 ≤ s.fld F.MOT_AXIS_BOOST_BOOST i)
  | 0x6010C => decide (s.fld F.MOT_AXIS_IREF_RUN i ≤ f 0 12)
  | 0x60114 => decide (f 0 16 < f 16 16)
  | 0x60120 => within (f 16 11) 4 1024
  | 0x60130 => s.homeSpeedOk i v
  | 0x60134 => within v 1 (2 ^ 31 - 1)
  | _ => true

/-- An input code of the monitor's multiplexers (12_bar_monitor.md R315): 47 is reserved. -/
def inputOk (n : Nat) : Bool := n ≠ 47

/-- Ranges of MON, QDR, BMV, NET, XPT, MBUS, FLT and ANA. -/
def rangeHigh (a i v : Nat) : Bool :=
  let f := bitsOf v
  match a with
  | 0x70004 => decide (f 0 8 < f 8 8) && f 16 4 ≠ 0
  | 0x70014 => (List.range 4).all (fun c => inputOk (f (8 * c) 6))
  | 0x7001C => inputOk (f 0 6) && inputOk (f 8 6)
  | 0x70100 => inputOk (f 0 6) && inputOk (f 8 6)
  | 0x70204 => decide (f 0 16 ≤ 52019)
  | 0x80004 => decide (f 2 3 ≤ 4)
  | 0x80020 => f 8 8 ≠ 0
  | 0x90004 => within (f 16 16) 100 4000
  | 0xA0100 => if i = 16 then f 0 3 = 0 || f 0 3 = 5 || f 0 3 = 6 else decide (f 0 3 ≤ 4)
  | 0xA0104 => within (f 0 12) 1 4094
  | 0xB0004 => f 0 4 ≠ 0
  | 0xB0008 => decide (10 ≤ f 0 16) && decide (100 ≤ f 16 16)
  | 0xB000C => decide (10 ≤ f 0 16)
  | 0xC0000 => f 0 2 ≠ 3
  | 0xC0040 => decide (10 ≤ f 16 8)
  | 0xE0004 => within (f 16 8) 90 125
  | 0xE0008 => decide (100 ≤ f 0 16)
  | 0xF0000 => decide (f 0 3 ≤ 4)
  | 0xF0004 => within (f 0 4) 2 10 && f 4 4 ≠ 0 && f 8 4 ≠ 0 && f 16 16 ≠ 0
  | 0xF0008 => f 0 12 ≠ 0
  | 0xF000C => within (f 0 4) 2 12 && f 4 4 ≠ 0 && f 8 8 ≠ 0 && f 16 16 ≠ 0
  | 0xF0010 => f 0 8 ≠ 0 && f 8 4 ≠ 0
  | 0xF0030 => (List.range 4).all (fun j => decide (f (3 * j) 3 ≤ 4))
  | 0xF0080 => decide (10 ≤ f 16 16)
  | _ => true

/-- The value lies within the register's ranges and uses no reserved code. -/
def State.inRange (s : State) (a i v : Nat) : Bool :=
  if a < 0x50000 then s.rangeLow a v
  else if a < 0x70000 then s.rangeMid a i v
  else rangeHigh a i v

/-! Effects. -/

/-- The named fields stored: RW takes the written bits, W1C clears where a 1 is written (00_scope.md R6). A write in the clock of an event
stands before it in the queue, so that the event wins (R7): assumption log 148. -/
def State.storeFlds (s : State) (r : Reg) (k i v : Nat) (ro : Bool) : State :=
  r.flds.foldl (fun s f =>
    let x := bitsOf v f.lo f.width
    match f.acc with
    | .rw => s.setFldAt f k i x
    | .w1c => s.setFldAt f k i (Nat.xor (s.fldAt f k i) (Nat.land (s.fldAt f k i) x))
    | .ro => if ro then s.setFldAt f k i x else s
    | _ => s) s

/-- A link test runs on lane `i` (03_triry_link.md R88). -/
def State.laneTested (s : State) (i : Nat) : Bool := s.fld F.TILE_LANE_CTRL_LOOPBACK i ≠ 0 || s.fld F.TILE_LANE_CTRL_PRBS i ≠ 0

/-- Quad `q` returns to Winter when the last link test on it has ended (01_system_overview.md R18), unless a calibration uses it or a
lane trains. -/
def State.testRest (s : State) (q : Nat) : State :=
  if (List.range 4).all (fun j => !s.laneTested (4 * q + j) && (s.lane (4 * q + j)).train.isNone) &&
      s.ops.align.isNone && s.ops.therm.isNone then s.quadWinter q
  else s

/-- A write of TILE_LANE_CTRL in SERVICE (03_triry_link.md R88, R90): the lane's quad is powered for the test. -/
def State.laneCtrl (s : State) (i v : Nat) : State :=
  if s.op ≠ .service then s
  else
    let s := if v % 64 = 0 then s else s.quadSummer (i / 4)
    let tested := s.laneTested i
    let s := s.setTest i (bitsOf v 1 2) (bitsOf v 3 2)
    let s := if bitAt v 5 then s.injectLane i else s
    let s := if bitAt v 0 then s.trainStart i else s
    if tested && !s.laneTested i then s.testRest (i / 4) else s

/-- A write of TILE_LANE_EQ in SERVICE (R88, R91): CTLE stored, the taps sent with TX_TAP_SET. -/
def State.laneEq (s : State) (i v : Nat) : State :=
  let s := (s.quadSummer (i / 4)).setFld F.TILE_LANE_EQ_CTLE v i
  s.bcbPush (i / 128) i 0x08 [BitVec.ofNat 8 (bitsOf v 4 4 * 16 + bitsOf v 8 4)] .setting 4

/-- VERIFY (06_engines_shading.md R178): every engine in Summer checks bank `b`, unless it is active there. Checks under way go on. -/
def State.verifyAll (s : State) (b : Nat) : State :=
  let new := ((List.range 512).filter (fun i => s.quadUp i && s.active i ≠ b)).map (fun i => (i, b))
  ({ s with ops := { s.ops with checks := s.ops.checks ++ new.filter (fun x => !s.ops.checks.contains x) } }).noteVerify

/-- A committed line carries no swap any more. -/
def State.unmarkSwap (s : State) : State :=
  { s with sched := { s.sched with cur := s.sched.cur.map (fun (c : Commit) => { c with swap := false }) } }

/-- ARM (R179): SWAP_MODE 1 arms for a pulse, SWAP_MODE 2 triggers at once, other codes have no effect. A swap that is pending
already gives way to the new one. DESIGN CHOICE, assumption log 164. -/
def State.swapArm (s : State) : State :=
  match s.fld F.PIPE_BANK_CTRL_SWAP_MODE with
  | 1 => s.unmarkSwap.setFlds [(F.PIPE_BANK_STATUS_ARMED, 1), (F.PIPE_BANK_STATUS_PENDING, 0)]
  | 2 => s.unmarkSwap.setFlds [(F.PIPE_BANK_STATUS_ARMED, 1), (F.PIPE_BANK_STATUS_PENDING, 1)]
  | _ => s

/-- DISARM (R179): an armed or pending swap is cancelled, that of a line already committed too. -/
def State.swapDisarm (s : State) : State :=
  s.unmarkSwap.setFlds [(F.PIPE_BANK_STATUS_ARMED, 0), (F.PIPE_BANK_STATUS_PENDING, 0)]

/-- The actions of a write of PIPE_BANK_CTRL, DISARM after ARM (R179). -/
def State.bankCtrl (s : State) (v : Nat) : State :=
  let s := if bitAt v 9 then s.verifyAll (bitsOf v 10 1) else s
  let s := if bitAt v 8 then s.swapArm else s
  let s := if bitAt v 11 then s.swapDisarm else s
  s.swapIdle

/-- A write of PIPE_LUT_DATA (09_output_analytics.md R267): entries INDEX and INDEX + 1, then on to the next pair. -/
def State.lutData (s : State) (v : Nat) : State :=
  let at_ := s.fld F.PIPE_LUT_ADDR_CH * 4096 + s.fld F.PIPE_LUT_ADDR_INDEX
  let next := (at_ + 2) % 16384
  let s := { s with ana := { s.ana with luts := assocSet (at_ + 1) (v / 65536 % 65536) (assocSet at_ (v % 65536) s.ana.luts) } }
  s.setFlds [(F.PIPE_LUT_ADDR_INDEX, next % 4096), (F.PIPE_LUT_ADDR_CH, next / 4096)]

/-- A HI half held until its LO is written (21_register_map.md R520). -/
def State.holdHi (s : State) (p : Path) (key v : Nat) : State :=
  s.modBank p (fun b => { b with held := assocSet key (v % 65536) b.held })

/-- The position that a write of LO sets: the held HI half, or the present one. -/
def State.joinHi (s : State) (p : Path) (key v : Nat) (now : Int) : State × Int :=
  let hi := (assocGet key (s.bank p).held).getD (wide48 now / 2 ^ 32 % 65536)
  (s.modBank p (fun b => { b with held := assocDel key b.held }), toSigned 48 (hi * 2 ^ 32 + v % 2 ^ 32))

/-- ENC_POS_LO written (04_position_scheduler.md R99). -/
def State.encPosLo (s : State) (p : Path) (k v : Nat) : State :=
  let (s, x) := s.joinHi p (latchKey 0x4010C k 0) v (s.enc k).pos
  let s := s.modEnc k (fun e => { e with pos := x })
  if k = s.masterIdx then s.masterAnew else s

/-- MOT_AXIS_POS_LO written (10_motion.md R294). -/
def State.axisPosLo (s : State) (p : Path) (i v : Nat) : State :=
  let (s, x) := s.joinHi p (latchKey 0x6011C 0 i) v (s.axis i).pos
  (s.modAxis i (fun a => { a with pos := x })).takeRefs i

/-- A cleared SHORT (12_bar_monitor.md R324): the channel is switched as its users need. -/
def State.shortCleared (s : State) (was : Nat) : State :=
  ((List.range 8).filter (fun x => bitAt was x && !s.exShort x)).foldl (fun s x =>
    match (List.range 4).find? (fun k => s.usesEx k x) with
    | some k => (s.switchEx x true (s.conv k).half).resettle x
    | none => s.releaseEx x) s

/-- MON_URG_CTRL written by firmware (R320, R321). -/
def State.urgCtrl (s : State) (v : Nat) : State :=
  let s := if bitAt v 0 then s.urgentAsk (s.fld F.MON_URG_HOLDUP_CFG_CONV) 0 0 else s
  if bitAt v 1 then s.urgentAsk (s.fld F.MON_URG_HEAD_CFG_CONV) 1 (bitsOf v 2 2) else s

/-- BMV_CTRL written by firmware: the descriptor, ABORT, GO (13_memory_block_mover.md R347, R355). -/
def State.bmvCtrl (s : State) (c v : Nat) : State :=
  let s := s.bmvDescr c v
  let s := if bitAt v 19 then s.bmvAbort c else s
  if bitAt v 18 then s.bmvGo c else s

/-- The lanes whose quad is in Spring or Summer may lose lock within 100 µs of a change of CORE_SSC or BREF_SSC
(04_position_scheduler.md R93): each loss is an event of its own. -/
def State.clkCfg (s : State) (v : Nat) : State :=
  s.setFlds [(F.CLK_CFG_CORE_SSC, v), (F.CLK_CFG_BREF_SSC, v / 2), (F.CLK_CFG_CTRL_SSC, v / 4)]

/-- A write of NET_PORT_TEST in SERVICE (14_host_network.md R388). -/
def State.portTest (s : State) (q v : Nat) : State :=
  let old := s.fld F.NET_PORT_TEST_PRBS q
  let s := s.setFlds [(F.NET_PORT_TEST_LOOPBACK, v), (F.NET_PORT_TEST_PRBS, v / 4)] q
  let s := if old = bitsOf v 2 2 then s
    else (s.modPort q (fun x => { x with prbs := List.replicate 4 {} })).setFld F.NET_PORT_STATUS_PRBS_LOCK 0 q
  if bitAt v 4 ∧ bitsOf v 2 2 ≠ 0 ∧ s.bit F.NET_PORT_STATUS_PRBS_LOCK q then s.count F.NET_PRBS_ERR_COUNT q else s

/-- A write that the rules have let through: array index `k`, window instance `i`. -/
def State.writeOne (s : State) (p : Path) (r : Reg) (k i v : Nat) (cfg : Bool) : State :=
  let a := r.addr
  match a with
  | 0x20140 => s.laneCtrl i v
  | 0x20148 => s.laneEq i v
  | 0x4010C => s.holdHi p (latchKey a k 0) v
  | 0x40108 => s.encPosLo p k v
  | 0x6011C => s.holdHi p (latchKey a 0 i) v
  | 0x60118 => s.axisPosLo p i v
  | 0x300D0 => s.lutData v
  | 0x70010 => s.urgCtrl v
  | 0x70020 => s.writeHoldOn k v
  | 0xA0128 => s.portTest i v
  | 0x40070 => s.clkCfg v
  | 0x60004 => if bitAt v 1 && !s.bit F.MOT_STATUS_ESTOP then s.setFld F.MOT_STATUS_ESTOP_LATCH 0 else s
  | 0x90114 => s.bmvCtrl k v
  | _ =>
    if 0x90100 ≤ a ∧ a < 0xA0000 ∧ (s.fld F.BMV_STATUS_STATE k = 1 ∨ s.fld F.BMV_STATUS_STATE k = 2) then s
    else
      let was := s.fld F.MON_EX_STATUS_SHORT
      let master := s.masterIdx
      let time := s.bit F.SCHED_CTRL_TIME_MODE
      let s := s.storeFlds r k i v (cfg && a = 0x80004)
      match a with
      | 0x30010 => s.bankCtrl v
      | 0x40010 | 0x40014 => { s with job := { s.job with phase := 0 } }
      | 0x40000 =>
        let s := if s.masterIdx = master then s else s.masterAnew
        if time = s.bit F.SCHED_CTRL_TIME_MODE then s else if time then s.timeLeave else s.timeEnter
      | 0x40018 | 0x4001C => s.showTMin
      | 0x70018 => s.shortCleared was
      | 0x70040 => s.convRun k
      | 0x70100 | 0x70104 | 0x70200 => s.rtdsCheck
      | 0xA0100 => if s.fld F.NET_PORT_CFG_MODE i = 1 ∨ s.fld F.NET_PORT_CFG_MODE i = 2 then s.setFld F.NET_PORT_CFG_FEC_EN 1 i else s
      | _ => s

/-- RUN of a converter is written from the config block only (R529). -/
def keepRun (s : State) (a k v : Nat) (cfg : Bool) : Nat :=
  if a = 0x70040 ∧ !cfg then v - bitsOf v 4 1 * 16 + s.fld F.MON_CONV_CFG_RUN k * 16 else v

/-- One instance of a register written: the status, and the state where it is OK. `cfg` waives the state rule (R529). -/
def State.writeInst (s : State) (p : Path) (r : Reg) (k i v : Nat) (cfg : Bool) : State × Nat :=
  let a := r.addr
  let v := keepRun s a k v cfg
  let st := if cfg then stOk else s.stateRule p a k i v
  if st ≠ stOk then (s, st)
  else if !s.inRange a i v then (s, stBadParam)
  else if s.regWinter a i ∧ !(a = 0x20140 ∨ a = 0x20148) then (s, stOk)
  else (s.writeOne p r k i v cfg, stOk)

/-- A write of a select register (R523, R524). -/
def State.writeSel (s : State) (p : Path) (j v : Nat) : State :=
  let x := v % 65536
  let s := s.modBank p (fun b => { b with sels := b.sels.set j x })
  if x ≠ 0xFFFF ∧ selCount j ≤ x then s.noteSel p false j else s

/-- A write of SYS_ERR, which reaches the writing path's copy (R531). -/
def State.writeErr (s : State) (p : Path) (v : Nat) : State :=
  s.modBank p (fun b => { b with selRange := b.selRange && !bitAt v 0, selBcast := b.selBcast && !bitAt v 1 })

/-- A write under broadcast (R525): every instance in ascending order, or none of them. -/
def State.writeAll (s : State) (p : Path) (r : Reg) (v : Nat) (cfg : Bool) : State × Nat :=
  let go := (s.bcastSet (r.win.getD .session)).foldl (fun (acc : State × Nat) i =>
    if acc.2 ≠ stOk then acc else acc.1.writeInst p r 0 i v cfg) (s, stOk)
  if go.2 = stOk then go else (s, go.2)

/-- The status of a write to an absent address (21_register_map.md R517), which BOOT refuses as it does every command (R414). It comes
before a role: assumption log 181. -/
def State.noReg (s : State) (p : Path) : Nat := if s.op = .boot ∧ p ≠ .fw then stState else stBadParam

/-- A register written through a path's bank (R403, R404, R414, R522 to R525): the status; nothing has changed where it is
not OK but for the marks of R524. -/
def State.writeAddr (s : State) (p : Path) (addr v : Nat) (cfg : Bool) : State × Nat :=
  match regAt addr with
  | none => (s, s.noReg p)
  | some (r, k) =>
    let role := s.writeRole p (freeWrite addr)
    if role ≠ stOk then (s, role)
    else
      match selAt addr, r.win with
      | some j, _ => (s.writeSel p j v, stOk)
      | none, none => if addr = 0x1C then (s.writeErr p v, stOk) else s.writeInst p r k 0 v cfg
      | none, some w =>
        let sel := s.selOf p (winIdx w)
        if sel = 0xFFFF then s.writeAll p r v cfg
        else if winCount w ≤ sel then (s.noteSel p false (winIdx w), stOk)
        else if w = .port && s.linkMuted sel then (s, stOk)
        else s.writeInst p r 0 sel v cfg

/-! Lists of accesses (R403, R405). -/

/-- The entries of a REG_WRITE applied in order on a trial state: the first failure's status and entry. -/
def State.writeList (s : State) (p : Path) (es : List (Nat × Nat)) : State × Nat × Nat :=
  let go := es.foldl (fun (acc : State × Nat × Nat) e =>
    if acc.2.1 ≠ stOk then acc
    else
      let w := acc.1.writeAddr p e.1 e.2 false
      if w.2 = stOk then (w.1, stOk, acc.2.2 + 1) else (acc.1, w.2, acc.2.2)) (s, stOk, 0)
  if go.2.1 = stOk then (go.1, stOk, 0) else (s, go.2.1, min 255 go.2.2)

/-- A REG_READ (R403): the values, or the index of the entry that names no register. -/
def State.readList (s : State) (p : Path) (as : List Nat) : State × List Nat × Option Nat :=
  match indicesWhere (fun a => (regAt a).isNone) 0 as with
  | k :: _ => (s, [], some (min 255 k))
  | [] =>
    let go := as.foldl (fun (acc : State × List Nat) a =>
      let r := acc.1.readAddr p a
      (r.1, acc.2 ++ [r.2.getD 0])) (s, [])
    (go.1, go.2, none)

/-- A register that REG_MODIFY refuses (R405, R526): one with a WO or RC field, or a window register under broadcast. -/
def State.noModify (s : State) (p : Path) (r : Reg) : Bool :=
  r.flds.any (fun f => f.acc = .wo || f.acc = .rc) || (r.win.any (fun w => s.selOf p (winIdx w) = 0xFFFF))

/-- REG_MODIFY (R405): the status and the old value. Bits outside MASK are written as 0 in W1C fields. -/
def State.modify (s : State) (p : Path) (addr mask v : Nat) : State × Nat × Nat :=
  match regAt addr with
  | none => (s, s.noReg p, 0)
  | some (r, _) =>
    let role := s.writeRole p (freeWrite addr)
    if role ≠ stOk then (s, role, 0)
    else if s.noModify p r then (s, stBadParam, 0)
    else
      let (s1, old) := s.readAddr p addr
      let old := old.getD 0
      let w1c := sumN (r.flds.map (fun f => if f.acc = .w1c then (2 ^ f.width - 1) * 2 ^ f.lo else 0))
      let keep := Nat.land old (Nat.xor (Nat.lor mask w1c) 0xFFFFFFFF)
      let (s2, st) := s1.writeAddr p addr (Nat.lor keep (Nat.land v mask)) false
      if st = stOk then (s2, stOk, old) else (s, st, 0)

end Sys2Proof.Machine
end

