-- ==== Sys2Proof/Machine/PowerOps.lean ====
section
/-! DEFINITION. Resets, Winter, wake-up, start-up and the config block (18_power_startup.md R454 to R467). -/

namespace Sys2Proof.Machine

/-! Resets (R458). -/

/-- The key of a register field that lies in the always-on domain: the axis flags (R458), PWR_WAKE_CFG (R469), and the mark of how
much of the burgee ring is in flash. -/
def aonKey (key : Nat) : Bool :=
  let w := key / 1024
  match w / 32 with
  | 0x10008 => true
  | 0x60128 => w % 32 = 3 || w % 32 = 5 || w % 32 = 6
  | 0xE0010 => true
  | _ => false

/-- The cell lies in the flash. -/
def flashCell (c : Host.Cell) : Bool := c.1 / 2 ^ 36 = 4

/-- The source of a reset, as the bit of PWR_RESET_CAUSE. -/
def causeFld (cause : Nat) : Fld :=
  match cause with
  | 0 => F.PWR_RESET_CAUSE_POR
  | 1 => F.PWR_RESET_CAUSE_PWR_GOOD
  | 2 => F.PWR_RESET_CAUSE_RESET_N
  | 3 => F.PWR_RESET_CAUSE_WAKE_N
  | _ => F.PWR_RESET_CAUSE_WAKE_BMP

/-- PWR_RESET_CAUSE names one source (R459), and PWR_STATUS shows the level at PWR_FAIL_N. -/
def State.showCause (s : State) (cause : Nat) : State :=
  (s.setFlds [(F.PWR_RESET_CAUSE_POR, 0), (causeFld cause, 1)]).setFld F.PWR_STATUS_PWR_FAIL (b2n s.env.pwrFail)

/-- The one-time-programmable fields of the security core, which nothing resets. -/
def Sec.otp (x : Sec) : Sec :=
  { revRsa := x.revRsa, revSlh := x.revSlh, rollback := x.rollback, custRsa := x.custRsa, custSlh := x.custSlh, custLock := x.custLock }

/-- An encoder through a reset: its position and the levels at its pins (R458). -/
def Enc.keep (e : Enc) : Enc := { pos := e.pos, a := e.a, b := e.b, z := e.z }

/-- An axis through a reset: POS and STEPS (R458). -/
def Axis.keep (a : Axis) : Axis := { pos := a.pos, steps := a.steps }

/-- A reset of every domain except AON (R458): the start of "Start-up", with a BMP reset (16_management_buses.md R429). What lies
outside the device, the flash and OTP keep their content. -/
def State.resetBut (s : State) (cause : Nat) : State :=
  let r : State := { State.reset with
    free := s.free, out := s.out, env := s.env, tb := s.tb, bar := s.bar, drivers := s.drivers, sec := s.sec.otp }
  let r : State := { r with regs := s.regs.filter (fun c => aonKey c.1), mem := s.mem.filter flashCell }
  let r : State := { r with encs := s.encs.map Enc.keep, axes := s.axes.map Axis.keep }
  let r : State := { r with flt := { ring := s.flt.ring, seq := s.flt.seq } }
  r.showCause cause

/-- A reset that no source of R459 names: the cause of the last one stands (assumption log 175). -/
def State.resetKeep (s : State) : State :=
  let fs := [F.PWR_RESET_CAUSE_POR, F.PWR_RESET_CAUSE_PWR_GOOD, F.PWR_RESET_CAUSE_RESET_N, F.PWR_RESET_CAUSE_WAKE_N,
    F.PWR_RESET_CAUSE_WAKE_BMP]
  (s.resetBut 2).setFlds (fs.map (fun f => (f, s.fld f)))

/-- An always-on power-on (R458): every domain, AON among them. -/
def State.powerOnReset (s : State) : State :=
  let r : State := { State.reset with
    free := s.free, out := s.out, env := s.env, bar := s.bar, drivers := s.drivers, sec := s.sec.otp }
  ({ r with mem := s.mem.filter flashCell }).showCause 0

/-! Winter (R454, R455, 12_bar_monitor.md R330). -/

/-- The device is in Winter: control is off, and nothing but wake logic, encoders and TB_NOW runs. -/
def State.asleep (s : State) : Bool := s.op ≠ .boot && s.season 140 = .winter

/-- The effect of a command or an event on a device that is not in Winter. -/
def State.awake (s : State) (f : State → State) : State := if s.asleep then s else f s

/-- SEASON_SET to Winter, after its reply (R454): the tiles are sent to IDLE first and the event pins held inactive (20_electrical.md
R509). -/
def State.enterWinter (s : State) : State :=
  let n := ((List.range 512).filter (fun i => s.recPresent i && s.recUnsaved i)).length
  let s := s.tilesIdle.pinsCut
  let s := if n = 0 then s else s.burgee 3 clsWarn 4 0xFFFF 0 n
  let s : State := { s with sessions := List.replicate 8 {}, ports := List.replicate 17 {}, banks := List.replicate 10 {},
                            cmds := List.replicate 10 {}, bmp := {}, ops := {} }
  let s := s.logCopy.1
  let s := (List.range 8).foldl (fun s x => (s.emit (.steps x 0 (s.bit F.MOT_AXIS_CFG_STEP_INV x) 0)).disableAxis x) s
  let s := s.monStop.chainsRest
  let s := (s.allQuadsWinter)
  { s with seasons := List.replicate 145 .winter ++ [.summer], mem := s.mem.filter flashCell, bad := [], job := {},
           bcbs := List.replicate 4 {}, prod := {}, ana := {} }

/-- WAKE_N held low (R455). -/
def State.wakePin (s : State) : State :=
  if s.asleep ∧ s.bit F.PWR_WAKE_CFG_WAKE_N_EN then s.resetBut 3 else s

/-- An address phase on the BMP in Winter (R455): the strap address wakes the device, and is not acknowledged. -/
def State.wakeBmp (s : State) (a7 : Nat) : State :=
  if !s.asleep then s
  else
    let s := s.emit .bmpNack
    if s.bit F.PWR_WAKE_CFG_BMP_EN ∧ a7 = 0x3A + s.env.strap % 4 then s.resetBut 4 else s

/-- The level at TEST_MODE (20_electrical.md R498): while it is high every domain except AON is held in reset, and no source of R459
is named for it. -/
def State.testLevel (s : State) (high : Bool) : State :=
  let s := { s with env := { s.env with testMode := high } }
  if high then
    s.resetKeep
  else s

/-- The level at PWR_FAIL_N (R467). -/
def State.powerFail (s : State) (low : Bool) : State :=
  let fell := low && !s.env.pwrFail
  let s := { s with env := { s.env with pwrFail := low } }
  if s.asleep then s
  else
    let s := s.setFld F.PWR_STATUS_PWR_FAIL (b2n low)
    if fell then (s.setFld F.PWR_STATUS_PWR_FAIL_SEEN 1).burgee 1 clsWarn 1 else s

/-! The config block (R461 to R463). -/

/-- Entry `k` of a block: its address and value. -/
def cfgEntry (l : List Byte) (k : Nat) : Nat × Nat := (ofLe (slice l (320 + 8 * k) 4), ofLe (slice l (324 + 8 * k) 4))

/-- One entry applied, or skipped with a burgee that gives its number (R462, 21_register_map.md R529). -/
def State.applyEntry (s : State) (l : List Byte) (k : Nat) : State :=
  let e := cfgEntry l k
  let skip := fun (s : State) => s.burgee 0 clsWarn 4 0xFFFF 0 k
  match regAt e.1 with
  | none => skip s
  | some (r, _) =>
    let lost := match r.win with
      | some w => selAt e.1 = none && s.selOf .fw (winIdx w) ≠ 0xFFFF && decide (winCount w ≤ s.selOf .fw (winIdx w))
      | none => false
    if !r.cfg then skip s
    else
      let (s', st) := s.writeAddr .fw e.1 e.2 true
      if st ≠ stOk then skip s else if lost then skip s' else s'

/-- The number of entries that a block holds (R461). -/
def cfgCount (l : List Byte) : Nat := min (ofLe (slice l 16 4)) ((l.length - 324) / 8)

/-- The factory defaults (R463): MPORT runs 1000BASE-X with an address made of DEVICE_ID. -/
def State.factoryDefaults (s : State) : State :=
  let id := padTo 16 (Config.deviceId (s.readMem flashIdent 65536))
  let s := s.setFlds [(F.NET_PORT_CFG_MODE, 5), (F.NET_MAC_LO_MAC, beAt id 1 4), (F.NET_MAC_HI_MAC, 0x0200 + beAt id 0 1)] 16
  let s := { s with sec := { s.sec with keys := [none, none, some Config.initialServiceKey], cfgAddr := none } }
  (s.setFld F.SYS_STATUS_CONFIG_DEFAULTED 1).burgee 0 clsWarn 5

/-- Step 4 of "Start-up": the config block chosen and applied (R462, R463). -/
def State.loadConfig (s : State) : State :=
  let a := s.cfgBlock 0
  let b := s.cfgBlock 1
  let use := match cfgValid a, cfgValid b with
    | true, true => some (if cfgGen a < cfgGen b then 1 else 0)
    | true, false => some 0
    | false, true => some 1
    | false, false => none
  match use with
  | none => s.factoryDefaults
  | some k =>
    let l := if k = 0 then a else b
    let s := if cfgValid a && cfgValid b then s else s.burgee 0 clsWarn 3 0xFFFF 0 (1 - k)
    let s := { s with sec := { s.sec with keys := Config.openKeys (slice l 64 256), cfgAddr := some k } }
    (List.range (cfgCount l)).foldl (fun s j => s.applyEntry l j) s

/-! Start-up (R465). -/

/-- The words of a dump that read as the error mark (19_faults_recovery.md R490). -/
def errorMark : List Byte := be 8 0xE77EE77EE77EE77E
def marksIn (l : List Byte) : Nat := ((chunksOf 8 (l.length / 8) l).filter (· = errorMark)).length

/-- The state of the crash dump in flash (19_faults_recovery.md R488). -/
def State.showDump (s : State) : State :=
  let h := s.readMem flashDump 32
  if beAt h 0 4 = 0x4B524450 then
    s.setFlds [(F.FLT_STATUS_DUMP_FLASH, 1), (F.FLT_DUMP_COUNT_COUNT, beAt h 20 4),
      (F.FLT_DUMP_UE_COUNT, marksIn (s.readMem flashDump (min 0x400000 (beAt h 24 4))))]
  else s.setFld F.FLT_STATUS_DUMP_FLASH 0

/-- Step 3 of "Start-up" when a copy has been released: CP0, CP1, XPT, UNC, QC0 to QC3 and SEC in Summer (R465), the host ports in Spring
until IDLE (01_system_overview.md R18). -/
def State.domainsUp (s : State) : State :=
  { s with seasons := s.seasons.take 132 ++ List.replicate 4 .spring ++ List.replicate 10 .summer }

/-- The host ports in Summer, as every state but BOOT has them (01_system_overview.md R18). -/
def State.portsUp (s : State) : State := { s with seasons := s.seasons.take 132 ++ List.replicate 4 .summer ++ s.seasons.drop 136 }

/-- Steps 4 to 11 (R465), up to what the bar and the monitor still have to answer. -/
def State.bringUp (s : State) (st : StartIn) : State :=
  let s : State := { s with env := { s.env with rings := st.rings } }
  let s := (s.domainsUp.setFld F.SCHED_STATUS_TB_LOCK (b2n st.tbLocked)).showDeviceId
  let s := s.setFlds [(F.MOT_STATUS_ESTOP, b2n s.env.estop), (F.MOT_STATUS_ESTOP_LATCH, b2n s.env.estop)]
  let s := (List.range 8).foldl State.axisPins (s.loadConfig.loadKernel).showKeys
  let s := s.qdrInit st.qdr
  let s := if s.qdrUsable then (List.range 512).foldl State.fillSlot s else s
  let s := s.countChains.monStart.discover.showDump
  { s with ops := { s.ops with discovery := true, bootWait := true }, ana := { s.ana with driven := true },
           flt := { s.flt with served := [s.tb, s.tb] } }

/-- START_UP (R465): the ROM verifies the firmware copies; with none released the device stays in BOOT in recovery mode
(17_security.md R438). -/
def State.startUp (s : State) (st : StartIn) : State :=
  if s.op ≠ .boot ∨ s.season 140 ≠ .winter ∨ s.env.testMode then s
  else
    let (s, ok) := s.romVerify
    if ok then s.bringUp st
    else { s with seasons := s.seasons.take 140 ++ [.summer, .summer, .summer] ++ s.seasons.drop 143 }

/-- BOOT's progress: the lanes found are trained once the discovery pass has ended (R465 step 10), and the device enters IDLE when
training is recorded and every enabled RTD has a value or BREAK (steps 8, 10, 12). -/
def State.bootProgress (s : State) : State :=
  if !s.ops.bootWait then s
  else if s.ops.discovery then
    (if s.discovering then s
     else
      let s := { s with ops := { s.ops with discovery := false } }
      ((List.range 512).filter (fun i => s.bit F.TILE_STATUS_PRESENT i)).foldl State.trainStart s)
  else if s.lanes.any (fun l => l.train.isSome) || !s.rtdsKnown then s
  else ({ s with ops := { s.ops with bootWait := false } }).portsUp.enterIdle

end Sys2Proof.Machine
end

