-- ==== Sys2Proof/Machine/FaultOps.lean ====
section
/-! DEFINITION. Faults and recovery (19_faults_recovery.md): abandoned operations, fatal errors with their dump, control-pair
recovery, engine restarts, the fault log and the reading of dumps. -/

namespace Sys2Proof.Machine

/-! Operations abandoned (15_command_set.md R402, 21_register_map.md R533). -/

/-- Operations under way are abandoned and write nothing; commands that still wait for them are answered FAULT. -/
def State.abandonOps (s : State) : State :=
  let o := s.ops
  let s := if o.align.isSome || o.therm.isSome then
      s.setFlds [(F.SYS_OP_STATUS_BUSY, 0), (F.SYS_OP_STATUS_RESULT, 2), (F.SYS_OP_STATUS_REASON, 7)] else s
  let s := if o.eqx.isSome then s.setFld F.PIPE_EQX_STATUS_BUSY 0 else s
  let s := { s with ops := { o with arm := none, eqx := none, align := none, therm := none, diag := none, stats := none,
                                    tileCmd := none, checks := [] } }
  let s := s.setFld F.PIPE_BANK_STATUS_VERIFY_BUSY 0
  let paths := (match o.eqx, o.arm with
      | some e, _ => if e.src < 3 then [e.path] else []
      | none, some a => [a.path]
      | none, none => []) ++ (o.diag.map (·.path)).toList ++ (o.stats.map (·.1)).toList ++ o.tileCmd.toList
  paths.foldl (fun s p => s.sendReply p (rspErr stFault 0)) s

/-- Every block-mover channel aborted (13_memory_block_mover.md R355). -/
def State.bmvAbortAll (s : State) : State := (List.range 8).foldl State.bmvAbort s

/-! The dump (R488). -/

def dumpBase : Nat := 0x1600000
def dumpTotal : Nat := 0x2A9000

/-- `n` free bytes: content whose layout the manual leaves to firmware. -/
def State.drawBytes (s : State) (n : Nat) : List Byte × State :=
  ((List.range n).map (fun j => BitVec.ofNat 8 (Config.freeValue (s.free + j))), { s with free := s.free + n })

/-- One 12-byte record of the register section. -/
def State.dumpReg (s : State) (v : Nat) (r : Reg) (k i : Nat) : List Byte :=
  let sel := if r.win.isSome then i else 0xFFFF
  be 2 sel ++ be 3 (r.addr + r.stride * k) ++ zeros 3 ++ be 4 (s.regNow r k i v)

/-- The register section: every register, windowed ones for every select value; `v` is what a measurement reads as. -/
def State.dumpRegs (s : State) (v : Nat) : List Byte :=
  regTable.flatMap (fun r => (List.range (max 1 r.count)).flatMap (fun k =>
    match r.win with
    | none => s.dumpReg v r k 0
    | some w => (List.range (winCount w)).flatMap (fun i => s.dumpReg v r k i)))

/-- The 21 TILE window registers of an engine summary, which 06_engines_shading.md R184, 07_alignment_seams.md R210 and
08_calibration.md R238 list. -/
def State.dumpEngine (s : State) (v i : Nat) : List Byte :=
  let rs := regsTile.filter (fun r => decide (0x20200 ≤ r.addr) && decide (r.addr < 0x20274))
  (rs.flatMap (fun r => be 4 (s.regNow r 0 i v))).take 84

/-- The tags of the two newest line records of engine `i`, as its memory holds them; a record never filled gives free bytes. -/
def State.dumpTags (s : State) (i : Nat) : List Byte × State :=
  let held := ((s.eng i).recs.take 2).flatMap (fun x => s.readMem (lineRecAddr i x.k + 3824) 64)
  let (t, s) := s.drawBytes (128 - held.length)
  (held ++ t, s)

/-- The engine summaries. -/
def State.dumpEngines (s : State) (v : Nat) : List Byte × State :=
  (List.range 512).foldl (fun (acc : List Byte × State) i =>
    let (t, s) := acc.2.dumpTags i
    (acc.1 ++ s.dumpEngine v i ++ t ++ zeros 44, s)) ([], s)

/-- The dump's sections after the header, as offset and bytes. -/
def State.dumpSections (s : State) : List (Nat × List Byte) × State :=
  let v := Config.freeValue s.free
  let s := { s with free := s.free + 1 }
  let regs := s.dumpRegs v
  let (eng, s) := s.dumpEngines v
  let (que, s) := s.drawBytes 0x100000
  let (chk, s) := s.drawBytes 0x80000
  ([(0x1000, regs), (0x101000, eng), (0x121000, que), (0x221000, s.flt.ring.reverse.flatten), (0x229000, chk)], s)

/-- The dump's header. The CRC of the header's own section is free, since it would cover itself. -/
def State.dumpHeader (s : State) (cause before total : Nat) (secs : List (Nat × List Byte)) : List Byte × State :=
  let (own, s) := s.drawBytes 4
  let build := if s.fld F.SEC_STATUS_RUN_COPY = 0 then s.fld F.SEC_FW_A_BUILD_BUILD else s.fld F.SEC_FW_B_BUILD_BUILD
  let h := be 4 0x4B524450 ++ be 1 1 ++ be 1 cause ++ be 1 before ++ be 1 0 ++ be 8 s.tb ++ be 4 build
    ++ be 4 (s.fld F.FLT_DUMP_COUNT_COUNT) ++ be 4 total ++ zeros 4 ++ be 4 0 ++ be 4 4096
    ++ secs.flatMap (fun x => be 4 x.1 ++ be 4 x.2.length) ++ own ++ secs.flatMap (fun x => be 4 (crc32c x.2))
    ++ (s.flt.ring.headD (zeros 32))
  (padTo 4096 h, s)

/-- The sections that a dump without line memory keeps: header and burgee ring (R487). -/
def burgeesOnly (l : List (Nat × List Byte)) : List (Nat × List Byte) := l.map (fun x => if x.1 = 0x221000 then x else (x.1, []))

/-- The dump of step 4, written to line memory where it is usable, kept for the flash copy where it is not (R487, R488). -/
def State.writeDump (s : State) (cause before : Nat) : State :=
  let s := s.count F.FLT_DUMP_COUNT_COUNT
  let (secs, s) := s.dumpSections
  if s.qdrUsable then
    let (h, s) := s.dumpHeader cause before dumpTotal secs
    let s := s.clearMem dumpBase 0x400000
    let s := { s with bad := s.bad.filter (fun w => decide (w < dumpBase) || decide (dumpBase + 0x400000 ≤ w)) }
    let s := ((0, h) :: secs).foldl (fun s x => s.writeMem (dumpBase + x.1) x.2) s
    s.setFld F.FLT_STATUS_DUMP_QDR 1
  else
    let secs := burgeesOnly secs
    let (h, s) := s.dumpHeader cause before (4096 + 32 * s.flt.ring.length) secs
    { s with flt := { s.flt with direct := (0, h) :: secs.filter (fun x => !x.2.isEmpty) } }

/-- The 32 KiB units and 256-byte pages of the flash copy. -/
def State.dumpUnits (s : State) : Nat := if s.qdrUsable then ceilDiv dumpTotal 32768 else 3
def State.dumpPages (s : State) : Nat :=
  if s.qdrUsable then 128 * s.dumpUnits else sumN (s.flt.direct.map (fun x => ceilDiv x.2.length 256))

/-- Steps 5 and 6's copy (R487, R489): begun where the hold-up check passes, which erases the dump's first unit. -/
def State.startCopy (s : State) : State :=
  let (ok, s) := s.holdupCheck s.dumpUnits s.dumpPages (256 * s.dumpPages) 0
  if ok then
    { (s.clearMem flashDump 32768).setFld F.FLT_STATUS_DUMP_FLASH 0 with flt := { s.flt with copying := true } }
  else (s.setFld F.FLT_STATUS_COPY_FAILED 1).logCopy.1

/-- `n` bytes of line memory with the error mark in place of each uncorrectable word (R490). -/
def State.markedMem (s : State) (a n : Nat) : List Byte :=
  let words := s.bad.filter (fun w => decide (a < w + 8) && decide (w < a + n))
  if words.isEmpty then s.readMem a n
  else mapIdxFrom (fun k (b : Byte) =>
    match words.find? (fun w => decide (w ≤ a + k) && decide (a + k < w + 8)) with
    | some w => nthD 0 errorMark (a + k - w)
    | none => b) 0 (s.readMem a n)

/-- The flash copy has ended (R487 step 7, R489, R492). -/
def State.copyDone (s : State) : State :=
  if s.op ≠ .faultHold ∨ !s.flt.copying then s
  else
    let n := 32768 * s.dumpUnits
    let s := if s.qdrUsable then s.writeMem flashDump (s.markedMem dumpBase n)
      else s.flt.direct.foldl (fun s x => s.writeMem (flashDump + x.1) x.2) s
    let s := s.setFld F.FLT_STATUS_DUMP_FLASH 1
    let at_ := s.fld F.FLT_CFG_AUTO_RESTART_S
    let s := { s with flt := { s.flt with copying := false, direct := [],
                                          restartAt := if at_ = 0 then none else some (s.tb + at_ * 1000000000) } }
    s.logCopy.1

/-- An automatic restart (R492): as RESET_N, once its time has come. -/
def State.autoRestart (s : State) : State :=
  match s.flt.restartAt with
  | some r => if s.op = .faultHold ∧ r ≤ s.tb then s.resetBut 2 else s
  | none => s

/-! Fatal errors (R486, R487). -/

/-- Step 2: no motion, no light, event pins inactive, an open window closed. -/
def State.fatalStop (s : State) : State :=
  let s := s.stopAllAxes.strobeLow.dropCommit
  let s := { s with sched := { s.sched with cur := none, expo := none, active := false, tn := none, timeMode := false } }
  s.chainsRest.pinsCut

/-- Step 6: tiles sent to IDLE, quads, tree segments and UNC in Winter, unresolved lines discarded (R491), current references low and
DRV_EN held where step 2 has not disabled it (20_electrical.md R509). -/
def State.fatalRest (s : State) : State :=
  let s := s.tilesIdle.monStop.allQuadsWinter.dropAllLines.portsUp
  (List.range 8).foldl State.setIref { s.setSeason domUnc .winter with op := .faultHold }

/-- A fatal error of `cause` (R486, R487). A cause that arises after the first only raises its burgee. -/
def State.fatal (s : State) (cause : Nat) : State :=
  if s.asleep then s
  else if s.op = .faultHold then s.burgee 0 clsFatal 1 0xFFFF 9 cause
  else
    let before := s.op.code
    let s := (s.fatalStop).burgee 0 clsFatal 1 0xFFFF 9 cause
    let s := (s.bmvAbortAll).setFld F.FLT_STATUS_FATAL_CAUSE cause
    let s := s.writeDump cause before
    let s := s.abandonOps.fatalRest
    let s := { s with ops := { s.ops with update := none, bootWait := false, discovery := false },
                      flt := { s.flt with recov := [] } }
    s.startCopy

/-! Control pairs (R476 to R480). -/

/-- The firmware runs on the pairs. -/
def State.controlUp (s : State) : Bool := s.season 140 = .summer && !s.bit F.SEC_STATUS_RECOVERY

/-- Pair `p` recovers. -/
def State.pairRecovers (s : State) (p : Nat) : Bool := s.flt.recov.any (fun r => r.1 = p || r.1 = p + 2)

/-- Any pair recovers: the servo holds its v_cmd and refreshes wait (R477). -/
def State.pairDown (s : State) : Bool := s.pairRecovers 0 || s.pairRecovers 1

/-- Pair `p` begins its recovery (R477); `kind` 0 for a mismatch, 2 for its watchdog. -/
def State.pairBegin (s : State) (p kind : Nat) : State :=
  let f := if p = 0 then F.FLT_PAIR_CNT_CP0 else F.FLT_PAIR_CNT_CP1
  let s := s.count f
  { s with flt := { s.flt with recov := (p + kind, s.tb) :: s.flt.recov } }

/-- A lockstep mismatch in pair `p` (R472, R478, R486). -/
def State.pairMismatch (s : State) (p : Nat) : State :=
  if 2 ≤ p ∨ !s.controlUp then s
  else if s.pairRecovers p then s.fatal 1
  else if s.flt.recov.any (fun r => r.1 = 1 - p) then s.fatal 3
  else s.pairBegin p 0

/-- The watchdog of pair `p` expires (R480). -/
def State.pairWatchdog (s : State) (p : Nat) : State :=
  if 2 ≤ p ∨ !s.controlUp ∨ s.tb < nthD 0 s.flt.served p + 1000 * s.fld F.FLT_WDOG_PAIR_US then s
  else if s.pairRecovers p then s.fatal 1
  else s.pairBegin p 2

/-- Pair `p` takes a checkpoint (R476): its watchdog is serviced, and a recovery has reached its state (R477). -/
def State.checkpoint (s : State) (p : Nat) : State :=
  if 2 ≤ p ∨ !s.controlUp then s
  else
    let s := { s with flt := { s.flt with served := s.flt.served.set p s.tb } }
    match s.flt.recov.find? (fun r => r.1 = p || r.1 = p + 2) with
    | none => s
    | some r =>
      let s := { s with flt := { s.flt with recov := s.flt.recov.filter (· ≠ r) } }
      s.recovered 0 2 p 4 0 r.2

/-- A covered recovery not complete 200 µs after detection (R486). -/
def State.recoveryLate (s : State) : State :=
  if s.flt.recov.any (fun r => decide (r.2 + 200000 ≤ s.tb)) then s.fatal 2 else s

/-- SCHED_STATUS.TB_LOCK falls (R486). -/
def State.tbLockLost (s : State) : State :=
  if s.asleep ∨ !s.bit F.SCHED_STATUS_TB_LOCK then s else (s.setFld F.SCHED_STATUS_TB_LOCK 0).fatal 7

/-! Engine restarts (R473 to R475, R479). -/

/-- A bank that engine `i` holds valid has lost its image (R475). -/
def State.imageLost (s : State) (i : Nat) : Bool :=
  s.inSpan i && (List.range 2).any (fun b =>
    let a := s.imageAddr i b
    s.bit (fldValid b) i && s.bad.any (fun w => decide (a < w + 8) && decide (w < a + 11520)))

/-- CLEAR records with RESTART for the columns that were active (09_output_analytics.md R255), at the next output line. -/
def State.restartRecs (s : State) (i : Nat) : List (List Byte) :=
  let l := mapIdxFrom (fun k (x : Streak) => (k, x)) 0 (s.eng i).streaks
  let cs := (l.filter (fun e => e.2.active)).map (fun e => e.2.chg e.1)
  streakRecs s.nextOut (480 * i) (fClear + fRestart) cs

/-- The engine stops and its restore is dispatched (R473 steps 1 and 2); in SCAN mode the restart seals the last line produced,
cold (11_reseam.md R299). -/
def State.engineStop (s : State) (i kind : Nat) : State :=
  let s := (s.modEng i (fun e => { e with restarting := some s.tb })).setFld F.TILE_ENG_STATUS_RUNNING 0 i
  let s := { s with flt := { s.flt with recov := (512 * kind + i, s.tb) :: s.flt.recov } }
  let s : State := [6, 7].foldl (fun s c => if s.fld F.BMV_STATUS_STATE c = 2 then s.bmvAbort c else s) s
  let s := if s.fld F.BMV_STATUS_STATE 0 = 2 then s else s.setFld F.BMV_STATUS_STATE 1 0
  if s.inSpan i then
    s.hold 3 (match s.prod.last with
      | some l => l + 1
      | none => s.firstLine) true
  else s

/-- An uncorrectable SRAM error (`kind` 1, 06_engines_shading.md R153) or an expired watchdog (`kind` 2, R479) of engine `i`. -/
def State.engineFault (s : State) (i kind : Nat) : State :=
  if 512 ≤ i ∨ s.season (i / 4) = .winter then s
  else if (s.eng i).restarting.isSome then s.fatal 1
  else if !s.bit F.TILE_ENG_STATUS_RUNNING i then s
  else
    let s := s.setFld (if kind = 1 then F.TILE_ENG_STATUS_SRAM_UE else F.TILE_ENG_STATUS_WDOG) 1 i
    let recent := ((s.eng i).starts.filter (fun t => decide (s.tb < t + 1000000000))).take 2
    let s := s.modEng i (fun e => { e with starts := s.tb :: recent })
    if recent.length = 2 ∨ s.imageLost i then s.fatal 5
    else s.engineStop i kind

/-- An error in the SRAM of engine `i` (06_engines_shading.md R153): of one bit, corrected and counted, or of more. -/
def State.sramError (s : State) (x : SramErr) : State :=
  if x.bits = 1 then (if s.quadUp x.engine then s.count F.TILE_ENG_SRAM_CE_CNT_COUNT x.engine else s) else s.engineFault x.engine 1

/-- An engine's watchdog (R479): a frame accepted 5 µs ago whose packet has not been presented. -/
def State.engineWatchdog (s : State) (i : Nat) : State :=
  match (s.eng i).watch with
  | some w => if w + 5000 ≤ s.tb then s.engineFault i 2 else s
  | none => s

/-- An INVALID record of every line and row record that the engine holds (07_alignment_seams.md R197). -/
def Row.spoil (r : Row) : Row := { r with inv := true }
def LineRec.spoil (l : LineRec) : LineRec := { l with rows := l.rows.map Row.spoil }

/-- Every record of engine `i` INVALID, its tags written (R473 step 4, 07_alignment_seams.md R197). -/
def State.spoilRecs (s : State) (i : Nat) : State :=
  let s := s.modEng i (fun e => { e with rows := e.rows.map (fun (l : List Row) => l.map Row.spoil), recs := e.recs.map LineRec.spoil })
  let e := s.eng i
  let s := (e.recs.take 24).foldl (fun s x => s.storeTag i x) s
  (List.range 3).foldl (fun s r => ((nthD [] e.rows r).take (s.rowDelay i r)).foldl (fun s x => s.storeRowTag i r x) s) s

/-- The restore's end (R473 steps 3 and 4, R474): valid banks (assumption log 177) from their images, tables, INVALID tags, a cleared kernel data region, the
black-level filter and the column statistics started anew. -/
def State.engineRestore (s : State) (i : Nat) : State :=
  let s := (List.range 2).foldl (fun s b =>
    if s.bit (fldValid b) i then s.writeMem (bankAddr i b) (s.imageOf i b) else s) s
  let s := (s.loadTables i).clearMem (sramAddr i 0x2CA70) 0x2000
  let recs := s.restartRecs i
  let s := (s.spoilRecs i).modEng i (fun e => { e with filt := [], streaks := [], outbox := e.outbox ++ recs })
  let s := s.modEng i (fun e => { e with restarting := none, watch := none, kernelOver := false })
  s.setFlds [(F.TILE_ENG_STATUS_RUNNING, 1), (F.TILE_ENG_STATUS_ACTIVE, s.fld F.PIPE_BANK_STATUS_ACTIVE)] i

/-- The engine runs again once BMV0 has run its restore: the restart counted and recorded, BMV0 DONE once no engine is being restored
(R473). -/
def State.engineBack (s : State) (i : Nat) : State :=
  match (s.eng i).restarting with
  | none => s
  | some t0 =>
    if s.fld F.BMV_STATUS_STATE 0 ≠ 2 then s else
    let s := (s.engineRestore i).count F.TILE_ENG_STATUS_RESTARTS i
    let kind := if s.flt.recov.any (fun r => r.1 = 512 + i) then 1 else 2
    let s := { s with flt := { s.flt with recov := s.flt.recov.filter (fun r => r.1 ≠ 512 * kind + i) } }
    let s := if s.restoring then s
      else ((s.setFld F.BMV_STATUS_STATE 3 0).wrapInc F.BMV_STATUS_DONE_CNT 0).bmvFree 0
    s.recovered 2 7 i 3 kind t0

/-- A bus error of the mover (13_memory_block_mover.md R353). BMV0 that halts during a restore is fatal (R475). -/
def State.bmvBusError (s : State) (c k again : Nat) (what : BmvAccess) : State :=
  let s' := s.bmvError c k again what
  if c = 0 ∧ s.restoring ∧ s.fld F.BMV_STATUS_STATE 0 = 2 ∧ s'.fld F.BMV_STATUS_STATE 0 = 4 then s'.fatal 5 else s'

/-! The fault log (R484, R485). -/

/-- A copy to the log falls due: 256 records wait, or the oldest has waited 60 s. -/
def State.logDue (s : State) : Bool :=
  let l := s.uncopied
  decide (256 ≤ l.length) || (match l with
    | [] => false
    | r :: _ => decide (beAt r 0 8 + 60000000000 ≤ s.tb))

def State.logCopyDue (s : State) : State := if s.flt.deferAt.isNone && s.logDue then s.logCopy.1 else s

/-- The repetition of a deferred copy after 10 s. -/
def State.logRetry (s : State) : State :=
  match s.flt.deferAt with
  | some d => if d ≤ s.tb then s.logCopy.1 else s
  | none => s

/-- The log's records, newest first, at most `n` of them. -/
def State.logRecords (s : State) (n : Nat) : List (List Byte) :=
  match s.logHead with
  | none => []
  | some h => ((List.range (min n 32768)).map (fun j => s.logSlot (h + 32768 - j))).takeWhile (fun r => !slotErased r)

/-- Entries `a` to `a + n − 1` of the ring and the log, newest first, without duplicates (R485). -/
def State.logEntries (s : State) (a n : Nat) : List Byte :=
  let both := s.flt.ring.length - s.uncopied.length
  let l := s.flt.ring ++ (s.logRecords (a + n + both)).drop both
  (List.range n).flatMap (fun j => nthD (List.replicate 32 0xFF) l (a + j))

/-- The time window of key `key` ends (R483). -/
def State.windowEnd (s : State) (key : Nat) : State :=
  match s.flt.windows.find? (fun w => w.key = key) with
  | some w => if w.t0 + 1000000000 ≤ s.tb then s.closeWindow w else s
  | none => s

/-- `n` bytes of the dump from offset `o` (R490): line memory in FAULT_HOLD, the flash otherwise. -/
def State.dumpBytes (s : State) (o n : Nat) : List Byte :=
  if s.op = .faultHold then s.markedMem (dumpBase + o) n else s.readMem (flashDump + o) n

end Sys2Proof.Machine
end

