-- ==== Sys2Proof/Machine/JobOps.lean ====
section
/-! DEFINITION. The commands of jobs, subscriptions and calibration (15_command_set.md R408, R409, R402): each answers its effect
and its reply, or no reply where it replies later. The checks of role, state and length come before (R397). -/

namespace Sys2Proof.Machine

/-- What a command makes: the state, and its reply if it replies now. -/
abbrev CmdRes := State × Option Rsp

/-- OK with a payload. -/
def State.ok (s : State) (pl : List Byte := []) : CmdRes := (s, some (rspOk pl))

/-- A status other than OK: nothing has changed (R399). -/
def State.no (s : State) (st : Nat) (detail : Nat := 0) : CmdRes := (s, some (rspErr st detail))

/-- FAULT because line memory is not usable (13_memory_block_mover.md R334). -/
def State.noQdr (s : State) : CmdRes := s.no stFault 0xF0

/-- A JOB_ARM, an Equinox run, an alignment, a thermal sweep or an update is under way. -/
def State.opRuns (s : State) : Bool :=
  s.ops.arm.isSome || s.ops.eqx.isSome || s.ops.align.isSome || s.ops.therm.isSome || s.ops.update.isSome

/-- BMV6 or BMV7 holds a transfer (13_memory_block_mover.md R347). -/
def State.bmvUsed (s : State) : Bool := [6, 7].any (fun c => s.fld F.BMV_STATUS_STATE c = 1 || s.fld F.BMV_STATUS_STATE c = 2)

/-- A job is armed, or runs, or is being armed (10_motion.md R271). -/
def State.jobHeld (s : State) : Bool :=
  s.ops.arm.isSome || (s.op.inJob && !s.ops.eqx.any (fun e => e.src = 1))

/-! Admission (14_host_network.md R380, R381). -/

/-- R_max as a quotient, lines per second. -/
def State.rateMax (s : State) : Nat × Nat :=
  if s.job.scan then (s.fld F.SCAN_VMAX_PCS * 2 ^ 32, s.linePitch) else (s.job.rate, 1)

/-- The rate of renditions `ms`, in bytes per second over the denominator of `rateMax` times 4. -/
def State.rendRate (s : State) (ms : List Nat) : Nat :=
  sumN (ms.map (fun m => s.lineBytes m * s.rateMax.1 * (4 / s.binY m)))

/-- The renditions in use that a mask names. -/
def State.maskRends (s : State) (mask : Nat) : List Nat := s.rends.filter (bitAt mask)

/-- The rate of a session's subscription. -/
def State.sessRate (s : State) (k : Nat) : Nat := s.rendRate (s.maskRends (s.session k).tx.rend)

/-- The open sessions whose subscription is reserved. -/
def State.reservedSess (s : State) : List Nat := s.openSessions.filter (fun k => (s.session k).tx.reserved)

/-- A session's part of its rate on port `q`, in twelfths. -/
def SessId.share (x : SessId) (q : Nat) : Nat :=
  if !x.stripe then (if q = x.primary then 12 else 0)
  else if bitAt x.ports q then 12 / max 1 ((List.range 17).filter (bitAt x.ports)).length
  else 0

/-- A port's limit in Mb/s. -/
def State.portLimit (s : State) (q : Nat) : Nat :=
  if q = 16 then 0
  else match s.portMode q with
    | 1 | 2 => if q % 4 = 0 then 96000 else 0
    | 3 | 4 => 24000
    | _ => 0

/-- The sum over a port in twelfths of a byte per second, over the denominator of `rendRate`. -/
def State.portSum (s : State) (q : Nat) : Nat :=
  sumN (s.reservedSess.map (fun k => s.sessRate k * (s.session k).id.share q))

/-- The sum of line memory. -/
def State.qdrSum (s : State) : Nat := s.rendRate s.rends + sumN (s.reservedSess.map s.sessRate)

/-- Every sum of R381 lies within its limit. -/
def State.admitted (s : State) : Bool :=
  let den := 4 * s.rateMax.2
  decide (s.qdrSum ≤ s.fld F.QDR_BW_ADMIT_MBPS * 10 ^ 6 * den)
    && (List.range 17).all (fun q => decide (84 * s.portSum q ≤ s.portLimit q * 10 ^ 7 * den * 12))
    && decide (sumN (s.openSessions.map (fun k => (s.session k).id.win)) ≤ 3584)

/-- The committed rates shown (R389, R390), in MB/s and Mb/s. -/
def State.showAdmit (s : State) : State :=
  let den := 4 * s.rateMax.2
  let s := s.setFld F.XPT_ADMIT_QDR_MBPS (rheDiv (s.qdrSum : Int) (10 ^ 6 * den)).toNat
  (List.range 17).foldl (fun s q => s.setFld F.NET_PORT_ADMIT_MBPS (rheDiv (84 * s.portSum q : Nat) (10 ^ 7 * den * 12)).toNat q) s

/-- RESERVE_BW (R379 to R381). Assumption log 76. -/
def State.reserveBw (s : State) (p : Path) (pl : List Byte) : CmdRes :=
  match p with
  | .sess k =>
    let mask := byteAt pl 0
    let lag := beAt pl 2 2
    let isOwner := decide (s.roleOf k = 0)
    if 4 ≤ mask ∨ (List.range 2).any (fun m => bitAt mask m && !s.rends.contains m) then s.no stBadParam 0
    else if 2 ≤ byteAt pl 1 then s.no stBadParam 1
    else if 1024 ≤ lag then s.no stBadParam 2
    else if mask ≠ 0 ∧ (s.session k).id.primary = 16 then s.no stResource
    else
      let s' := s.modTx k (fun x => { x with rend := mask, reserved := mask ≠ 0 && (isOwner || bitAt (byteAt pl 1) 0), lag := lag,
                                             owed := x.owed.filter (fun e => bitAt mask e.2),
                                             segs := x.segs.filter (fun g => bitAt mask g.rend),
                                             cutting := x.cutting.filter (fun c => bitAt mask c.2.1),
                                             served := 0 })
      if s'.admitted then
        s'.pruneElastic.showAdmit.ok (be 4 (rheDiv (s'.sessRate k : Int) (10 ^ 6 * (4 * s'.rateMax.2))).toNat)
      else s.no stResource
  | _ => s.no stRole

/-! JOB_DEFINE (R409). -/

/-- The registers that JOB_DEFINE loads (04_position_scheduler.md R128, 06_engines_shading.md R183, 07_alignment_seams.md R210,
09_output_analytics.md R267, 11_reseam.md R313). -/
def jobRegs : List Nat :=
  [0x40000, 0x40008, 0x4000C, 0x40010, 0x40014, 0x40018, 0x4001C, 0x40020, 0x40024, 0x40028,
    0x30000, 0x30004, 0x30008, 0x3000C, 0x30020, 0x30040, 0x30044,
    0x300A0, 0x300A4, 0x300A8, 0x300AC, 0x300B0, 0x300B4, 0x300B8, 0x300BC, 0x300C0, 0x300C4, 0x300C8,
    0x300E0, 0x300E4, 0x300E8, 0x300F0, 0x300F4, 0x300F8] ++
  [0x60080, 0x60084, 0x60088, 0x6008C, 0x60090, 0x60094, 0x60098]

/-- The pairs of a payload from offset `o`. -/
def pairsAt (pl : List Byte) (o : Nat) : List (Nat × Nat) :=
  (chunksOf 8 256 (pl.drop o)).map (fun c => (beAt c 0 4, beAt c 4 4))

/-- The pair's own check: a register of the list, a value in range; SCAN_VMIN's bound is checked on the values as they stand
after the command (R409). -/
def State.jobPairOk (s : State) (e : Nat × Nat) : Bool :=
  jobRegs.contains e.1 && (if e.1 = 0x60084 then decide (1 ≤ e.2) else s.inRange e.1 0 e.2)

/-- A pair's register stored. -/
def State.jobPair (s : State) (e : Nat × Nat) : State :=
  match regAt e.1 with
  | some (r, k) => s.writeOne .fw r k 0 e.2 false
  | none => s

/-- The span rule of 02_sensor_bar.md R40, but for its bounds. -/
def State.spanOk (s : State) (first count : Nat) : Bool :=
  (List.range count).all (fun j => s.usable (first + j)) && (List.range (count - 1)).all (fun j => !s.jointRange (first + j))

/-- The rules of a rendition (09_output_analytics.md R243): each with the registers that it rests on. They hold whether or not it is
in use: assumption log 68. -/
def State.rendChecks (s : State) (m : Nat) : List (Bool × List Nat) :=
  let a := 0x300E0 + 0x10 * m
  let w := s.fld F.PIPE_RENDm_W_PIXELS m
  let x0 := s.fld F.PIPE_RENDm_X0_COL m
  let lo := 480 * s.job.first
  let hi := 480 * (s.job.first + s.job.count)
  [(decide (s.gridFactor ≤ s.resFactor m), [a, 0x30040]),
    (w = 0 || x0 % s.binX m = 0, [a, a + 4, a + 8]),
    (w = 0 || (decide (lo ≤ x0) && decide (x0 + s.binX m * w ≤ hi)), [a, a + 4, a + 8])]

/-- The rules of a SCAN job (11_reseam.md R295, 04_position_scheduler.md R118). -/
def State.scanChecks (s : State) : List (Bool × List Nat) :=
  let media := (s.axesOf s.pacedGroup).filter (fun x => s.bit F.MOT_AXIS_CFG_MEDIA x)
  let vmin := s.fld F.SCAN_VMIN_PCS
  let vmax := s.fld F.SCAN_VMAX_PCS
  let hold := s.fld F.SCAN_MARK1_HOLD
  [(media.length = 1, [0x60080]),
    (media.all (fun x => s.bit F.MOT_AXIS_CFG_ENC_EN x && s.fld F.MOT_AXIS_CFG_ENC x = s.masterIdx), [0x60080, 0x40000]),
    (decide (0 < vmin), [0x60084, 0x60088]),
    (decide (16 * s.fld F.SCHED_PLL_FN_HZ ≤ vmin), [0x60084, 0x40024]),
    (decide (s.fld F.SCHED_REV_SETTLE_PC * 2 ^ 32 ≤ 16 * s.linePitch), [0x40008, 0x4000C, 0x40028]),
    (decide (s.fld F.SCAN_MARK0_PACE_LO < s.fld F.SCAN_MARK0_PACE_HI) && decide (s.fld F.SCAN_MARK0_PACE_HI ≤ hold)
      && decide (s.fld F.SCAN_MARK1_RESUME < hold), [0x6008C, 0x60090]),
    (decide (s.fld F.SCHED_TMIN_NS * 2 ^ 32 * vmax ≤ s.linePitch * 10 ^ 9), [0x60088, 0x40008, 0x4000C, 0x40018, 0x4001C])]

/-- The limits on the values as they stand after the command (R409). -/
def State.jobChecks (s : State) : List (Bool × List Nat) :=
  [(decide (0x40000000 ≤ s.linePitch) && decide (s.linePitch ≤ 0x00FFFFFFFFFFFFFF), [0x40008, 0x4000C]),
    (!s.bit F.SCHED_CTRL_TIME_MODE, [0x40000]),
    (decide (s.fld F.SCAN_VMIN_PCS ≤ s.fld F.SCAN_VMAX_PCS), [0x60084, 0x60088]),
    (!s.bit F.PIPE_KERNEL_CFG_EN || s.bit F.SEC_KERNEL_VALID, [0x30020])] ++
  s.rendChecks 0 ++ s.rendChecks 1 ++ (if s.job.scan then s.scanChecks else [])

/-- The index of the last pair that names one of the registers. -/
def lastPair (es : List (Nat × Nat)) (regs : List Nat) : Nat :=
  min 255 (maxN (indicesWhere (fun e => regs.contains e.1) 0 es))

/-- The header's failing byte offset, none where it is in order (R408, R40). -/
def State.jobHeader (s : State) (pl : List Byte) : Option Nat :=
  let mode := byteAt pl 0
  let first := beAt pl 2 2
  let count := beAt pl 4 2
  let rate := beAt pl 8 4
  if 1 < mode then some 0
  else if byteAt pl 1 ≠ 0 then some 1
  else if beAt pl 6 2 ≠ 0 then some 6
  else if (mode = 0 && !within rate 1 30000) || (mode = 1 && rate ≠ 0) then some 8
  else if count = 0 ∨ 512 < first + count then some 4
  else if !s.spanOk first count then some 2
  else none

/-- The state with the new definition in place: the values loaded, the span, T_MIN and the regions (13_memory_block_mover.md R345,
04_position_scheduler.md R116). -/
def State.jobTrial (s : State) (pl : List Byte) (es : List (Nat × Nat)) : State :=
  let first := beAt pl 2 2
  let count := beAt pl 4 2
  let tiles := (List.range count).map (· + first)
  let j : Job := { defined := true, scan := byteAt pl 0 = 1, first := first, count := count, rate := beAt pl 8 4,
                   lineCount := beAt pl 12 4, phase := 0, serials := tiles.map (fun i => identSerial (s.lane i).ident),
                   fdMax := s.fdMaxOf tiles, warned := [], images := [] }
  let s : State := { es.foldl State.jobPair s with job := j }
  let base := 0x1C00000 + bankArea s.compat count
  s.showTMin.setFlds [(F.QDR_ELASTIC_BASE_ADDR, base), (F.QDR_ELASTIC_SIZE_BYTES, s.qdrEnd - base)]

/-- What an accepted JOB_DEFINE replaces and clears (R409, 14_host_network.md R379, 08_calibration.md R214). -/
def State.jobInstall (s : State) (unsaved : Nat) : State :=
  let s := if unsaved = 0 then s else s.burgee 3 clsWarn 4 0xFFFF 0 unsaved
  let s := s.setFlds [(F.XPT_RATE_MAX_LPS, s.rateMax.1 / s.rateMax.2), (F.ANA_REF_STATUS_ROWS, refRing s.job.count)]
  let s := s.openSessions.foldl (fun s k =>
    (s.modTx k (fun x => { x with rend := 0, reserved := false, lag := 0, owed := [], segs := [], cutting := none, served := 0 })).pushRec k (s.sessRec k (s.roleOf k) 3)) s
  let s : State := { s with prod := {}, ana := { s.ana with refRows := [], refNext := 0 }, flt := { s.flt with deferRaised := false } }
  let s : State := { s with cmds := s.cmds.map (fun (c : CmdPath) => { c with raster := none }) }
  s.showAdmit

/-- JOB_DEFINE. -/
def State.jobDefine (s : State) (pl : List Byte) : CmdRes :=
  let es := pairsAt pl 16
  match s.jobHeader pl with
  | some o => s.no stBadParam o
  | none =>
    match indicesWhere (fun e => !s.jobPairOk e) 0 es with
    | i :: _ => s.no stBadParam (min 255 i)
    | [] =>
      let t := s.jobTrial pl es
      match t.jobChecks.find? (fun c => !c.1) with
      | some c => s.no stBadParam (lastPair es c.2)
      | none =>
        if s.bmvUsed ∨ s.opRuns then s.no stBusy
        else if t.qdrEnd < t.fld F.QDR_ELASTIC_BASE_ADDR + 0x100000 then s.no stResource
        else
          let t := t.jobInstall s.job.images.length
          t.ok (be 4 (t.fld F.SCHED_TMIN_NS) ++ be 4 (t.fld F.QDR_ELASTIC_SIZE_BYTES) ++ be 4 (t.fld F.XPT_RATE_MAX_LPS))

/-! JOB_ARM (01_system_overview.md R19, 02_sensor_bar.md R42). -/

/-- A slot of the calibration copy with an uncorrectable word no longer counts as PRESENT (13_memory_block_mover.md R340). -/
def State.lostRecords (s : State) : State :=
  ((List.range 512).filter (fun i => s.bad.any (fun a => decide (recAddr i ≤ a) && decide (a < recAddr i + 12288)))).foldl
    (fun s i => s.writeMem (recAddr i + 11888) [0]) s

/-- The groups that a job takes over (10_motion.md R271) and that firmware does not use: those with a MEDIA axis, in SCAN the paced
group. -/
def State.mediaGroups (s : State) : List Nat :=
  (List.range 4).filter (fun g => (if s.job.scan then g = s.pacedGroup else (s.mediaAxis g).isSome) && !(s.group g).used)

/-- JOB_ARM halts those groups, and the device leaves IDLE once they rest, so that no MEDIA axis steps in an INSPECT job
(01_system_overview.md R13) and the hold path finds its group at rest. DESIGN CHOICE, assumption log 172. -/
def State.mediaHalt (s : State) : State := s.mediaGroups.foldl State.haltGroup s

/-- JOB_ARM: the identity records of the span are read again; the rest follows when they have come. -/
def State.jobArm (s : State) (p : Path) : CmdRes :=
  if !s.job.defined then s.no stState
  else if s.opRuns ∨ s.bmvUsed then s.no stBusy
  else if !s.qdrUsable then s.noQdr
  else
    let s := s.lostRecords.loadKernel.mediaHalt
    let s : State := { s with ops := { s.ops with arm := some ⟨p, s.span, [], false⟩ } }
    (s.span.foldl (fun s i => s.bcbPush (i / 128) i 0x02 [] .armIdent 4) s, none)

/-- JOB_ARM fails before the device has left IDLE. -/
def State.armNo (s : State) (a : ArmOp) (st detail : Nat) : State :=
  ({ s with ops := { s.ops with arm := none } }).sendReply a.path (rspErr st detail)

/-- C_E (14_host_network.md R380): the sum of bytes per grid line is formed over 4 lines. -/
def State.ceLines (s : State) : Nat :=
  let per4 := sumN (s.rends.map (fun m => s.lineBytes m * (4 / s.binY m)))
  if per4 = 0 then 0 else 4 * (s.fld F.QDR_ELASTIC_SIZE_BYTES * 4 / per4 / 4)

/-- The first check of JOB_ARM that fails, as status, DETAIL and what it shows (R42, R116, R137, R159, R193, R297, R381). -/
def State.armCheck (s : State) : Option (Nat × Nat × State) :=
  let serials := s.span.map (fun i => identSerial (s.lane i).ident)
  if !s.span.all s.usable ∨ serials ≠ s.job.serials then some (stBadParam, 0, s)
  else if 16777215 < s.tMinNow then some (stBadParam, 0, s)
  else
    match s.alignCheck with
    | some (st, s') => some (st, 0, s')
    | none =>
      if 4 * s.fld F.SCHED_TMIN_NS < 5 * (14000 + s.fld F.PIPE_KERNEL_CFG_BUDGET) then some (stResource, 0, s)
      else if s.job.scan ∧ s.owner.any (fun k => (s.session k).tx.rend ≠ 0) ∧ s.ceLines < 32 then some (stResource, 0, s)
      else if !s.admitted then some (stResource, 0, s)
      else if !((List.range 256).filter s.sectInSpan).all s.sectionPresent then some (stFault, 0, s)
      else none

/-- The compatibility images of the span read from flash, but for those that COEF_LOAD has put there (08_calibration.md R214). -/
def State.compatImages (s : State) : State :=
  if !s.compat then s
  else (s.span.filter (fun i => !s.job.images.contains i)).foldl (fun s i =>
    match s.takeRecord i with
    | (s, some l) => s.writeMem (s.imageAddr i 2) (slice l 11648 11520)
    | (s, none) => s) s

/-- The job's own state put back to its start. -/
def State.jobReset (s : State) : State :=
  let ce := s.ceLines
  let s := s.setFlds [(F.XPT_CE_LINES_LINES, ce), (F.SCAN_CAP_LINES, ce), (F.PIPE_BANK_STATUS_ACTIVE, 0), (F.SCAN_FILL_F, 0),
    (F.SCAN_STATUS_PHASE, 0), (F.SCAN_STATUS_COLD, 0), (F.SCAN_STATUS_CAUSE, 0), (F.SCAN_HOLD_CNT_COUNT, 0)]
  let ks := s.sessions.map (fun (x : Session) => { x with tx := { x.tx with episodes := [], gapRun := none, gapNext := none, thinNext := none,
                                                                               reseamNext := false } })
  let lead := s.sched
  { s with prod := {}, scan := {}, sessions := ks, chains := s.chains.map (fun (x : Chain) => { x with unver := [] }), job := { s.job with phase := 0 },
           sched := { lead with target := 0, tn := none, cur := none, expo := none, rises := [], skipped := false,
                                active := false, timeMode := false, saved := 0 } }

/-- One span lane restored: its settings shown and sent, its eye to be measured; with none stored it is trained (03_triry_link.md
R85). -/
def State.restoreLane (s : State) (i : Nat) : State :=
  match (s.lane i).saved with
  | none => s.trainStart i
  | some (c, pre, pst) =>
    let t : Train := ⟨11, c, 0, 0, 1, true, true, false, false, pre, pst, false, false⟩
    let s := (s.showSaved i).modLane i (fun l => { l with train := some t })
    (s.setFld F.TILE_LANE_STATUS_TRAINING 1 i).bcbPush (i / 128) i 0x08 [BitVec.ofNat 8 (pre * 16 + pst)] .restore 4

/-- The chains of the work driven: VREF at its highest code (05_illumination.md R143). -/
def State.chainsUp (s : State) : State :=
  s.driven.foldl (fun s c => s.setFld F.LUM_VREF_CODE (s.fld F.LUM_VREF_LIM_MAX c) c) s

/-- The device leaves IDLE for CALIBRATING: quads up, geometry applied, lanes restored (R19, R85, R106, R143, R210). -/
def State.armLeave (s : State) (a : ArmOp) : State :=
  let s := s.showLat.compatImages.jobReset
  let s := (({ s with op := .calibrating }).spanQuads.foldl State.quadSummer { s with op := .calibrating }).clearDrift
  let s := s.span.foldl (fun s i => (s.loadGeo i).loadKernelIn i) s
  let s := (s.span.foldl State.showGeo s).chainsUp.trackRestart.showAdmit
  let s : State := { s with ops := { s.ops with arm := some { a with idents := [], lanes := s.span, left := true } } }
  s.span.foldl State.restoreLane s

/-- JOB_ARM as far as it has come (R19): the identity records, then the lanes, then the Equinox run. -/
def State.armProgress (s : State) : State :=
  match s.ops.arm with
  | none => s
  | some a =>
    if !a.left then
      if !a.idents.isEmpty || s.mediaGroups.any s.groupBusy then s
      else match s.showTMin.armCheck with
        | some (st, d, s') => s'.armNo a st d
        | none => s.showTMin.armLeave a
    else if !a.lanes.isEmpty then s
    else
      let s : State := { s with ops := { s.ops with arm := none } }
      if s.span.any (fun i => s.bit F.TILE_LANE_STATUS_TRAIN_FAIL i) then (s.enterIdle).sendReply a.path (rspErr stFault 0xF2)
      else s.runTiles.eqxStart 0 a.path

/-! JOB_START, JOB_STOP, JOB_ABORT. -/

/-- A commit window is open on a driven chain (05_illumination.md R135): a mark is to be sent, or the drivers may still see one.
When a JOB_START that waits for it is answered is assumption log 140. -/
def State.commitOpen (s : State) : Bool :=
  s.driven.any (fun c => (s.chain c).markDue.isSome ||
    ((s.chain c).marked && decide (s.tb < s.sched.lastGate + s.fld F.SCHED_LUM_GATE_W + 6000)))

/-- The effect of JOB_START (04_position_scheduler.md R107, R110, 09_output_analytics.md R255, 11_reseam.md R296). -/
def State.startNow (s : State) : State :=
  let off := if s.bit F.SCHED_CTRL_PHASE_REL then s.masterPos * 2 ^ 16 else 0
  let s : State := { s with op := .running, job := { s.job with phase := off }, scan := {},
                            engs := s.engs.map (fun (e : Eng) => { e with filt := [] }) }
  let s := s.anaReset.startPlacing
  if s.job.scan then (s.setFlds [(F.SCAN_STATUS_PHASE, 1), (F.SCAN_VCMD_PCS, s.fld F.SCAN_VMAX_PCS)]).queuePaced else s

/-- JOB_START takes effect once no commit window is open (05_illumination.md R135). -/
def State.jobStart (s : State) (p : Path) : CmdRes :=
  if s.commitOpen then ({ s with ops := { s.ops with startWait := some p } }, none) else s.startNow.ok

/-- A JOB_START that waits takes effect when the window has closed; it fails as an aborted command does when ARMED has been left. -/
def State.startProgress (s : State) : State :=
  match s.ops.startWait with
  | none => s
  | some p =>
    let t : State := { s with ops := { s.ops with startWait := none } }
    if s.op ≠ .armed then t.sendReply p (rspErr stFault 1)
    else if s.commitOpen then s
    else t.startNow.sendReply p (rspOk [])

/-- The last line that will still be delivered (R408): that of the last exposure whose gate has been issued, or the sealed one. -/
def State.lastDelivered (s : State) : Nat :=
  if s.op = .holding then (s.prod.sealNext.getD 0) - 1
  else
    let gated := match s.sched.cur with
      | some c => if c.gate.isSome then [c.line] else []
      | none => []
    let placed := gated ++ s.prod.placed
    let top := maxN placed
    max (s.prod.last.getD 0) (maxN (placed.filter (fun m => decide (m + s.lat ≤ top) && s.prod.firstOut.all (fun f => decide (f ≤ m)))))

/-- JOB_STOP (R19, R22). -/
def State.jobStop (s : State) : CmdRes :=
  let n := s.lastDelivered
  s.stopJob.ok (be 4 n ++ be 2 (n / 2 ^ 32))

/-- The windows of the driven segments closed at once. -/
def State.closeWindows (s : State) : State :=
  s.strobeLow.stopPlacing.dropAllLines

/-- JOB_ABORT (R21, R402, 08_calibration.md R226): exposures stop, undelivered lines are discarded, the axes of the job halt. A run
under way fails with REASON 1, and its strip returns to PARK before the device reaches IDLE; one whose strip is already on its way back
is decided, and only a reply that is still owed ends with FAULT. -/
def State.jobAbort (s : State) (p : Path) : CmdRes :=
  let s := if s.job.scan then s.haltGroup s.pacedGroup else s
  let s := s.closeWindows
  match s.ops.arm, s.ops.eqx with
  | some a, _ => (s.enterIdle.armNo a stFault 1).ok
  | none, some e =>
    let s : State := { s with ops := { s.ops with abort := some p } }
    if e.phase = 7 then
      let s := if e.src = 0 ∨ e.reason ≠ 0 then s.sendReply e.path (rspErr stFault (if e.reason = 0 then 1 else e.reason)) else s
      (s.setEqx (some { e with src := 1, path := .fw }), none)
    else
    let s := if e.src = 2 then (s.sendReply e.path (rspErr stFault 1)).setEqx (some { e with src := 1, path := .fw }) else s
    let e : Eqx := if e.src = 2 then { e with src := 1, path := .fw } else e
    (s.eqxFail { e with reason := 1 }, none)
  | none, none => s.enterIdle.ok

/-- A JOB_ABORT that waits for the strip answers once the device has left CALIBRATING (15_command_set.md R401). -/
def State.abortProgress (s : State) : State :=
  match s.ops.abort with
  | none => s
  | some p =>
    if s.op = .calibrating then s
    else ({ s with ops := { s.ops with abort := none } }).sendReply p (if s.op = Op.idle then rspOk [] else rspErr stFault 0)

/-! CAL_EQUINOX, CAL_ALIGN, CAL_THERMAL (08_calibration.md R218, R227, R233). -/

/-- CAL_EQUINOX. -/
def State.calEquinox (s : State) (p : Path) : CmdRes :=
  let busy := s.bit F.PIPE_BANK_STATUS_ARMED || s.bit F.PIPE_BANK_STATUS_PENDING || s.bit F.PIPE_BANK_STATUS_VERIFY_BUSY || s.opRuns
  if !s.job.defined ∨ (s.op = .running ∧ s.job.scan) then s.no stState
  else if busy ∨ (s.op = .running ∧ !s.bit F.SCHED_STATUS_STILL) then s.no stBusy
  else if !s.qdrUsable then s.noQdr
  else if s.op = .running then (({ s with op := .calibrating }).eqxStart 2 p, none)
  else
    let s := ({ s with op := .calibrating }).setFld F.PIPE_BANK_STATUS_ACTIVE 0
    let s := (s.spanQuads.foldl State.quadSummer s).chainsUp
    ((s.span.foldl State.showSaved s).runTiles.eqxStart 1 p, none)

/-- The entry into SERVICE (R79, 05_illumination.md R137): a discovery pass, and the drivers counted. -/
def State.enterService (s : State) : State := (({ s with op := .service }).discover).countChains

/-- A calibration of the bar's geometry or temperature begins: its range is powered and in RUN. -/
def State.calBegin (s : State) (opCode : Nat) : State :=
  let s := s.setFlds [(F.SYS_OP_STATUS_BUSY, 1), (F.SYS_OP_STATUS_OP, opCode), (F.SYS_OP_STATUS_RESULT, 0), (F.SYS_OP_STATUS_REASON, 0),
    (F.SYS_OP_STATUS_PROGRESS, 0), (F.PIPE_BANK_STATUS_ACTIVE, 0)]
  let s := s.enterService
  let s := s.spanQuads.foldl State.quadSummer s
  (s.workTiles.foldl State.showSaved s).runTiles

/-- The failing byte offset of a CAL_ALIGN (R408, R227). -/
def State.alignBadAt (s : State) (a : AlignOp) : Option Nat :=
  let tiles := (List.range a.count).map (· + a.first)
  let outside := tiles.filter (fun i => decide (i < a.setFirst) || decide (a.setFirst + a.setCount ≤ i))
  let fit := fun (i : Nat) => s.bit F.TILE_STATUS_PRESENT i && s.bit F.TILE_STATUS_IDENT_OK i && s.bit F.TILE_STATUS_IDENT_IN_LIMITS i
  if 2 < a.mode then some 0
  else if 1 < a.motion then some 1
  else if 3 < a.group then some 2
  else if a.count = 0 ∨ 512 < a.first + a.count then some 6
  else if a.mode = 1 ∧ (a.setCount = 0 ∨ a.setFirst < a.first ∨ a.first + a.count < a.setFirst + a.setCount) then some 8
  else if a.pitch < 0x40000000 ∨ 0x00FFFFFFFFFFFFFF < a.pitch then some 12
  else if a.motion = 1 ∧ a.speed = 0 then some 20
  else if !within a.timeout 1000 600000 then some 24
  else if !tiles.all fit then some 4
  else if a.mode = 2 ∧ !tiles.all (fun i => s.recFlag i 0) then some 4
  else if a.mode = 1 ∧ (outside.length < 4 ∨ !outside.all (fun i => s.recFlag i 0)) then some 4
  else none

/-- CAL_ALIGN: OK once it has begun. -/
def State.calAlign (s : State) (p : Path) (pl : List Byte) : CmdRes :=
  let a : AlignOp := ⟨p, byteAt pl 0, byteAt pl 1, byteAt pl 2, beAt pl 4 2, beAt pl 6 2, beAt pl 8 2, beAt pl 10 2, beAt pl 12 8,
    beAt pl 20 4, beAt pl 24 4, s.tb, false, 0, 0⟩
  if byteAt pl 3 ≠ 0 then s.no stBadParam 3
  else match s.alignBadAt a with
    | some o => s.no stBadParam o
    | none =>
      if s.opRuns ∨ s.bmvUsed ∨ (a.motion = 1 ∧ s.groupBusy a.group) then s.no stBusy
      else if !s.qdrUsable then s.noQdr
      else ((({ s with ops := { s.ops with align := some a } }).calBegin 1).eqxStart 3 p).ok

/-- CAL_THERMAL: OK once it has begun; its points are events of their own. -/
def State.calThermal (s : State) (p : Path) (pl : List Byte) : CmdRes :=
  let h : ThermOp := ⟨p, beAt pl 0 2, beAt pl 2 2, byteAt pl 4, s.tb, beAt pl 6 2, beAt pl 8 2, []⟩
  let tiles := (List.range h.count).map (· + h.first)
  if h.count = 0 ∨ 512 < h.first + h.count then s.no stBadParam 2
  else if !tiles.all (fun i => s.recFlag i 0 && s.recFlag i 1) then s.no stBadParam 0
  else if !within h.sweepK 15 40 then s.no stBadParam 4
  else if byteAt pl 5 ≠ 0 then s.no stBadParam 5
  else if !within h.timeout 60 7200 then s.no stBadParam 6
  else if beAt pl 10 2 ≠ 0 then s.no stBadParam 10
  else if s.opRuns ∨ s.bmvUsed then s.no stBusy
  else if !s.qdrUsable then s.noQdr
  else (({ s with ops := { s.ops with therm := some h } }).calBegin 2).ok

end Sys2Proof.Machine
end

