-- ==== Sys2Proof/Machine/BarCmds.lean ====
section
/-! DEFINITION. The commands of motion and illumination (15_command_set.md R411, 10_motion.md R271 to R293, 05_illumination.md
R149, R538) and TILE_BROADCAST (R407). -/

namespace Sys2Proof.Machine

/-! Motion. -/

/-- Group `g` is the paced group of a SCAN job from JOB_ARM on (10_motion.md R271). -/
def State.pacedHeld (s : State) (g : Nat) : Bool := s.jobHeld && s.job.scan && decide (g = s.pacedGroup)

/-- Group `g` holds a MEDIA axis during an INSPECT job (R271). -/
def State.mediaHeld (s : State) (g : Nat) : Bool := s.jobHeld && !s.job.scan && decide (g < 4) && (s.mediaAxis g).isSome

/-- An axis of group `g` may not be moved by MOVE_QUEUE (R280, R287, R288): ESTOP latched, or an axis faulty or disabled. -/
def State.groupFaulty (s : State) (g : Nat) : Bool :=
  s.bit F.MOT_STATUS_ESTOP_LATCH || (s.axesOf g).any (fun x =>
    s.bit F.MOT_AXIS_STATUS_STALL x || s.bit F.MOT_AXIS_STATUS_POSITION_LOST x || s.bit F.MOT_AXIS_STATUS_MICROSTEP_UNKNOWN x
      || !s.bit F.MOT_AXIS_STATUS_ENABLED x)

/-- The target of axis `x` in a MOVE_QUEUE, sign-extended to 64 bits (15_command_set.md R411). -/
def moveTarget (pl : List Byte) (x : Nat) : Int := toSigned 64 (beAt pl (16 + 8 * x) 8)

/-- The failing byte offset of a MOVE_QUEUE (R276, R411). -/
def State.moveBadAt (s : State) (pl : List Byte) : Option Nat :=
  let g := byteAt pl 0
  let rel := bitAt (byteAt pl 1) 0
  let v := beAt pl 4 4
  let far := fun (x : Nat) =>
    let d := moveTarget pl x
    if !(s.axesOf g).contains x then decide (d ≠ 0)
    else if rel then decide (2 ^ 31 - 1 < d.natAbs) else decide (d < -(2 ^ 47)) || decide (2 ^ 47 ≤ d)
  if 3 < g then some 0
  else if 4 ≤ byteAt pl 1 then some 1
  else if beAt pl 2 2 = 0xFFFF then some 2
  else if v < s.fld F.MOT_GRP_VSTART_RATE g ∨ 5000000 * 256 < v
      ∨ (s.axesOf g).any (fun x => s.pulsesClash x v) then some 4
  else if beAt pl 8 4 < 1000 then some 8
  else ((List.range 8).find? far).map (fun x => 16 + 8 * x)

/-- The entry that a MOVE_QUEUE queues. -/
def moveOf (pl : List Byte) : Move :=
  ⟨(List.range 8).map (moveTarget pl), beAt pl 4 4, beAt pl 8 4, beAt pl 12 4, bitAt (byteAt pl 1) 1, false, beAt pl 2 2,
    bitAt (byteAt pl 1) 0⟩

/-- MOVE_QUEUE (R280): a group at rest begins at once, and an entry of Δ 0 completes at once. -/
def State.moveQueue (s : State) (pl : List Byte) : CmdRes :=
  let g := byteAt pl 0
  match s.moveBadAt pl with
  | some o => s.no stBadParam o
  | none =>
    let x := s.group g
    if s.pacedHeld g ∨ s.mediaHeld g then s.no stState
    else if x.used ∨ x.halting ∨ x.homing.isSome ∨ 64 ≤ x.queue.length then s.no stBusy
    else if s.groupFaulty g then s.no stFault 0xF3
    else
      let s := s.modGroup g (fun x => { x with queue := x.queue ++ [moveOf pl] })
      let n := (s.group g).queue.length
      (if x.run.isSome ∨ !x.queue.isEmpty then s else s.startNext g none 65).ok (be 1 n)

/-- MOVE_HALT (R289): of the paced group of a job it ends pacing as JOB_STOP does (R271). -/
def State.moveHalt (s : State) (pl : List Byte) : CmdRes :=
  let g := byteAt pl 0
  if 3 < g then s.no stBadParam 0
  else if s.pacedHeld g then (if s.op = .running ∨ s.op = .holding then s.stopJob.ok else s.ok)
  else if (s.group g).used then s.no stBusy
  else if (s.group g).halting then s.ok
  else (s.haltGroup g).ok

/-- HOME (R293): OK once the search has begun. A FAST that would bring the axis's pulses too close is refused (R274). DEDUCED, assumption
log 174. -/
def State.homeCmd (s : State) (pl : List Byte) : CmdRes :=
  let a := byteAt pl 0
  let g := s.fld F.MOT_AXIS_CFG_GROUP a
  if 7 < a ∨ 3 < g ∨ s.pulsesClash a (256 * s.fld F.MOT_AXIS_HOME_V_FAST a) then s.no stBadParam 0
  else
    let x := s.group g
    if s.pacedHeld g ∨ s.mediaHeld g then s.no stState
    else if x.used ∨ x.halting ∨ s.groupBusy g then s.no stBusy
    else if s.bit F.MOT_STATUS_ESTOP_LATCH ∨ !s.bit F.MOT_AXIS_STATUS_ENABLED a then s.no stFault 0xF3
    else (s.startHoming g a).ok

/-- AXIS_ENABLE (R292). -/
def State.axisEnable (s : State) (pl : List Byte) : CmdRes :=
  let a := byteAt pl 0
  let g := s.fld F.MOT_AXIS_CFG_GROUP a
  if 7 < a then s.no stBadParam 0
  else if 1 < byteAt pl 1 then s.no stBadParam 1
  else if 1 < byteAt pl 2 then s.no stBadParam 2
  else if s.mediaHeld g then s.no stState
  else if g < 4 ∧ ((s.group g).used ∨ s.pacedHeld g) then s.no stBusy
  else if byteAt pl 1 = 0 then (if g < 4 ∧ s.groupMoving g then s.no stBusy else (s.disableAxis a).ok)
  else
    let r := s.enableAxis a (byteAt pl 2 = 1)
    if r.2 then r.1.ok else (r.1, some (rspErr stFault 0xF3))

/-! Illumination. -/

/-- LUM_SET (R149): duties for the next refresh. -/
def State.lumSet (s : State) (pl : List Byte) : CmdRes :=
  let first := beAt pl 0 2
  let n := beAt pl 2 2
  if pl.length ≠ 4 + 6 * n then s.no stBadLength
  else if 256 < first + n then s.no stBadParam (if 255 < first then 0 else 2)
  else ((List.range n).foldl (fun s j =>
    let o := 4 + 6 * j
    s.setFlds [(F.LUM_SEC_DUTY0_FRONT, beAt pl o 2), (F.LUM_SEC_DUTY0_REAR, beAt pl (o + 2) 2), (F.LUM_SEC_DUTY1_NIR, beAt pl (o + 4) 2)]
      (first + j)) s).ok

/-- LUM_DIAG (R538): the chains concerned begin their CFG refresh; the reply comes with the status slots, or after 100 ms. -/
def State.lumDiag (s : State) (p : Path) (pl : List Byte) : CmdRes :=
  let d := beAt pl 0 2
  let all := (List.range 256).filter (fun d => s.sectionPresent d && (!s.job.defined || s.sectInSpan d))
  let secs := if d = 0xFFFF then all else [d]
  if d ≠ 0xFFFF ∧ 255 < d then s.no stBadParam 0
  else if s.opRuns ∨ s.ops.diag.isSome then s.no stBusy
  else
    let cs := (List.range 4).filter (fun c => secs.any (fun d => d / 64 = c))
    ({ s with ops := { s.ops with diag := some ⟨p, secs, cs.map (fun c => (c, 0)), cs.map (fun c => (c, s.tb)), s.tb⟩ } }, none)

/-- The reply of LUM_DIAG (R411): the status slots held now. -/
def State.diagReply (s : State) : State :=
  match s.ops.diag with
  | none => s
  | some g =>
    let pl := g.secs.flatMap (fun d => be 2 d ++ be 3 (s.fld F.LUM_SEC_STATUS_SLOT d) ++ be 1 0)
    let s := g.chains.foldl (fun s c =>
      (s.modChain c.1 (fun x => { x with waiting := false, passed := false, marked := false, markDue := none })).setFld
        F.LUM_CHAIN_STATUS_REFRESHING 0 c.1) s
    ({ s with ops := { s.ops with diag := none } }).sendReply g.path (rspOk pl)

/-- LUM_DIAG answers once every chain has read its status slots. -/
def State.diagProgress (s : State) : State :=
  if s.ops.diag.any (fun g => g.chains.all (fun c => c.2 = 5)) then s.diagReply else s

/-- LUM_DIAG answers after 100 ms (R411). -/
def State.diagLate (s : State) : State :=
  if s.ops.diag.any (fun g => decide (g.t0 + 100000000 ≤ s.tb)) then s.diagReply else s

/-! TILE_BROADCAST (R407). -/

/-- The tile opcodes it accepts. -/
def hostTileOps : List Nat := [0x01, 0x02, 0x04, 0x05, 0x09, 0x0B]

/-- Some record has GEOM_VALID: a broadcast goes to every segment (assumption log 182). -/
def State.geomOn (s : State) : Bool := (List.range 512).any (fun i => s.recFlag i 0)

/-- TILE_BROADCAST: one transaction of the bar control bus; the reply comes with the tile's. -/
def State.tileBroadcast (s : State) (p : Path) (pl : List Byte) : CmdRes :=
  let addr := beAt pl 0 2
  let op := byteAt pl 2
  let n := byteAt pl 3
  let d := pl.drop 4
  if pl.length ≠ 4 + n then s.no stBadLength
  else if 511 < addr then s.no stBadParam 0
  else if !hostTileOps.contains op then s.no stBadParam 2
  else if addr = 0x1FF then
    (if op ≠ 0x04 then s.no stBadParam 2
     else if s.geomOn then s.no stBadParam 0
     else
       let s := (List.range 4).foldl (fun s g => s.bcbPush g 0x1FF op d .quiet 1) s
       (((List.range 512).filter (fun i => s.bit F.TILE_STATUS_PRESENT i)).foldl (fun s i => s.keepSite i d) s).ok)
  else if op = 0x04 ∧ byteAt d 0 = 1 ∧ s.recFlag addr 0 then s.no stBadParam 4
  else if s.ops.tileCmd.isSome then s.no stBusy
  else (({ s with ops := { s.ops with tileCmd := some p } }).bcbPush (addr / 128) addr op d (.command p) 4, none)

end Sys2Proof.Machine
end

