-- ==== Sys2Proof/Machine/StoreCmds.lean ====
section
/-! DEFINITION. The commands of stores, analytics, maintenance and power (15_command_set.md R410, R412, R413): COEF_*,
REF_RASTER_PUT, VERDICT_CONFIG, STATS_READ, CONFIG_STORE, FW_*, DUMP_READ, FAULT_LOG_READ, BMV_SUBMIT, SERVICE_*, SEASON_SET. -/

namespace Sys2Proof.Machine

/-! Staged objects (R410). -/

/-- What a piece does to a staged object: none with the failing byte offset, or the bytes held after it. -/
def stagePiece (old : Option Stage) (tile kind size off : Nat) (data : List Byte) (last : Bool) (offAt lastAt : Nat) : Nat ⊕ Stage :=
  let held := match old with
    | some x => if off ≠ 0 ∧ x.tile = tile ∧ x.kind = kind then x.data else []
    | none => []
  if off ≠ held.length then .inl offAt
  else if size < off + data.length then .inl offAt
  else if last ∧ off + data.length ≠ size then .inl lastAt
  else .inr ⟨tile, kind, held ++ data⟩

/-- The size of a COEF_LOAD object (R410). -/
def coefSize (kind : Nat) : Nat :=
  match kind with
  | 0 => 20
  | 3 => 7648
  | _ => 11520

/-- The compatibility bank of FLK-480 B and W lines, and how many RCP clamped (08_calibration.md R217, 06_engines_shading.md R173). The
slot of an absent photosite is 0 (R176). -/
def State.bankOfLines (s : State) (i : Nat) (l : List Byte) : List Byte × Nat :=
  let w := fun (k : Nat) => ofLe (slice l (2 * k) 2)
  let slot := fun (k : Nat) =>
    if k % 478 < s.sites i then
      let r := rcpOf (s.fld F.PIPE_SHADE_WHITE_WHITE) (w k) (w (1912 + k))
      (w k + w (1912 + k) * 2 ^ 16 + r.1 * 2 ^ 32, r.2)
    else (0, false)
  let slots := (List.range 1912).map slot
  (bankOf (bankHead 2 (identSerial (s.lane i).ident) (s.nextGen i) 0 0 0 0 0) (slots.map (·.1)), (slots.filter (·.2)).length)

/-- A complete object checks (08_calibration.md R217). -/
def State.coefOk (s : State) (x : Stage) : Bool :=
  let serial := identSerial (s.lane x.tile).ident
  match x.kind with
  | 0 =>
    let g := geoOf x.data (s.sites x.tile)
    g.tileOk && (bitAt (byteAt x.data 19) 0 || g.jointOk)
  | 1 => bankGood x.data serial && bankForm x.data = 1
  | 2 => bankGood x.data serial && bankForm x.data = 2
  | _ => true

/-- A complete object written into the record or the compatibility image (08_calibration.md R214, R217). -/
def State.coefWrite (s : State) (x : Stage) : State :=
  let i := x.tile
  let flag := fun (s : State) (b : Nat) => s.writeRec i 5 (be 1 (Nat.lor (s.recLe i 5 1) b))
  match x.kind with
  | 0 => (flag s 1).writeRec i 64 x.data
  | 1 => (flag s 2).writeRec i 128 x.data
  | k =>
    let (l, clamps) := if k = 2 then (x.data, 0) else s.bankOfLines i x.data
    let s := s.count F.PIPE_COEF_CLAMP_CNT_COUNT 0 clamps
    let s := (s.writeMem (s.imageAddr i 2) l).writeMem (recAddr i + 11888) (be 1 (Nat.lor (s.recLe i 11888 1) 2))
    { s with job := { s.job with images := i :: s.job.images.filter (· ≠ i) } }

/-- COEF_LOAD (R410). -/
def State.coefLoad (s : State) (p : Path) (pl : List Byte) : CmdRes :=
  let i := beAt pl 0 2
  let kind := byteAt pl 2
  let last := bitAt (byteAt pl 3) 0
  if 511 < i then s.no stBadParam 0
  else if 3 < kind then s.no stBadParam 2
  else if 1 < byteAt pl 3 then s.no stBadParam 3
  else if 2 ≤ kind ∧ !(s.compat && s.inSpan i) then s.no stBadParam 2
  else if !s.qdrUsable then s.noQdr
  else if !s.recPresent i then s.no stBadParam 0
  else
    match stagePiece (s.cmd p).coef i kind (coefSize kind) (beAt pl 4 4) (pl.drop 8) last 4 3 with
    | .inl o => s.no stBadParam o
    | .inr x =>
      if !last then (s.modCmd p (fun c => { c with coef := some x })).ok
      else if !s.coefOk x then s.no stBadParam 8
      else ((s.modCmd p (fun c => { c with coef := none })).coefWrite x).ok

/-! COEF_SAVE (08_calibration.md R216). -/

/-- PROMOTE: each span tile's active native bank becomes its record's base bank. -/
def State.promote (s : State) : State :=
  let b := s.fld F.PIPE_BANK_STATUS_ACTIVE
  if s.compat then s
  else s.span.foldl (fun s i =>
    let l := s.imageOf i b
    if s.recPresent i && bankGood l (identSerial (s.lane i).ident) && bankForm l = 1 then
      (s.writeRec i 128 l).writeRec i 5 (be 1 (Nat.lor (s.recLe i 5 1) 2))
    else s) s

/-- The stored record of tile `i`: the QDR copy, its new GEN, its compatibility bank (R212, R214). It goes into the copy with the lower GEN
or an invalid record first, into CS_B when the two are equal, and then into the other one; a copy that fails twice stops the store and is
named by a burgee (R216). -/
def State.saveRecord (s : State) (i : Nat) : State × Bool :=
  let a := s.calSlot 0 i
  let b := s.calSlot 1 i
  let ga := if recValid i a then recGen a else 0
  let gb := if recValid i b then recGen b else 0
  let gen := (max ga gb + 1) % 2 ^ 32
  let old := if recValid i a ∧ (gb ≤ ga ∨ !recValid i b) then some a else if recValid i b then some b else none
  let image := s.job.images.contains i
  let flags := if image then Nat.lor (s.recLe i 5 1) 4 else s.recLe i 5 1
  let q := s.recBytes i 0 11648
  let compat := if image then s.readMem (s.imageAddr i 2) 11520
    else if bitAt flags 2 then ((old.map (fun l => slice l 11648 11520)).getD (zeros 11520)) else zeros 11520
  let l := q.take 5 ++ be 1 flags ++ slice q 6 10 ++ le 4 gen ++ q.drop 20 ++ compat ++ zeros 128
  let l := l.take 60 ++ le 4 (recCrc l) ++ l.drop 64
  let first := if recValid i b && (!recValid i a || decide (ga < gb)) then 0 else 1
  let (s, ok1) := s.flashPut (flashCal first i) 32768 l true
  if !ok1 then (s.burgee 3 clsWarn 2 i 0 first, false)
  else
    let (s, ok2) := s.flashPut (flashCal (1 - first) i) 32768 l true
    if !ok2 then (s.burgee 3 clsWarn 2 i 0 (1 - first), false)
    else
      let s := (s.writeMem (recAddr i) (l.take 11648)).writeMem (recAddr i + 11888) [1]
      ({ s with job := { s.job with images := s.job.images.filter (· ≠ i) } }, true)

/-- COEF_SAVE: one hold-up check for the whole store, then every UNSAVED record in tile order, up to one that fails. -/
def State.coefSave (s : State) (pl : List Byte) : CmdRes :=
  if 1 < byteAt pl 0 then s.no stBadParam 0
  else
    let t := if bitAt (byteAt pl 0) 0 then s.promote else s
    let l := (List.range 512).filter (fun i => t.recPresent i && t.recUnsaved i)
    let r := s.holdupCheck (2 * l.length) (182 * l.length) (46592 * l.length) 0
    if !r.1 then (r.2, some (rspErr stDeferred 0))
    else
      let t := (t.holdupCheck (2 * l.length) (182 * l.length) (46592 * l.length) 0).2
      let r := l.foldl (fun (x : State × Bool) i => if x.2 then x.1.saveRecord i else x) (t, true)
      if r.2 then r.1.ok (be 2 l.length) else r.1.no stFault

/-! REF_RASTER_PUT (09_output_analytics.md R258). -/

/-- Row `r − ROWS` still covers an output line not yet produced. -/
def State.rowPinned (s : State) (r : Nat) : Bool :=
  let ring := refRing s.job.count
  let lo : Int := (s.refFactor * (r - ring) : Nat) + s.sfld F.ANA_REF_LINE_OFF
  let hi : Int := lo + s.refFactor - 1
  let top : Int := match s.prod.last with
    | some n => n
    | none => -1
  decide (ring ≤ r) && decide (top < hi) && decide (0 ≤ hi) && (s.job.lineCount = 0 || decide (lo < s.job.lineCount))

/-- REF_RASTER_PUT: the pieces of one row; the last one puts it into the ring. -/
def State.refRasterPut (s : State) (p : Path) (pl : List Byte) : CmdRes :=
  let r := beAt pl 0 4
  let off := beAt pl 4 4
  let last := bitAt (byteAt pl 8) 0
  if !s.job.defined then s.no stState
  else if 1 < byteAt pl 8 then s.no stBadParam 8
  else if beAt pl 9 3 ≠ 0 then s.no stBadParam 9
  else
    match stagePiece (s.cmd p).raster r 0 (180 * s.job.count) off (pl.drop 12) last 4 8 with
    | .inl o => s.no stBadParam o
    | .inr x =>
      if off = 0 ∧ s.rowPinned r then s.no stBusy
      else if !s.qdrUsable then s.noQdr
      else if !last then (s.modCmd p (fun c => { c with raster := some x })).ok
      else
        let s := (s.modCmd p (fun c => { c with raster := none })).writeMem (s.refAddr r) x.data
        let ring := refRing s.job.count
        ({ s with ana := { s.ana with refRows := r :: s.ana.refRows.filter (fun q => q % ring ≠ r % ring) } }).ok

/-! VERDICT_CONFIG, STATS_READ, CONFIG_STORE. -/

/-- VERDICT_CONFIG: pairs within the ANA block, applied as REG_WRITE applies them. -/
def State.verdictConfig (s : State) (p : Path) (pl : List Byte) : CmdRes :=
  let es := pairsAt pl 0
  match indicesWhere (fun (e : Nat × Nat) => !(decide (0xF0000 ≤ e.1) && decide (e.1 ≤ 0xFFFFF))) 0 es with
  | i :: _ => s.no stBadParam (min 255 i)
  | [] =>
    let r := s.writeList p es
    if r.2.1 = stOk then r.1.ok else s.no r.2.1 r.2.2

/-- STATS_READ (R256): answered at the first output line produced, or after 100 ms. -/
def State.statsRead (s : State) (p : Path) : CmdRes :=
  if s.ops.stats.isSome then s.no stBusy
  else ({ s with ops := { s.ops with stats := some (p, s.tb) } }, none)

/-- The snapshot at the end of the 100 ms (R256). -/
def State.statsLate (s : State) : State :=
  if s.ops.stats.any (fun x => decide (x.2 + 100000000 ≤ s.tb)) then s.statsDone true else s

/-- CONFIG_STORE (18_power_startup.md R464). -/
def State.configStore (s : State) : CmdRes :=
  let r := s.storeConfig
  (r.1, some (if r.2 = stOk then rspOk [] else rspErr r.2 0))

/-! Updates (17_security.md R439, R440). -/

/-- The kind that a package's first four bytes name, 0 for none, and its range of sizes. -/
def packKind (l : List Byte) : Nat :=
  match ofLe (l.take 4) with
  | 0x4B524D46 => 1
  | 0x4B524B4E => 2
  | 0x4B524B59 => 3
  | 0x4B524F54 => 4
  | _ => 0

def packSizeOk (kind n : Nat) : Bool :=
  match kind with
  | 1 => within n 20480 8388608
  | 2 => within n 17188 33568
  | 3 => n = 64
  | 4 => n = 128
  | _ => false

/-- The update ended: its code shown, and the device back in IDLE unless it is in BOOT. -/
def State.updateEnd (s : State) : State :=
  let s := ({ s with ops := { s.ops with update := none } }).setFld F.SEC_STATUS_UPDATE 0
  if s.op = .service then s.enterIdle else s

/-- FW_BEGIN. -/
def State.fwBegin (s : State) (p : Path) (pl : List Byte) : CmdRes :=
  let n := beAt pl 0 4
  if n = 0 ∨ 8388608 < n then s.no stBadParam 0
  else if s.opRuns ∨ s.bmvUsed then s.no stBusy
  else
    let s : State := { s with ops := { s.ops with update := some ⟨p, n, 0, 0, []⟩ } }
    (if s.op = .boot then s else s.enterService).ok

/-- A firmware piece: bytes below 20,480 are held, the others go into the target copy. -/
def State.fwPut (s : State) (off : Nat) (l : List Byte) : State :=
  let a := flashFw s.targetCopy
  let s := if off = 0 then s.clearMem a 20480 else s
  let n := 20480 - off
  if l.length ≤ n then s else s.writeMem (a + max off 20480) (l.drop n)

/-- A key or OTP package needs a sealed session (R439). -/
def State.sealedPath (s : State) (p : Path) : Bool :=
  match p with
  | .sess k => (s.session k).id.isSealed
  | _ => false

/-- FW_CHUNK (R439, 15_command_set.md R410): an OFFSET of 0 begins the object again. -/
def State.fwChunk (s : State) (p : Path) (pl : List Byte) : CmdRes :=
  match s.ops.update with
  | none => s.no stState
  | some u =>
    let off := beAt pl 0 4
    let l := pl.drop 4
    let kind := if off = 0 then packKind l else u.kind
    let got := if off = 0 then 0 else u.got
    if u.path ≠ p then s.no stState
    else if off ≠ got then s.no stBadParam 0
    else if off = 0 ∧ (!packSizeOk kind u.size ∨ (s.op = .boot ∧ kind ≠ 1)) then
      let s := s.updateEnd
      (s, some (rspErr stBadParam 4))
    else if u.size < off + l.length then s.no stBadParam 0
    else if 3 ≤ kind ∧ !s.sealedPath p then s.no stAuth
    else
      let s := if kind = 1 then s.fwPut off l else s
      let held := if off = 0 then [] else u.data
      let data := if kind = 1 then (held ++ l).take 20480 else held ++ l
      let s : State := { s with ops := { s.ops with update := some { u with kind := kind, got := off + l.length, data := data } } }
      (s.setFld F.SEC_STATUS_UPDATE kind).ok

/-- What the commit of a package does (R440, R444, R445): the state, the status and the code. -/
def State.commitPack (s : State) (u : Update) (k : Nat) : State × Nat × Nat :=
  match u.kind with
  | 1 => s.commitFw u.data
  | 2 => s.commitKernel u.data
  | 3 => s.commitKey k u.data
  | _ => s.commitOtp k u.data

/-- FW_COMMIT: a store that is DEFERRED keeps the update; any other outcome ends it. Recovery restarts the device after the
reply (R438). -/
def State.fwCommit (s : State) (p : Path) : CmdRes :=
  match s.ops.update with
  | none => s.no stState
  | some u =>
    let k := match p with
      | .sess k => k
      | _ => 8
    if u.path ≠ p then s.no stState
    else if u.got ≠ u.size then s.no stBadParam 0
    else
      let r := s.commitPack u k
      if r.2.1 = stDeferred then (r.1, some (rspErr stDeferred 0))
      else ((r.1.setFld F.SEC_STATUS_UPDATE_RESULT r.2.2).updateEnd, some (if r.2.1 = stOk then rspOk [] else rspErr r.2.1 0))

/-! DUMP_READ, FAULT_LOG_READ, BMV_SUBMIT. -/

/-- DUMP_READ (19_faults_recovery.md R490). -/
def State.dumpRead (s : State) (pl : List Byte) : CmdRes :=
  let o := beAt pl 0 4
  let n := beAt pl 4 4
  if n % 8 ≠ 0 ∨ n < 8 ∨ 1048576 < n then s.no stBadParam 4
  else if 0x400000 < o + n then s.no stBadParam 0
  else if !s.qdrUsable then s.noQdr
  else s.ok (s.dumpBytes o n)

/-- FAULT_LOG_READ (19_faults_recovery.md R484). -/
def State.faultLogRead (s : State) (pl : List Byte) : CmdRes :=
  let n := beAt pl 2 2
  if !within n 1 1024 then s.no stBadParam 2 else s.ok (s.logEntries (beAt pl 0 2) n)

/-- BMV_SUBMIT (13_memory_block_mover.md R350, R356). -/
def State.bmvSubmit (s : State) (pl : List Byte) : CmdRes :=
  let c := byteAt pl 0
  let bad := (List.find? (fun (x : Nat × Bool) => x.2) [(0, c ≠ 6 && c ≠ 7), (1, decide (3 < byteAt pl 1)), (2, decide (511 < beAt pl 2 2)),
    (14, decide (beAt pl 14 2 ≠ 0)), (16, decide (2 ^ 24 ≤ beAt pl 16 4)), (36, decide (1 < byteAt pl 36)), (37, decide (63 < byteAt pl 37)),
    (38, decide (beAt pl 38 2 ≠ 0))])
  match bad with
  | some x => s.no stBadParam x.1
  | none =>
    let st := s.fld F.BMV_STATUS_STATE c
    if st = 1 ∨ st = 2 then s.no stBusy
    else if !s.qdrUsable then s.noQdr
    else
      let t := s.setFlds [(F.BMV_SRC_LO_ADDR, beAt pl 5 4), (F.BMV_SRC_HI_ADDR, byteAt pl 4), (F.BMV_DST_LO_ADDR, beAt pl 10 4),
        (F.BMV_DST_HI_ADDR, byteAt pl 9), (F.BMV_LEN_BLOCKS, beAt pl 16 4), (F.BMV_SRC_STRIDE_BYTES, beAt pl 20 4),
        (F.BMV_DST_STRIDE_BYTES, beAt pl 24 4), (F.BMV_FILL_HI_DATA, beAt pl 28 4), (F.BMV_FILL_LO_DATA, beAt pl 32 4),
        (F.BMV_CTRL_OP, byteAt pl 1), (F.BMV_CTRL_REPEAT, beAt pl 2 2), (F.BMV_CTRL_EV, byteAt pl 37), (F.BMV_CTRL_EV_EN, byteAt pl 36)] c
      let e := t.bmvCheck c
      if e = 0 then (t.bmvGo c).ok
      else (s.setFld F.BMV_STATUS_ERR e c).no stBadParam e

/-! SERVICE_BEGIN, SERVICE_END, SEASON_SET (R413, 18_power_startup.md R454). -/

/-- SERVICE_BEGIN. -/
def State.serviceBegin (s : State) : CmdRes := if s.opRuns then s.no stBusy else s.enterService.ok

/-- A link or port test control is not 0 (R413). -/
def State.testsOn (s : State) : Bool :=
  (List.range 512).any (fun i => decide (s.fld F.TILE_LANE_CTRL_LOOPBACK i ≠ 0) || decide (s.fld F.TILE_LANE_CTRL_PRBS i ≠ 0))
    || (List.range 17).any (fun q => decide (s.fld F.NET_PORT_TEST_LOOPBACK q ≠ 0) || decide (s.fld F.NET_PORT_TEST_PRBS q ≠ 0))

/-- SERVICE_END. -/
def State.serviceEnd (s : State) : CmdRes :=
  if s.opRuns ∨ s.ops.diag.isSome ∨ s.bmvUsed ∨ s.testsOn then s.no stBusy else s.enterIdle.ok

/-- Every test control off. -/
def State.testsOff (s : State) : State :=
  (List.range 17).foldl (fun s q => s.setFlds [(F.NET_PORT_TEST_LOOPBACK, 0), (F.NET_PORT_TEST_PRBS, 0)] q) s.linkTestsOff

/-- A SERVICE session is open. -/
def State.serviceOpen (s : State) : Bool := s.openSessions.any (fun k => s.roleOf k = 2)

/-- The SERVICE session is gone: its channels of the block mover are aborted (13_memory_block_mover.md R356), and in SERVICE whatever
runs is abandoned, and the device returns to IDLE (R413). -/
def State.serviceLost (s : State) : State :=
  let s := if s.serviceOpen then s else [6, 7].foldl State.bmvAbort s
  if s.op = .service ∧ !s.serviceOpen then
    let g := match s.ops.align with
      | some a => if a.motion = 1 then s.haltGroup a.group else s
      | none => s
    let s := g.abandonOps
    let s := if s.ops.update.isSome then s.setFld F.SEC_STATUS_UPDATE 0 else s
    let s : State := { s with ops := { s.ops with update := none } }
    s.testsOff.enterIdle
  else s

/-- SEASON_SET: Winter follows the reply (18_power_startup.md R454, 10_motion.md R291). -/
def State.seasonSet (s : State) (pl : List Byte) : CmdRes :=
  if byteAt pl 0 ≠ 0 then s.no stBadParam 0
  else if (List.range 4).any s.groupBusy ∨ s.opRuns ∨ s.bmvUsed then s.no stBusy
  else s.ok

end Sys2Proof.Machine
end

