-- ==== Sys2Proof/Machine/TransOps.lean ====
section
/-! DEFINITION. Moevo segments that the device sends (14_host_network.md R359 to R369, R373, R376 to R378, R385), and what the
host acknowledges (R377). -/

namespace Sys2Proof.Machine

/-! The form of a segment. -/

/-- The common header (R365). -/
def segHeader (type sess flags seq id len : Nat) : List Byte :=
  be 1 0x10 ++ be 1 type ++ be 1 sess ++ be 1 flags ++ be 4 seq ++ be 4 id ++ be 2 len ++ be 2 0

/-- A segment of the device: header, body, CRC-32C (R366). -/
def segmentOf (type sess flags seq id : Nat) (body : List Byte) : List Byte :=
  withCrc32 (segHeader type sess flags seq id body.length ++ body)

/-- The classes of a segment in NET_QOS (R360): RSP and EVT, OWNER LINE, OBSERVER LINE. -/
def clsCtrl : Nat := 0
def clsOwner : Nat := 1
def clsObs : Nat := 2

/-- A segment sent on port `q` (R360). -/
def State.sendTo (s : State) (q : Nat) (dst : HostAddr) (cls : Nat) (bytes : List Byte) : State :=
  match (s.port q).live with
  | none => s
  | some c => s.emit (.segment q dst (if c.vlan then some (nthD 0 c.pcp cls, c.vid) else none) (nthD 0 c.dscp cls) bytes)

/-- The host end of session `k`'s path on port `q` (R364). -/
def State.pathOf (s : State) (k q : Nat) : Option HostAddr :=
  ((s.session k).id.paths.find? (fun c => c.1 = q)).map (·.2)

/-- The port is up. -/
def State.portUp (s : State) (q : Nat) : Bool := s.bit F.NET_PORT_STATUS_UP q

/-! Live ports and the sending port (R373, R386). -/

/-- A session's live ports (R373). -/
def State.livePorts (s : State) (k : Nat) : List Nat :=
  (List.range 17).filter (fun q => bitAt (s.session k).id.ports q && s.portUp q && (s.pathOf k q).isSome)

/-- The port that STRIPE 0 sends on: PRIMARY while it is live, else the lowest live port (R373). -/
def State.choosePort (s : State) (k : Nat) : Option Nat :=
  let l := s.livePorts k
  if l.contains (s.session k).id.primary then some (s.session k).id.primary else l.head?

/-- A session whose sending port is not live moves to another live port, with a PORT record MOVED (R386). -/
def State.movePort (s : State) (k : Nat) : State :=
  if (s.livePorts k).contains (s.session k).id.sendPort then s
  else
    match s.choosePort k with
    | none => s
    | some q => (s.modId k (fun x => { x with sendPort := q })).pushRec k (s.portRec q 2)

/-- The live port that follows `q` in port order (R373, STRIPE 1). -/
def nextLive (l : List Nat) (q : Nat) : Option Nat :=
  match l.find? (fun p => decide (q < p)) with
  | some p => some p
  | none => l.head?

/-- Session `k` may send a new LINE segment on port `q`. -/
def State.linePort (s : State) (k q : Nat) : Bool :=
  let x := (s.session k).id
  if x.stripe then nextLive (s.livePorts k) x.rr = some q else x.sendPort = q && (s.livePorts k).contains q

/-- Session `k` may send a retransmission on port `q`: on any live port (R377); with STRIPE 0 the sending port is taken. -/
def State.retxPort (s : State) (k q : Nat) : Bool :=
  (s.livePorts k).contains q && ((s.session k).id.stripe || (s.session k).id.sendPort = q)

/-! LINE segments (R367, R376, R385). -/

/-- The body of the LINE segment that starts at OFFSET `off` of a line, with the line's delivery bits. -/
def State.lineBody (s : State) (l : OutLine) (deliv off maxSeg : Nat) : List Byte :=
  let pen := Nat.lor l.pennant (deliv * 2 ^ 48)
  let ext := off = 0 && bitAt pen 55
  let n := min maxSeg (l.len - off)
  let flags := b2n (off = 0) + 2 * b2n (decide (l.len ≤ off + maxSeg)) + 4 * b2n ext
  be 4 pen ++ be 2 (pen / 2 ^ 32) ++ be 1 l.rend ++ be 1 flags ++ be 4 off ++ be 4 l.len ++ be 8 pen ++
    (if ext then l.mask else []) ++ s.readMem (l.addr + off) n

/-- The segment of a LINE stream as it goes out. -/
def State.lineBytesOf (s : State) (k : Nat) (g : LSeg) (retx : Bool) : List Byte :=
  match s.findLine g.n g.rend with
  | none => []
  | some l => segmentOf 0x03 k (b2n retx) g.seq (s.session k).id.id (s.lineBody l g.deliv g.off (s.session k).id.maxSeg)

/-- The class of a session's LINE segments. -/
def State.lineCls (s : State) (k : Nat) : Nat := if s.roleOf k = 0 then clsOwner else clsObs

/-- The next line of session `k` to be cut: its summary bits are in (09_output_analytics.md R247) and it stands in the elastic
buffer. -/
def State.nextCut (s : State) (k : Nat) : Option OutLine :=
  match (s.session k).tx.owed with
  | [] => none
  | e :: _ =>
    if s.prod.tree.any (fun (x : Tree) => decide (e.1 ≤ x.line) && decide (x.line < e.1 + s.binY e.2)) then none
    else s.findLine e.1 e.2

/-- A first transmission is allowed: credit and window (R376). -/
def State.lineAllowed (s : State) (k : Nat) : Bool :=
  let x := s.session k
  decide (toSigned 32 ((x.tx.lineSeq + 2 ^ 32 - x.tx.limit) % 2 ^ 32) < 0) && decide (x.tx.segs.length < x.id.win)

/-- The delivery bits of line `n`, fixed as its first segment goes out: RESEAM, GAP_BEFORE, THINNED (R385). -/
def SessTx.delivBits (x : SessTx) (n : Nat) : Nat :=
  b2n x.reseamNext + 2 * b2n (x.gapNext.any (fun m => decide (m ≤ n))) + 4 * b2n (x.thinNext.any (fun m => decide (m < n)))

/-- The delivery bits that line `n` carries are no longer due. -/
def SessTx.delivDone (x : SessTx) (n : Nat) : SessTx :=
  { x with reseamNext := false, gapNext := x.gapNext.filter (fun m => decide (n < m)),
           thinNext := x.thinNext.filter (fun m => decide (n ≤ m)) }

/-- The GAP record with CLEAR as line `n`, the next line after a run of gapped lines, is first sent (R383, R384). The run that a
new OWNER takes up has had no record; with no line before `n` it gives none. -/
def State.gapClear (s : State) (k n m : Nat) : State :=
  match (s.session k).tx.gapRun with
  | none => s
  | some g =>
    match g.last with
    | some l =>
      if l < n then (s.modTx k (fun x => { x with gapRun := none })).pushRec k (transRec g.first 0x81 (2 + 4 * g.cause) l g.aux g.rend)
      else s
    | none =>
      let s := s.modTx k (fun x => { x with gapRun := none })
      if g.first < n then s.pushRec k (transRec g.first 0x81 (3 + 4 * g.cause) (n - 1) g.aux m) else s

/-- The uncorrectable word of line memory that the transport meets as it reads the payload at OFFSET `off` of a line (R377,
13_memory_block_mover.md R337). -/
def State.lineBad (s : State) (l : OutLine) (off maxSeg : Nat) : Option Nat := s.badWord (l.addr + off) (min maxSeg (l.len - off))

/-- The next segment of a session's line cut and sent on port `q`. A payload that holds an uncorrectable word is not sent
(13_memory_block_mover.md R340): assumption log 180. -/
def State.cutLine (s : State) (k q : Nat) (l : OutLine) : State :=
  let x := s.session k
  let start := match x.tx.cutting with
    | some c => if c.1 = l.n ∧ c.2.1 = l.rend then some (c.2.2.1, c.2.2.2) else none
    | none => none
  match s.lineBad l ((start.map (·.1)).getD 0 * x.id.maxSeg) x.id.maxSeg with
  | some w => s.qdrUe w
  | none =>
  let s := if start.isNone then s.gapClear k l.n l.rend else s
  let (done, bits) := start.getD (0, x.tx.delivBits l.n)
  let segs := max 1 (ceilDiv l.len x.id.maxSeg)
  let last := decide (segs ≤ done + 1)
  let g : LSeg := ⟨x.tx.lineSeq, l.n, l.rend, done * x.id.maxSeg, bits, last, s.tb, 0, false, q, none⟩
  let s := s.modTx k (fun t =>
    let t := if start.isNone then t.delivDone l.n else t
    { t with segs := t.segs ++ [g], lineSeq := (t.lineSeq + 1) % 2 ^ 32, owed := if last then t.owed.drop 1 else t.owed,
             cutting := if last then none else some (l.n, l.rend, done + 1, bits) })
  let s := s.modId k (fun i => { i with rr := q })
  match s.pathOf k q with
  | some a => s.sendTo q a (s.lineCls k) (s.lineBytesOf k g false)
  | none => s

/-- A LINE segment sent again on port `q`, with the same SEQ and bytes and RETX set (R377). -/
def State.resendLine (s : State) (k q : Nat) (g : LSeg) : State :=
  match (s.findLine g.n g.rend).bind (fun l => s.lineBad l g.off (s.session k).id.maxSeg) with
  | some w => s.qdrUe w
  | none =>
  let put := fun (x : LSeg) => if x.seq = g.seq then { x with sentAt := s.tb, retx := x.retx + 1, due := false, port := q } else x
  let s := (s.modTx k (fun t => { t with segs := t.segs.map put })).count F.XPT_SESS_RETX_CNT_COUNT k
  match s.pathOf k q with
  | some a => s.sendTo q a (s.lineCls k) (s.lineBytesOf k g true)
  | none => s

/-- The due LINE segment of a session with the lowest place in its stream. -/
def SessTx.dueLine (x : SessTx) : Option LSeg := x.segs.find? (·.due)

/-- Session `k` has a LINE segment to send on port `q`. -/
def State.lineWaits (s : State) (k q : Nat) : Bool :=
  (s.retxPort k q && (s.session k).tx.dueLine.isSome) || (s.linePort k q && s.lineAllowed k && (s.nextCut k).isSome)

/-- A session's next LINE segment sent on port `q`, retransmissions first (R378). -/
def State.sendLine (s : State) (k q : Nat) : State :=
  let new := match s.nextCut k with
    | some l => if s.linePort k q && s.lineAllowed k then s.cutLine k q l else s
    | none => s
  match (s.session k).tx.dueLine with
  | some g => if s.retxPort k q then s.resendLine k q g else new
  | none => new

/-! EVT and RSP segments (R368, R373, R376). -/

/-- The instant at which the oldest record of a session's next EVT segment entered, and the segment that is due again. -/
def State.evtWaits (s : State) (k q : Nat) : Option (Nat × Option ESeg) :=
  let x := s.session k
  if x.id.sendPort ≠ q ∨ !(s.livePorts k).contains q then none
  else
    match x.tx.evts.find? (·.due) with
    | some g => some (((g.recs.head?).map (·.t)).getD 0, some g)
    | none => if x.tx.evts.length < 64 then (x.tx.recs.head?).map (fun r => (r.t, none)) else none

/-- The bytes of an EVT segment. -/
def State.evtBytes (s : State) (k : Nat) (g : ESeg) (retx : Bool) : List Byte :=
  segmentOf 0x04 k (b2n retx) g.seq (s.session k).id.id (g.recs.flatMap (·.bytes))

/-- A session's EVT segment sent on port `q`: one again, or up to 512 records (R368). -/
def State.sendEvt (s : State) (k q : Nat) (old : Option ESeg) : State :=
  let (s, bytes) := match old with
    | some g =>
      let put := fun (x : ESeg) => if x.seq = g.seq then { x with sentAt := s.tb, retx := x.retx + 1, due := false, port := q } else x
      ((s.modTx k (fun t => { t with evts := t.evts.map put })).count F.XPT_SESS_RETX_CNT_COUNT k, s.evtBytes k g true)
    | none =>
      let x := (s.session k).tx
      let g : ESeg := ⟨x.evtSeq, x.recs.take 512, s.tb, 0, false, q, none⟩
      (s.modTx k (fun t => { t with evts := t.evts ++ [g], recs := t.recs.drop 512, evtSeq := (t.evtSeq + 1) % 2 ^ 32 }),
        s.evtBytes k g false)
  match s.pathOf k q with
  | some a => s.sendTo q a clsCtrl bytes
  | none => s

/-- A session's oldest RSP segment for port `q`. -/
def State.rspWaits (s : State) (k q : Nat) : Option RspOut := (s.session k).tx.rsps.find? (fun r => r.port = q)

/-- A RSP segment of session `k` sent. -/
def State.sendRsp (s : State) (k q : Nat) (r : RspOut) : State :=
  let s := s.modTx k (fun t => { t with rsps := t.rsps.filter (fun x => x.seq ≠ r.seq) })
  match s.pathOf k q with
  | some a => s.sendTo q a clsCtrl (segmentOf 0x02 k 0 r.seq (s.session k).id.id r.bytes)
  | none => s

/-! The choice of the next segment (R378). -/

/-- What class 1 may send for session `k` on port `q`: the instant of entry, and a RSP or an EVT segment. -/
def State.ctrlOf (s : State) (k q : Nat) : List (Nat × Nat × (RspOut ⊕ Option ESeg)) :=
  ((s.rspWaits k q).map (fun r => (r.t, k, (Sum.inl r : RspOut ⊕ Option ESeg)))).toList ++
    ((s.evtWaits k q).map (fun e => (e.1, k, (Sum.inr e.2 : RspOut ⊕ Option ESeg)))).toList

/-- The first of a list's entries with the least key. -/
def leastOf {α : Type} (key : α → Nat) : List α → Option α
  | [] => none
  | a :: l =>
    match leastOf key l with
    | none => some a
    | some b => some (if key b < key a then b else a)

/-- The reserved OBSERVER whose served octets are least against its rate (R378 class 3). -/
def State.fairest (s : State) (ks : List Nat) : Option Nat :=
  ks.foldl (fun (a : Option Nat) k => match a with
    | none => some k
    | some j =>
      if (s.session k).tx.served * max 1 (s.sessRate j) < (s.session j).tx.served * max 1 (s.sessRate k) then some k else some j) none

/-- The octets served, after session `k` sent `n` more; a session with nothing to send does not save up its turn. -/
def State.serve (s : State) (ks : List Nat) (k n : Nat) : State :=
  let s := s.modTx k (fun x => { x with served := x.served + n })
  let v := (s.session k).tx.served
  let rk := max 1 (s.sessRate k)
  (s.openSessions.filter (fun j => (s.session j).tx.reserved && !ks.contains j)).foldl (fun s j =>
    s.modTx j (fun x => { x with served := max x.served (v * s.sessRate j / rk) })) s

/-- At a segment boundary of port `q` the next segment goes out, from the first class that has one (R378). -/
def State.sendNext (s : State) (q : Nat) : State :=
  let open_ := s.openSessions
  match leastOf (fun c => c.1) (open_.flatMap (fun k => s.ctrlOf k q)) with
  | some (_, k, .inl r) => s.sendRsp k q r
  | some (_, k, .inr e) => s.sendEvt k q e
  | none =>
    let lines := open_.filter (fun k => s.lineWaits k q)
    let reserved := lines.filter (fun k => (s.session k).tx.reserved)
    let free := lines.filter (fun k => !(s.session k).tx.reserved)
    match lines.find? (fun k => s.roleOf k = 0) with
    | some k => s.sendLine k q
    | none =>
      match s.fairest reserved with
      | some k =>
        let n := s.out.length
        let s := s.sendLine k q
        let sent := match s.out with
          | .segment _ _ _ _ b :: _ => if n < s.out.length then b.length else 0
          | _ => 0
        s.serve reserved k sent
      | none =>
        match nextLive free (s.port q).rrObs with
        | some k => (s.sendLine k q).modPort q (fun p => { p with rrObs := k })
        | none => s

/-! Acknowledgements (R377). -/

/-- A SEQ that an ACK covers: below CUM or inside a block; SEQ values are compared modulo 2^32, read as signed (R365). -/
def seqBelow (a b : Nat) : Bool := decide (toSigned 32 ((a + 2 ^ 32 - b) % 2 ^ 32) < 0)

def ackCovers (cum : Nat) (blocks : List (Nat × Nat)) (seq : Nat) : Bool :=
  seqBelow seq cum || blocks.any (fun b => !seqBelow seq b.1 && seqBelow seq b.2)

/-- The segments above `seq` that an ACK reports as received. -/
def ackAbove (blocks : List (Nat × Nat)) (seq : Nat) : Nat :=
  sumN (blocks.map (fun b =>
    let lo := if seqBelow seq b.1 then b.1 else seq + 1
    (toSigned 32 ((b.2 + 2 ^ 32 - lo % 2 ^ 32) % 2 ^ 32)).toNat))

/-- A fast retransmission is due: three segments above it received, and none within RTO_US (R377). -/
def fastDue (tb rto : Nat) (blocks : List (Nat × Nat)) (seq : Nat) (last : Option Nat) : Bool :=
  decide (3 ≤ ackAbove blocks seq) && (match last with
    | none => true
    | some t => decide (t + rto * 1000 ≤ tb))

/-- An accepted ACK of session `k`. -/
def State.ackStream (s : State) (k stream cum : Nat) (blocks : List (Nat × Nat)) : State :=
  let rto := (s.session k).id.rto
  if stream = 3 then
    (s.modTx k (fun x => { x with segs := (x.segs.filter (fun g => !ackCovers cum blocks g.seq)).map (fun (g : LSeg) =>
      if fastDue s.tb rto blocks g.seq g.fastAt then { g with due := true, fastAt := some s.tb } else g) })).pruneElastic.noteFill
  else
    s.modTx k (fun x => { x with evts := (x.evts.filter (fun g => !ackCovers cum blocks g.seq)).map (fun (g : ESeg) =>
      if fastDue s.tb rto blocks g.seq g.fastAt then { g with due := true, fastAt := some s.tb } else g) })

/-- RTO_US after its last transmission a segment is due again; after RETRY_MAX retransmissions the session is dead (R377). -/
def State.rtoOver (s : State) (k : Nat) (isEvt : Bool) (seq : Nat) : State :=
  let x := s.session k
  let late := fun (sent : Nat) => decide (sent + x.id.rto * 1000 ≤ s.tb)
  if x.id.st ≠ 2 then s
  else if isEvt then
    match x.tx.evts.find? (fun g => g.seq = seq && !g.due && late g.sentAt) with
    | none => s
    | some g =>
      if x.id.retryMax ≤ g.retx then s.sessionDead k
      else s.modTx k (fun t => { t with evts := t.evts.map (fun (y : ESeg) => if y.seq = seq then { y with due := true } else y) })
  else
    match x.tx.segs.find? (fun g => g.seq = seq && !g.due && late g.sentAt) with
    | none => s
    | some g =>
      if x.id.retryMax ≤ g.retx then s.sessionDead k
      else s.modTx k (fun t => { t with segs := t.segs.map (fun (y : LSeg) => if y.seq = seq then { y with due := true } else y) })

/-- Every unacknowledged segment that session `k` last sent on port `q` is due again (R377, R386). -/
def SessTx.againOn (x : SessTx) (q : Nat) : SessTx :=
  { x with segs := x.segs.map (fun (g : LSeg) => if g.port = q then { g with due := true } else g),
           evts := x.evts.map (fun (g : ESeg) => if g.port = q then { g with due := true } else g) }

end Sys2Proof.Machine
end

