-- ==== Sys2Proof/Machine/SessCmds.lean ====
section
/-! DEFINITION. Opening and closing a session (14_host_network.md R371 to R374, R537, 01_system_overview.md R26, R27, R29). -/

namespace Sys2Proof.Machine

/-- The key of a role (17_security.md R443). -/
def State.roleKey (s : State) (role : Nat) : Option (List Byte) := nthD none s.sec.keys role

/-- The places of a role (01_system_overview.md R27): one OWNER, six OBSERVERs, one SERVICE. -/
def rolePlaces (role : Nat) : Nat := if role = 1 then 6 else 1

/-- The payload offset of the first field of a phase 1 that is out of its range (R371, R373, R376). -/
def openBadAt (pl : List Byte) : Option Nat :=
  let maxSeg := beAt pl 2 2
  let win := beAt pl 4 2
  let prim := byteAt pl 6
  let mask := beAt pl 8 4
  if 2 < byteAt pl 0 then some 0
  else if 1 < byteAt pl 1 then some 1
  else if !within maxSeg 1024 8192 || maxSeg % 64 ≠ 0 then some 2
  else if !within win 16 2048 then some 4
  else if 16 < prim ∨ !bitAt mask prim then some 6
  else if 1 < byteAt pl 7 then some 7
  else if 2 ^ 17 ≤ mask ∨ 4 < ((List.range 17).filter (bitAt mask)).length then some 8
  else none

/-- The role answers BUSY to phase 1 (R371). -/
def State.roleBusy (s : State) (role : Nat) : Bool := s.ops.openBusy.any (fun e => e.1 = role && decide (s.tb < e.2))

/-- The refusal of a phase 1, in the order BAD_PARAM, AUTH, BUSY, ROLE, RESOURCE (R371). -/
def State.openRefuse (s : State) (pl : List Byte) : Option Rsp :=
  let role := byteAt pl 0
  let needSeal := bitAt (s.fld F.XPT_CFG_REQUIRE_SEAL) role
  match openBadAt pl with
  | some o => some (rspErr stBadParam o)
  | none =>
    if (s.roleKey role).isNone ∨ (byteAt pl 1 = 0 ∧ needSeal) then some (rspErr stAuth 0)
    else if s.roleBusy role then some (rspErr stBusy 0)
    else if rolePlaces role ≤ (s.sessions.filter (fun x => x.id.st ≠ 0 && x.id.role = role)).length then some (rspErr stRole 0)
    else if s.winFree < beAt pl 4 2 then some (rspErr stResource 0)
    else none

/-- The lowest free index. -/
def State.freeIndex (s : State) : Option Nat := (List.range 8).find? (fun k => (s.session k).id.st = 0)

/-- Phase 1 of SESSION_OPEN: the lowest free index held for 1,000 ms, with a SESSION_ID and N_D drawn (R371). SESSION_ID and N_D
are free values, assumption log 2. -/
def State.openPhase1 (s : State) (pl : List Byte) : State × Rsp :=
  if s.op = Op.boot then (s, rspErr stState 0)
  else if pl.length ≠ 28 then (s, rspErr stBadLength 0)
  else
    match s.openRefuse pl, s.freeIndex with
    | some r, _ => (s, r)
    | none, none => (s, rspErr stRole 0)
    | none, some k =>
      let (a, s) := s.draw
      let (b, s) := s.draw
      let id := a % (2 ^ 32 - 1) + 1
      let nD := be 16 b
      let prim := byteAt pl 6
      let x : SessId := { st := 1, role := byteAt pl 0, isSealed := byteAt pl 1 = 1, maxSeg := beAt pl 2 2, win := beAt pl 4 2,
                          primary := prim, stripe := byteAt pl 7 = 1, ports := if prim = 16 then 2 ^ 16 else beAt pl 8 4,
                          nH := slice pl 12 16, nD := nD, id := id, holdUntil := s.tb + 1000000000, sendPort := prim }
      let s := s.modSess k (fun _ => { id := x })
      ({ s with ops := { s.ops with openLate := s.ops.openLate.filter (fun e => e.1 ≠ k) } },
        rspOk (be 1 k ++ zeros 3 ++ be 4 id ++ nD))

/-- The HMAC input common to P_H, P_D and K_s after its label (R537). -/
def SessId.proofTail (x : SessId) (withRole : Bool) : List Byte :=
  x.nH ++ x.nD ++ be 4 x.id ++ (if withRole then be 1 x.role else [])

/-- P_H, P_D and K_s (R371, R372). -/
def SessId.proofH (x : SessId) (key : List Byte) : List Byte := (Config.hmacSha256 key (ascii "MOEVO-OPEN" ++ x.proofTail true)).take 16
def SessId.proofD (x : SessId) (key : List Byte) : List Byte := (Config.hmacSha256 key (ascii "MOEVO-DEV" ++ x.proofTail true)).take 16
def SessId.sealKey (x : SessId) (key : List Byte) : List Byte := Config.hmacSha256 key (ascii "MOEVO-SEAL" ++ x.proofTail false)

/-- The path of session `k` on a port set or updated (R364, R373). -/
def State.setPath (s : State) (k q : Nat) (src : HostAddr) : State :=
  s.modId k (fun x => { x with paths := assocSet q src x.paths })

/-- The job taken up by a new OWNER (01_system_overview.md R29, R384, R385). -/
def State.takeUp (s : State) (k : Nat) : State :=
  match s.prod.takeover with
  | none => s
  | some t =>
    if !s.op.inJob ∨ (s.session k).id.role ≠ 0 then s
    else
      let inspect := !s.job.scan
      let s := s.modTx k (fun x => { x with rend := t.1, reserved := true, gapRun := some ⟨t.2.1, none, 2, t.2.2, 0⟩,
                                            gapNext := if inspect then some 0 else none, reseamNext := !inspect })
      ({ s with prod := { s.prod with takeover := none } }).showAdmit

/-- Session `k` opened: its timers taken from their registers, its bank and its counters cleared, the others told (R371, R373,
R390, 15_command_set.md R404). -/
def State.openDone (s : State) (k q : Nat) (src : HostAddr) (key : List Byte) : State :=
  let x := (s.session k).id
  let y : SessId := { x with st := 2, ks := x.sealKey key, lastValid := s.tb, primarySeen := q = x.primary,
                             rto := s.fld F.XPT_TIMERS_RTO_US, idleMs := s.fld F.XPT_TIMERS_IDLE_MS, retryMax := s.fld F.XPT_CFG_RETRY_MAX,
                             beLag := s.fld F.XPT_CFG_BE_LAG, resume := s.fld F.XPT_CFG_RESUME_LAG, rr := 16 }
  let s := ((s.modSess k (fun _ => { id := y })).setPath k q src).clearSessRegs k
  let s := s.modId k (fun i => { i with sendPort := (s.choosePort k).getD i.primary })
  let s := (s.modBank (.sess k) (fun _ => {})).modCmd (.sess k) (fun _ => { next := 2 })
  (s.tellOthers k (s.sessRec k y.role 0)).takeUp k

/-- A place given up after a wrong proof or a late phase 2: the role answers BUSY to phase 1 for 100 ms (R371). -/
def State.openFail (s : State) (k role : Nat) : State :=
  let s := if (s.session k).id.st = 1 then s.modSess k (fun _ => {}) else s
  { s with ops := { s.ops with openBusy := (role, s.tb + 100000000) :: s.ops.openBusy.filter (fun e => e.1 ≠ role),
                               openLate := s.ops.openLate.filter (fun e => e.1 ≠ k) } }

/-- Phase 2 of SESSION_OPEN on index `k` (R371). -/
def State.openPhase2 (s : State) (k q : Nat) (src : HostAddr) (pl : List Byte) : State × Rsp :=
  let x := (s.session k).id
  if s.op = Op.boot then (s, rspErr stState 0)
  else if pl.length ≠ 20 then (s, rspErr stBadLength 0)
  else if !allZero (slice pl 1 3) then (s, rspErr stBadParam 1)
  else if x.st = 2 then (s, rspErr stAuth 0)
  else if x.st = 0 then
    match s.ops.openLate.find? (fun e => e.1 = k) with
    | some e => (s.openFail k e.2.1, rspErr stAuth 0)
    | none => (s, rspErr stAuth 0)
  else
    match s.roleKey x.role with
    | none => (s.openFail k x.role, rspErr stAuth 0)
    | some key =>
      if byteAt pl 0 = x.role ∧ slice pl 4 16 = x.proofH key ∧ s.tb ≤ x.holdUntil then
        (s.openDone k q src key, rspOk (x.proofD key))
      else (s.openFail k x.role, rspErr stAuth 0)

/-- The 1,000 ms of a held place are over (R371). -/
def State.openExpire (s : State) (k : Nat) : State :=
  let x := (s.session k).id
  if x.st = 1 ∧ x.holdUntil ≤ s.tb then
    let s := s.modSess k (fun _ => {})
    { s with ops := { s.ops with openLate := (k, x.role, x.id) :: s.ops.openLate.filter (fun e => e.1 ≠ k) } }
  else s

/-- The 100 ms of a role are over (R371). -/
def State.authBusyOver (s : State) (role : Nat) : State :=
  { s with ops := { s.ops with openBusy := s.ops.openBusy.filter (fun e => !(e.1 = role && decide (e.2 ≤ s.tb))) } }

/-- No valid segment for IDLE_MS (R374). -/
def State.idleOver (s : State) (k : Nat) : State :=
  let x := (s.session k).id
  if x.st = 2 ∧ x.lastValid + x.idleMs * 1000000 ≤ s.tb then s.endSession k 2 else s

/-- SESSION_CLOSE's check over the BMP: the session named must be open (15_command_set.md R406). -/
def State.closeCheck (s : State) (p : Path) (pl : List Byte) : State × Option Rsp :=
  match p with
  | .bmp => if s.sessOpen (byteAt pl 0) then (s, some (rspOk [])) else (s, some (rspErr stBadParam 0))
  | _ => (s, some (rspOk []))

/-- The session that a SESSION_CLOSE closes. -/
def closeTarget (p : Path) (pl : List Byte) : Option Nat :=
  match p with
  | .sess k => some k
  | .bmp => some (byteAt pl 0)
  | .fw => none

end Sys2Proof.Machine
end

