-- ==== Sys2Proof/Machine/Commands.lean ====
section
/-! DEFINITION. Commands (15_command_set.md R391 to R405, R414): their legality, their payload lengths, their execution and
replies, the packets that carry them, and what runs on between commands. -/

namespace Sys2Proof.Machine

/-! Legality (R414). -/

/-- The role of a path: 0 OWNER, 1 OBSERVER, 2 SERVICE, 3 the BMP, 4 firmware. -/
def State.pathRole (s : State) (p : Path) : Nat :=
  match p with
  | .sess k => s.roleOf k
  | .bmp => 3
  | .fw => 4

/-- IDLE or any state of a job. -/
def State.idleOrJob (s : State) : Bool := s.op = .idle || s.op.inJob

/-- The states in which an opcode is legal to a role, BOOT apart. -/
def State.opState (s : State) (op role : Nat) : Bool :=
  match op with
  | 0x0104 => s.job.defined && (s.op = .idle || (s.op.inJob && role = 1))
  | 0x0204 => s.calm
  | 0x0301 => s.op = .idle
  | 0x0302 => s.op = .idle
  | 0x0303 => s.op = .armed
  | 0x0304 => s.op = .running || s.op = .holding
  | 0x0305 => s.op.inJob
  | 0x0401 => (s.op = .idle || (s.op = .running && !s.job.scan)) && s.job.defined
  | 0x0402 => s.op = .idle
  | 0x0403 => s.op = .idle
  | 0x0404 => s.calm
  | 0x0405 => s.calm
  | 0x0501 => s.idleOrJob
  | 0x0502 => s.idleOrJob || s.op = .service
  | 0x0503 => s.idleOrJob
  | 0x0504 => s.idleOrJob
  | 0x0601 => s.idleOrJob || s.op = .service
  | 0x0602 => s.op = .service
  | 0x0701 => s.idleOrJob && s.job.defined
  | 0x0702 => s.idleOrJob || s.op = .service
  | 0x0703 => s.op = .running || s.op = .holding || s.op = .draining
  | 0x0801 => s.calm
  | 0x0802 => s.op = .idle
  | 0x0803 => s.op = .service && s.ops.update.isSome
  | 0x0804 => s.op = .service && s.ops.update.isSome
  | 0x0805 => s.calm || s.op = .faultHold
  | 0x0807 => s.calm
  | 0x0808 => s.op = .idle
  | 0x0809 => s.op = .service
  | 0x0901 => s.op = .idle
  | _ => true

/-- Path M in BOOT of a device whose firmware failed verification (17_security.md R438). -/
def State.recoveryPath (s : State) (p : Path) : Bool := s.op = .boot && p = .bmp && s.bit F.SEC_STATUS_RECOVERY

/-- Steps 5 to 7 of R397: the opcode, the role, the state; `stOk` where the command goes on. -/
def State.legal (s : State) (p : Path) (op : Nat) : Nat :=
  match opRoles op with
  | none => stBadOpcode
  | some roles =>
    let role := s.pathRole p
    if s.recoveryPath p then
      (if op = 0x0201 ∨ op = 0x0802 ∨ ((op = 0x0803 ∨ op = 0x0804) ∧ s.ops.update.isSome) then stOk else stState)
    else if !roles.contains role then stRole
    else if s.op = .boot ∧ p ≠ .fw then stState
    else if s.opState op role then stOk
    else stState

/-! Register commands (R403, R405). -/

/-- In recovery mode only the SYS and SEC blocks are read (17_security.md R438). -/
def recoveryReg (a : Nat) : Bool := decide (a < 0x10000) || (decide (0xD0000 ≤ a) && decide (a < 0xE0000))

/-- REG_READ. -/
def State.regReadCmd (s : State) (p : Path) (pl : List Byte) : CmdRes :=
  let as := (chunksOf 4 256 pl).map ofBe
  match (if s.recoveryPath p then indicesWhere (fun a => !recoveryReg a) 0 as else []) with
  | k :: _ => s.no stState (min 255 k)
  | [] =>
    match s.readList p as with
    | (s', vs, none) => s'.ok (vs.flatMap (be 4))
    | (_, _, some k) => s.no stBadParam k

/-- REG_WRITE. -/
def State.regWriteCmd (s : State) (p : Path) (pl : List Byte) : CmdRes :=
  let r := s.writeList p (pairsAt pl 0)
  if r.2.1 = stOk then r.1.ok else s.no r.2.1 r.2.2

/-- REG_MODIFY. -/
def State.regModifyCmd (s : State) (p : Path) (pl : List Byte) : CmdRes :=
  let r := s.modify p (beAt pl 0 4) (beAt pl 4 4) (beAt pl 8 4)
  if r.2.1 = stOk then r.1.ok (be 4 r.2.2) else s.no r.2.1

/-- ATTEST (17_security.md R441, R442). -/
def State.attestCmd (s : State) (pl : List Byte) : CmdRes :=
  match s.attest pl with
  | (s', some r) => s'.ok r
  | (_, none) => s.no stFault

/-! Execution (R399 to R401). -/

/-- Step 9 on: the command itself. SESSION_OPEN on an open session answers AUTH (14_host_network.md R371). -/
def State.runOp (s : State) (p : Path) (op : Nat) (pl : List Byte) : CmdRes :=
  match op with
  | 0x0101 => s.no stAuth
  | 0x0102 => s.closeCheck p pl
  | 0x0103 => s.attestCmd pl
  | 0x0104 => s.reserveBw p pl
  | 0x0201 => s.regReadCmd p pl
  | 0x0202 => s.regWriteCmd p pl
  | 0x0203 => s.regModifyCmd p pl
  | 0x0204 => s.tileBroadcast p pl
  | 0x0301 => s.jobDefine pl
  | 0x0302 => s.jobArm p
  | 0x0303 => s.jobStart p
  | 0x0304 => s.jobStop
  | 0x0305 => s.jobAbort p
  | 0x0401 => s.calEquinox p
  | 0x0402 => s.calAlign p pl
  | 0x0403 => s.calThermal p pl
  | 0x0404 => s.coefLoad p pl
  | 0x0405 => s.coefSave pl
  | 0x0501 => s.moveQueue pl
  | 0x0502 => s.moveHalt pl
  | 0x0503 => s.homeCmd pl
  | 0x0504 => s.axisEnable pl
  | 0x0601 => s.lumSet pl
  | 0x0602 => s.lumDiag p pl
  | 0x0701 => s.refRasterPut p pl
  | 0x0702 => s.verdictConfig p pl
  | 0x0703 => s.statsRead p
  | 0x0801 => s.configStore
  | 0x0802 => s.fwBegin p pl
  | 0x0803 => s.fwChunk p pl
  | 0x0804 => s.fwCommit p
  | 0x0805 => s.dumpRead pl
  | 0x0806 => s.faultLogRead pl
  | 0x0807 => s.bmvSubmit pl
  | 0x0808 => s.serviceBegin
  | 0x0809 => s.serviceEnd
  | 0x0901 => s.seasonSet pl
  | _ => s.no stBadOpcode

/-- The RSP segments of session `k` that are left when it closes go out before it ends (14_host_network.md R374). -/
def State.flushRsps (s : State) (k : Nat) : State :=
  (s.session k).tx.rsps.foldl (fun s r => s.sendRsp k r.port r) s

/-- The reply on its way out before what ends the session (18_power_startup.md R454, 17_security.md R438). -/
def State.flushPath (s : State) (p : Path) : State :=
  match p with
  | .sess k => s.flushRsps k
  | _ => s

/-- What follows the reply: a session closed (R374), Winter entered (R412), a recovered device restarted (17_security.md R438). -/
def State.afterReply (s : State) (p : Path) (op : Nat) (pl : List Byte) (r : Rsp) : State :=
  if r.status ≠ stOk then s
  else if op = 0x0102 then
    match closeTarget p pl with
    | some k => (s.flushRsps k).endSession k 1
    | none => s
  else if op = 0x0901 then (s.flushPath p).enterWinter
  else if op = 0x0804 ∧ s.op = .boot then (s.flushPath p).resetKeep
  else s

/-- Steps 5 to 11 of R397 for the command whose header runs on a path. -/
def State.execOp (s : State) (p : Path) (op : Nat) (pl : List Byte) : State :=
  let st := s.legal p op
  if st ≠ stOk then s.sendReply p (rspErr st 0)
  else if !opLenOk op p pl then s.sendReply p (rspErr stBadLength 0)
  else
    match s.runOp p op pl with
    | (s', some r) => (s'.sendReply p r).afterReply p op pl r
    | (s', none) => s'

/-- A command with header `h` begins on a path (R400). -/
def State.beginCmd (s : State) (p : Path) (h : Hdr) (pl : List Byte) : State :=
  (s.modCmd p (fun c => { c with run := some h })).execOp p h.op pl

/-- A path exists: an open session, the BMP, firmware. -/
def State.pathOpen (s : State) (p : Path) : Bool :=
  match p with
  | .sess k => s.sessOpen k
  | _ => true

/-- A command given to a path that is free (R401): a session's next command waits for the reply of its previous one. -/
def State.rowCommand (s : State) (p : Path) (op : Nat) (pl : List Byte) : State :=
  if s.asleep || !s.pathOpen p || (s.cmd p).run.isSome then s
  else s.beginCmd p { op := op, direct := true } pl

/-! Packets (R391 to R397). -/

/-- The fields of a packet's header. -/
def pktLen (b : List Byte) : Nat := beAt b 6 2
def pktCseq (b : List Byte) : Nat := beAt b 8 4
def pktOp (b : List Byte) : Nat := beAt b 0 2
def pktSealed (b : List Byte) : Bool := bitAt (byteAt b 5) 1
def pktBody (b : List Byte) : List Byte := slice b 16 (pktLen b)

/-- The header that the reply echoes. -/
def pktHdr (b : List Byte) (port : Nat) : Hdr :=
  { op := pktOp b, tag := beAt b 2 2, sess := byteAt b 4, cseq := pktCseq b, port := port, direct := false }

/-- Steps 1 to 3 of R397 under a key, for the SESSION that the packet must carry. -/
def pktCheck (key : Option (List Byte)) (b : List Byte) (sess : Nat) : Nat :=
  let l := b.take (16 + pktLen b)
  if 8192 < pktLen b ∨ b.length ≠ 32 + pktLen b then stBadLength
  else if pktSealed b ≠ key.isSome then stAuth
  else if b.drop (16 + pktLen b) ≠ pktTrailer key l then (if key.isSome then stAuth else stIntegrity)
  else if byteAt b 4 ≠ sess then (if sess = 0xFE then stBadParam else stAuth)
  else stOk

/-- A reply handed to a path's carrier without being kept: a refused packet (steps 1 to 4), or a kept reply again. -/
def State.replyNow (s : State) (p : Path) (h : Hdr) (key : Option (List Byte)) (r : Rsp) : State :=
  (s.emit (.reply p h.op r.status r.detail r.payload)).carry p h.port (replyChunks key h r)

/-- The kept reply of a repeat (R395). -/
def State.replyKept (s : State) (p : Path) (b : List Byte) (port : Nat) (x : Kept) : State :=
  let newest := ((s.cmd p).kept.head?).any (fun y => y.cseq = x.cseq) && (s.cmd p).run.isNone
  if x.chunks.length ≤ 1 then s.carry p port x.chunks
  else if newest then s.carry p port (x.chunks.drop (min (beAt b 14 2) (x.chunks.length - 1)))
  else s.replyNow p (pktHdr b port) (s.pathKey p) (rspErr stSequence 1)

/-- The key of a CMD segment's packet: phase 2 is never sealed (R392). -/
def State.cmdKey (s : State) (k seq : Nat) : Option (List Byte) := if seq = 1 then none else s.pathKey (.sess k)

/-- A repeat of a CMD segment (R375, R395): checked as R397 orders, then answered from what is kept. -/
def State.repeatCmd (s : State) (k : Nat) (b : List Byte) (seq port : Nat) : State :=
  let p := Path.sess k
  if b.length < 16 then s
  else
    let st := pktCheck (s.cmdKey k seq) b k
    if st ≠ stOk then s.replyNow p (pktHdr b port) (s.cmdKey k seq) (rspErr st 0)
    else if pktCseq b ≠ seq then s.replyNow p (pktHdr b port) (s.cmdKey k seq) (rspErr stSequence 0)
    else
      match (s.cmd p).kept.find? (fun x => x.cseq = seq) with
      | some x => s.replyKept p b port x
      | none => s

/-- A queued CMD segment whose turn has come (R375, R397). -/
def State.runSegment (s : State) (k : Nat) (c : QCmd) : State :=
  let p := Path.sess k
  let b := c.body
  if b.length < 16 then s
  else
    let key := s.cmdKey k c.seq
    let st := pktCheck key b k
    if st ≠ stOk then s.replyNow p (pktHdr b c.port) key (rspErr st 0)
    else if pktCseq b ≠ c.seq then s.replyNow p (pktHdr b c.port) key (rspErr stSequence 0)
    else s.beginCmd p (pktHdr b c.port) (pktBody b)

/-- The mailbox packet of the BMP whose turn has come (R394, R395, 16_management_buses.md R424). -/
def State.runPacket (s : State) (b : List Byte) : State :=
  let h := pktHdr b 0
  let c := s.cmd .bmp
  let st := pktCheck none b 0xFE
  if st ≠ stOk then s.replyNow .bmp h none (rspErr st 0)
  else
    match c.kept.find? (fun x => x.cseq = h.cseq) with
    | some x => s.replyKept .bmp b 0 x
    | none =>
      if c.anyOnce || h.cseq = c.next then
        (s.modCmd .bmp (fun c => { c with anyOnce := false, next := (h.cseq + 1) % 2 ^ 32 })).beginCmd .bmp h (pktBody b)
      else s.replyNow .bmp h none (rspErr stSequence 0)

/-- The command at the head of a path's queue, when the path is free. -/
def State.headOf (s : State) (p : Path) : Option QCmd :=
  let c := s.cmd p
  if c.run.isSome then none
  else
    match p with
    | .sess _ => c.queue.find? (fun q => q.seq = c.next)
    | _ => c.queue.head?

/-- The head of a path's queue runs. -/
def State.runHead (s : State) (p : Path) (q : QCmd) : State :=
  let s := s.modCmd p (fun c => { c with queue := c.queue.filter (fun x => x.seq ≠ q.seq),
                                         next := match p with
                                           | .sess _ => (q.seq + 1) % 2 ^ 32
                                           | _ => c.next })
  match p with
  | .sess k => s.runSegment k q
  | _ => s.runPacket q.body

/-- The paths of sessions and the BMP. -/
def allPaths : List Path := (List.range 8).map Path.sess ++ [.bmp]

/-- The first path with a command to run. -/
def State.readyPath (s : State) : Option (Path × QCmd) := allPaths.findSome? (fun p => (s.headOf p).map (fun q => (p, q)))

/-- Queued commands run one after the other, at most `fuel` of them. -/
def State.runQueues : Nat → State → State
  | 0, s => s
  | n + 1, s =>
    match s.readyPath with
    | none => s
    | some (p, q) => State.runQueues n (s.runHead p q)

/-! What runs on between commands (R400). -/

/-- An output line can be produced now (07_alignment_seams.md R193). -/
def State.canProduce (s : State) : Bool := s.producing && s.lineNext.any (fun n => !s.beyond n && s.inputsIn n)

/-- DRAINING has nothing more to take in: no exposure is open, no frame awaited, no line to be produced or judged. -/
def State.drainedIn (s : State) : Bool :=
  s.sched.cur.isNone && s.sched.expo.isNone && s.lanes.all (fun l => l.slot.isNone) && !s.canProduce && s.prod.tree.isEmpty

/-- DRAINING ends in IDLE once every open session has resolved every line (01_system_overview.md R19). -/
def State.drainCheck (s : State) : State :=
  if s.op = .draining ∧ s.drainedIn then
    let s := s.flushBins.pruneElastic
    if s.openSessions.all (fun k => (s.session k).tx.unresolved.isEmpty) then s.enterIdle else s
  else s

/-- Every operation in progress as far as it has come. -/
def State.pollOps (s : State) : State :=
  s.armProgress.eqxProgress.alignProgress.abortProgress.startProgress.diagProgress.bootProgress.serviceLost.drainCheck

/-- Nothing runs on: no queued command can run and no operation is in progress. -/
def State.quiet (s : State) : Bool :=
  s.readyPath.isNone && s.ops.arm.isNone && s.ops.eqx.isNone && s.ops.align.isNone && s.ops.abort.isNone && s.ops.startWait.isNone && s.ops.diag.isNone
    && !s.ops.bootWait && s.op ≠ .draining && ((s.op ≠ .service && !s.bmvUsed) || s.serviceOpen)

/-- The block between commands: operations in progress go on, queued commands run, and operations they started go on. -/
def settle (s : State) : State :=
  if s.quiet then s else ((State.runQueues 136 s.pollOps).pollOps)

end Sys2Proof.Machine
end

