-- ==== Sys2Proof/Machine/BmpOps.lean ====
section
/-! DEFINITION. The board management port (16_management_buses.md R422 to R429). -/

namespace Sys2Proof.Machine

/-- The pointer set. -/
def State.bmpPoint (s : State) (v : Nat) : State := { s with bmp := { s.bmp with ptr := v } }

/-- An incomplete packet discarded whole (R426, R427). -/
def State.bmpDiscard (s : State) : State :=
  (({ s with bmp := { s.bmp with inb := [] } }).setFld F.MBUS_BMP_STATUS_IN_DISCARD 1).count F.MBUS_BMP_DISCARD_CNT_COUNT

/-- A packet whose last byte has arrived waits to execute. -/
def State.bmpPacket (s : State) (b : List Byte) : State :=
  ({ s with bmp := { s.bmp with inb := [] } }).modCmd .bmp (fun c => { c with queue := c.queue ++ [QCmd.mk 0 0 b] })

/-- The packet under assembly as it stands: answered with BAD_LENGTH once its header shows a LENGTH above 8,192, handed on when it is
complete (R424). -/
def State.bmpGrown (s : State) : State :=
  let b := s.bmp.inb
  if b.length < 16 then s
  else if 8192 < pktLen b then
    ({ s with bmp := { s.bmp with inb := [], skip := true } }).replyNow .bmp (pktHdr b 0) none (rspErr stBadLength 0)
  else if b.length = 32 + pktLen b then s.bmpPacket b
  else s

/-- Bytes written to MBOX_IN, until one is NACKed (R424). -/
def State.bmpBytes : List Byte → State → State
  | [], s => s
  | b :: l, s =>
    if s.bmp.skip then State.bmpBytes l s
    else if s.bmp.inb.isEmpty && !s.bmpInReady then s.emit .bmpNack
    else State.bmpBytes l (({ s with bmp := { s.bmp with inb := s.bmp.inb ++ [b], lastByte := s.tb } }).bmpGrown)

/-- A write transaction to pointer 0x10, ended by a STOP or not (R424). -/
def State.mboxIn (s : State) (l : List Byte) (stop : Bool) : State :=
  let s := State.bmpBytes l (s.bmpPoint 0x10)
  if stop then { s with bmp := { s.bmp with skip := false } } else s

/-- `n` bytes read from MBOX_OUT: 0xFF from an empty FIFO, with OUT_UNDERRUN (R425). -/
def State.mboxRead (s : State) (n : Nat) : State :=
  let l := s.bmp.waiting
  let out := l.take n ++ List.replicate (n - l.length) 0xFF
  let s := (({ s with bmp := s.bmp.load (l.drop n) }).emit (.bmp out))
  if l.length < n then s.setFld F.MBUS_BMP_STATUS_OUT_UNDERRUN 1 else s

/-- A read transaction at pointer 0x11. -/
def State.mboxOut (s : State) (n : Nat) : State := (s.bmpPoint 0x11).mboxRead n

/-- A refused direct access (R428). -/
def State.directNo (s : State) (st : Nat) : State :=
  s.setFlds [(F.MBUS_BMP_STATUS_DIRECT_ERR, 1), (F.MBUS_BMP_STATUS_DIRECT_STATUS, st)]

/-- Registers written one after the other from address `a`, each once all 4 of its bytes have arrived (R428). -/
def State.directWrite : Nat → State → Nat → List Byte → State
  | 0, s, _, _ => s
  | k + 1, s, a, l =>
    if l.length < 4 then s
    else
      let r := s.writeAddr .bmp a (beAt l 0 4) false
      let s := if r.2 = stOk then r.1 else s.directNo r.2
      State.directWrite k s ((a + 4) % 2 ^ 24) (l.drop 4)

/-- The value of one register read directly; a refused read returns 0 (R428). -/
def State.directOne (s : State) (a : Nat) : State × Nat :=
  if s.op = .boot then (s.directNo stState, 0)
  else
    match s.readAddr .bmp a with
    | (s', some v) => (s', v)
    | (_, none) => (s.directNo stBadParam, 0)

/-- `k` registers read from address `a` (R428). -/
def State.directRead : Nat → State → Nat → State × List Byte
  | 0, s, _ => (s, [])
  | k + 1, s, a =>
    let r := s.directOne a
    let t := State.directRead k r.1 ((a + 4) % 2 ^ 24)
    (t.1, be 4 r.2 ++ t.2)

/-- `n` bytes of free values: what a write-only pointer returns is not stated. -/
def State.freeBytes : Nat → State → State × List Byte
  | 0, s => (s, [])
  | n + 1, s =>
    let r := s.draw
    let t := State.freeBytes n r.2
    (t.1, BitVec.ofNat 8 r.1 :: t.2)

/-- A read transaction of `n` bytes: it reads from the pointer of the last write transaction (R423). -/
def State.bmpRead (s : State) (n : Nat) : State :=
  match s.bmp.ptr with
  | 0x00 =>
    let v := sumN (((regAt 0xC0044).map (fun r => [s.regNow r.1 0 0 0])).getD [])
    s.emit (.bmp (List.replicate n (BitVec.ofNat 8 v)))
  | 0x01 => s.emit (.bmp ((List.replicate n (be 2 s.bmp.waiting.length)).flatten.take n))
  | 0x11 => s.mboxRead n
  | 0x20 =>
    let r := State.directRead (ceilDiv n 4) s s.bmp.regAddr
    r.1.emit (.bmp (r.2.take n))
  | _ =>
    let r := State.freeBytes n s
    r.1.emit (.bmp r.2)

/-- A pointer written with nothing after it: an unknown one is NACKed (R423). -/
def State.bmpPointer (s : State) (v : Nat) : State :=
  if [0x00, 0x01, 0x10, 0x11, 0x20, 0x3F].contains v then s.bmpPoint v else s.emit .bmpNack

/-- Direct register access (R428): 3 address bytes, then data; or a read; or a pointer. -/
def State.bmpReg (s : State) (x : BmpReg) : State :=
  match x with
  | .write l =>
    let s := s.bmpPoint 0x20
    if l.length < 3 then s
    else
      let a := beAt l 0 3
      State.directWrite (l.length / 4) { s with bmp := { s.bmp with regAddr := a } } a (l.drop 3)
  | .read n => s.bmpRead n
  | .point v => s.bmpPointer v

/-- A BMP reset (R429, 15_command_set.md R394, R404): its bank is cleared whole (21_register_map.md R527). -/
def State.bmpResetNow (s : State) : State :=
  let running := (s.cmd .bmp).run.isSome
  let s := s.modBank .bmp (fun _ => {})
  let s := s.modCmd .bmp (fun c => { c with queue := [], kept := [], anyOnce := true })
  { s with bmp := { dropReply := running } }

/-- A START or STOP inside a byte (R426): the byte and what it belonged to are discarded, and the pointer is 0x00. -/
def State.bmpBroken (s : State) (what : BmpByte) : State :=
  let s := s.bmpPoint 0
  match what with
  | .mbox => s.bmpDiscard
  | .reg => s
  | .other => s

/-- PKT_TIMEOUT_MS without an MBOX_IN byte (R427). -/
def State.pktLate (s : State) : State :=
  if !s.bmp.inb.isEmpty && decide (s.bmp.lastByte + s.fld F.MBUS_BMP_CFG_PKT_TIMEOUT_MS * 1000000 ≤ s.tb) then s.bmpDiscard else s

/-- SCL low for 35 ms inside a transaction addressed to the target (R427). -/
def State.bmpSclLow (s : State) : State :=
  let s := s.bmpPoint 0
  if s.bmp.inb.isEmpty then s else s.bmpDiscard

end Sys2Proof.Machine
end

