-- ==== Sys2Proof/Machine/XportOps.lean ====
section
/-! DEFINITION. Segments that the device receives and what its ports do (14_host_network.md R361, R362, R370 to R377, R386, R387). -/

namespace Sys2Proof.Machine

/-- The fields of a segment's common header (R365). -/
def segSess (b : List Byte) : Nat := byteAt b 2
def segSeq (b : List Byte) : Nat := beAt b 4 4
def segId (b : List Byte) : Nat := beAt b 8 4
def segLen (b : List Byte) : Nat := beAt b 12 2

/-- The common header of a segment of a type with a trailer of `n` bytes is right (R370). -/
def segForm (b : List Byte) (type n : Nat) : Bool :=
  decide (16 ≤ b.length) && byteAt b 0 = 0x10 && byteAt b 1 = type && decide (byteAt b 3 < 4) && beAt b 14 2 = 0
    && b.length = 16 + segLen b + n

/-- The port takes the frame (R360). -/
def frameFits (f : Frame) : Bool := decide (f.octets ≤ 9216) && !f.fcs && !f.frag && !f.ext

/-- The frame holds a Moevo segment (R363): raw Ethernet, or a datagram whose destination is the NET_UDP_PORT that the port came up with and whose checksum is right. -/
def State.frameMoevo (s : State) (q : Nat) (f : Frame) : Bool := f.src.enc = .raw || ((s.port q).live.any (fun c => f.dstPort = c.udp) && !f.sum)

/-- A frame on port `q`: its codewords counted (R389), discarded and counted where the port does not take it (R360), and its segment
handed on (R363). -/
def State.frameIn (s : State) (q : Nat) (f : Frame) (act : State → State) : State :=
  if !s.portUp q then s
  else
    let s := if s.bit F.NET_PORT_STATUS_FEC_LOCK q then
        (s.count F.NET_FEC_CE_CNT_COUNT q f.fecCe).count F.NET_FEC_UE_CNT_COUNT q f.fecUe
      else s
    if !frameFits f then s.count F.NET_RX_DROP_CNT_COUNT q
    else if s.frameMoevo q f then act s
    else s

/-- A received segment discarded (R370). -/
def State.dropSeg (s : State) (b : List Byte) : State :=
  if 3 ≤ b.length ∧ segSess b < 8 then s.count F.XPT_RX_DROP_CNT_COUNT (segSess b) else s

/-- A valid segment of an open session: its path and the idle time (R364, R373, R374, R387). -/
def State.touch (s : State) (k q : Nat) (src : HostAddr) : State :=
  ((s.setPath k q src).modId k (fun x => { x with lastValid := s.tb, primarySeen := x.primarySeen || q = x.primary })).movePort k

/-! CMD segments (R371, R375). -/

/-- A reply sent straight to the host that asked: phase 1, and a phase 2 that opens nothing. -/
def State.replyTo (s : State) (q : Nat) (src : HostAddr) (k id : Nat) (h : Hdr) (r : Rsp) : State :=
  let s := s.emit (.reply (.sess k) h.op r.status r.detail r.payload)
  s.sendTo q src clsCtrl (segmentOf 0x02 k 0 0 id (replyChunk none h r r.payload 0 false))

/-- A segment with SESSION 0xFF: phase 1 of SESSION_OPEN (R371, R394). -/
def State.openSegment (s : State) (q : Nat) (src : HostAddr) (b : List Byte) : State :=
  let h := pktHdr b q
  if b.length < 16 ∨ h.op ≠ 0x0101 then s
  else
    let st := pktCheck none b 0xFF
    if st ≠ stOk then s.replyTo q src 0xFF 0 h (rspErr st 0)
    else if h.cseq ≠ 0 then s.replyTo q src 0xFF 0 h (rspErr stSequence 0)
    else
      let r := s.openPhase1 (pktBody b)
      r.1.replyTo q src 0xFF 0 h r.2

/-- Phase 2 on an index that is held, or whose place has expired; its reply is the first RSP of the session (R371, R373). -/
def State.proofSegment (s : State) (k q id : Nat) (src : HostAddr) (b : List Byte) : State :=
  let h := pktHdr b q
  if b.length < 16 ∨ h.op ≠ 0x0101 then s
  else
    let st := pktCheck none b k
    if st ≠ stOk then s.replyTo q src k id h (rspErr st 0)
    else if h.cseq ≠ 1 then s.replyTo q src k id h (rspErr stSequence 0)
    else
      let r := s.openPhase2 k q src (pktBody b)
      if r.2.status = stOk then
        let cs := replyChunks none h r.2
        let s := r.1.modCmd (.sess k) (fun c => { c with kept := [Kept.mk 1 cs] })
        (s.emit (.reply (.sess k) h.op r.2.status r.2.detail r.2.payload)).carry (.sess k) q cs
      else r.1.replyTo q src k id h r.2

/-- A CMD segment of an open session (R375). -/
def State.sessSegment (s : State) (k q : Nat) (src : HostAddr) (seq : Nat) (body : List Byte) (b : List Byte) : State :=
  let c := s.cmd (.sess k)
  let d := (seq + 2 ^ 32 - c.next) % 2 ^ 32
  if d < 16 then
    let s := s.touch k q src
    if c.queue.any (fun x => x.seq = seq) then s
    else s.modCmd (.sess k) (fun c => { c with queue := c.queue ++ [QCmd.mk seq q body] })
  else if c.run.any (fun h => h.cseq = seq) then s.touch k q src
  else if c.kept.any (fun x => x.cseq = seq) then (s.touch k q src).repeatCmd k body seq q
  else s.dropSeg b

/-- A CMD segment on port `q` (R370, R371, R375). -/
def State.cmdSegmentIn (s : State) (q : Nat) (src : HostAddr) (b : List Byte) : State :=
  if !s.portUp q then s
  else if !segForm b 0x01 4 || !crc32Ok b then s.dropSeg b
  else
    let k := segSess b
    let body := slice b 16 (segLen b)
    let x := (s.session k).id
    if k = 0xFF then (if segSeq b = 0 ∧ segId b = 0 then s.openSegment q src body else s)
    else if 8 ≤ k then s
    else if x.st = 2 then
      (if segId b = x.id ∧ bitAt x.ports q then s.sessSegment k q src (segSeq b) body b else s.dropSeg b)
    else
      let held := (x.st = 1 && segId b = x.id && bitAt x.ports q) || s.ops.openLate.any (fun e => e.1 = k && e.2.2 = segId b)
      if held && segSeq b = 1 && pktOp body = 0x0101 then s.proofSegment k q (segId b) src body else s.dropSeg b

/-- SESSION_OPEN phase 1 as a command: the reply is recorded. -/
def State.openFirst (s : State) (pl : List Byte) : State :=
  let r := s.openPhase1 pl
  r.1.emit (.reply (.sess 0xFF) 0x0101 r.2.status r.2.detail r.2.payload)

/-- SESSION_OPEN phase 2 as a command, on a port of the session's PORT_MASK that is up. -/
def State.openSecond (s : State) (k q : Nat) (src : HostAddr) (pl : List Byte) : State :=
  if 8 ≤ k ∨ !s.portUp q ∨ ((s.session k).id.st ≠ 0 ∧ !bitAt (s.session k).id.ports q) then s
  else
    let r := s.openPhase2 k q src pl
    r.1.emit (.reply (.sess k) 0x0101 r.2.status r.2.detail r.2.payload)

/-! ACK and CREDIT segments (R369, R370, R376, R377). -/

/-- The trailer of an ACK or CREDIT: 0 good, 1 wrong, 2 a bad tag. -/
def State.ctlTrailer (s : State) (k : Nat) (b : List Byte) (type : Nat) : Nat :=
  let x := (s.session k).id
  if x.isSealed then
    if !segForm b type 16 || !bitAt (byteAt b 3) 1 then 1
    else if b.drop (b.length - 16) = (Config.hmacSha256 x.ks (b.take (b.length - 16))).take 16 then 0
    else 2
  else if segForm b type 4 && crc32Ok b then 0
  else 1

/-- A bad tag counted; the sixteenth in a row raises AUTH_FAIL (R370). -/
def State.badTag (s : State) (k : Nat) : State :=
  let n := (s.session k).id.badTags + 1
  let s := (s.modId k (fun x => { x with badTags := n })).count F.XPT_AUTH_FAIL_CNT_COUNT k
  if n = 16 then s.burgee 0x0B clsWarn 1 k else s

/-- The checks that an ACK and a CREDIT share (R370): none where the segment is discarded, with the state it leaves. -/
def State.ctlSegment (s : State) (q : Nat) (src : HostAddr) (b : List Byte) (type : Nat) (bodyOk : Bool) : State × Option Nat :=
  let k := segSess b
  let x := (s.session k).id
  if !s.portUp q then (s, none)
  else if 8 ≤ k ∨ x.st ≠ 2 ∨ segId b ≠ x.id ∨ !bitAt x.ports q then (s.dropSeg b, none)
  else
    match s.ctlTrailer k b type with
    | 0 =>
      let s := s.modId k (fun x => { x with badTags := 0 })
      if !bodyOk ∨ (s.session k).tx.ctl.any (fun c => !seqBelow c (segSeq b)) then (s.dropSeg b, none)
      else ((s.modTx k (fun x => { x with ctl := some (segSeq b) })).touch k q src, some k)
    | 2 => ((s.dropSeg b).badTag k, none)
    | _ => (s.dropSeg b, none)

/-- The selective blocks of an ACK (R369). -/
def ackBlocks (b : List Byte) : List (Nat × Nat) :=
  (List.range (byteAt b 17)).map (fun k => (beAt b (24 + 8 * k) 4, beAt b (28 + 8 * k) 4))

/-- The body of an ACK is right. -/
def ackForm (b : List Byte) : Bool :=
  (byteAt b 16 = 3 || byteAt b 16 = 4) && decide (byteAt b 17 ≤ 16) && beAt b 18 2 = 0 && segLen b = 8 + 8 * byteAt b 17

/-- An ACK segment. -/
def State.ackIn (s : State) (q : Nat) (src : HostAddr) (b : List Byte) : State :=
  match s.ctlSegment q src b 0x05 (ackForm b) with
  | (s', some k) => s'.ackStream k (byteAt b 16) (beAt b 20 4) (ackBlocks b)
  | (s', none) => s'

/-- A CREDIT segment (R376). -/
def State.creditIn (s : State) (q : Nat) (src : HostAddr) (b : List Byte) : State :=
  match s.ctlSegment q src b 0x06 (segLen b = 8 && beAt b 20 4 = 0) with
  | (s', some k) => s'.modTx k (fun x => { x with limit := beAt b 16 4 })
  | (s', none) => s'

/-! Ports (R361, R386, R387). -/

/-- The session moves back to PRIMARY (R387). -/
def State.failBack (s : State) (k : Nat) : State :=
  let x := (s.session k).id
  if x.st = 2 ∧ x.sendPort ≠ x.primary ∧ (s.livePorts k).contains x.primary ∧ x.primarySeen ∧
      (s.port x.primary).upAt + s.fld F.XPT_FAILBACK_MS * 1000000 ≤ s.tb then
    (s.modId k (fun y => { y with sendPort := y.primary })).pushRec k (s.portRec x.primary 2)
  else s

/-- A record for every open session. -/
def State.tellAll (s : State) (r : List Byte) : State := s.openSessions.foldl (fun s k => s.pushRec k r) s

/-- A port declared down (R361, R386). The condition arose at most 10 µs ago, and 10 ms without one must pass before the port is up
again (assumption log 190). -/
def State.portFell (s : State) (q : Nat) : State :=
  if !s.portUp q then s
  else
    let s := s.setFlds [(F.NET_PORT_STATUS_UP, 0), (F.NET_PORT_STATUS_AN_DONE, 0), (F.NET_PORT_STATUS_TRAIN_DONE, 0),
      (F.NET_PORT_STATUS_FEC_LOCK, 0), (F.NET_PORT_STATUS_DOWN_LATCH, 1)] q
    let s := ((s.count F.NET_LINK_DOWN_CNT_COUNT q).modPort q (fun p => { p with live := none, upAt := s.tb + 9990000 })).burgee 0x0A clsWarn 1 q
    let s := s.tellAll (s.portRec q 0)
    s.openSessions.foldl (fun s k =>
      let s := (s.modTx k (fun x => x.againOn q)).modId k (fun x => { x with primarySeen := x.primarySeen && x.primary ≠ q })
      s.movePort k) s

/-- A port's registers as a port that comes up takes them (R389). -/
def State.portCfg (s : State) (q : Nat) : PortCfg :=
  { udp := s.fld F.NET_UDP_PORT_PORT, mode := s.portMode q, vlan := s.bit F.NET_PORT_CFG_VLAN_EN q, vid := s.fld F.NET_PORT_VLAN_VID q,
    pcp := [s.fld F.NET_QOS_PCP_CTRL, s.fld F.NET_QOS_PCP_OWNER, s.fld F.NET_PORT_CFG_PCP_OBS q],
    dscp := [s.fld F.NET_QOS_DSCP_CTRL, s.fld F.NET_QOS_DSCP_OWNER, s.fld F.NET_QOS_DSCP_OBS],
    mac := s.fld F.NET_MAC_HI_MAC q * 2 ^ 32 + s.fld F.NET_MAC_LO_MAC q, ip4 := s.fld F.NET_IPV4_ADDR q,
    ip6 := (List.range 4).foldl (fun a k => a * 2 ^ 32 + s.fldAt F.NET_IPV6_k_ADDR k q) 0 }

/-- A port comes up (R359, R361, R386): the mode of its port runs, and the device is neither in Winter nor in recovery mode. -/
def State.portRose (s : State) (q : Nat) : State :=
  let c := s.portCfg q
  if 17 ≤ q ∨ s.portUp q ∨ c.mode = 0 ∨ s.linkMuted q ∨ !s.controlUp ∨ s.tb < (s.port q).upAt then s
  else
    let fec := c.mode = 1 || c.mode = 2 || ((c.mode = 3 || c.mode = 4) && s.bit F.NET_PORT_CFG_FEC_EN q)
    let s := s.setFlds [(F.NET_PORT_STATUS_UP, 1), (F.NET_PORT_STATUS_AN_DONE, 1), (F.NET_PORT_STATUS_TRAIN_DONE, b2n (decide (c.mode ≤ 4))),
      (F.NET_PORT_STATUS_FEC_LOCK, b2n fec)] q
    let s := s.modPort q (fun p => { p with live := some c, upAt := s.tb })
    let s := s.tellAll (s.portRec q 1)
    s.openSessions.foldl State.movePort s

/-- The link-local address that a MAC address forms (R362, modified EUI-64). -/
def linkLocal (mac : Nat) : Nat :=
  0xFE80 * 2 ^ 112 + Nat.xor (mac / 2 ^ 24) 0x020000 * 2 ^ 40 + 0xFFFE * 2 ^ 24 + mac % 2 ^ 24

/-- An ARP request (R362); an address register at 0 holds no address (18_power_startup.md R463). -/
def State.arpIn (s : State) (q mac ip target : Nat) : State :=
  match (s.port q).live with
  | none => s
  | some c => if target = c.ip4 ∧ c.ip4 ≠ 0 then s.emit (.arpReply q c.mac c.ip4 mac ip) else s

/-- A Neighbour Solicitation (R362). -/
def State.solicitIn (s : State) (q mac ip target : Nat) : State :=
  match (s.port q).live with
  | none => s
  | some c => if (target = c.ip6 ∧ c.ip6 ≠ 0) ∨ target = linkLocal c.mac then s.emit (.neighbourAdv q c.mac target mac ip) else s

/-- A thinning episode's end (R382). -/
def State.thinOver (s : State) (k : Nat) : State := if s.sessOpen k then s.thinClear k else s

/-- At a segment boundary of a port that is up (R378). -/
def State.portSend (s : State) (q : Nat) : State := if s.portUp q then s.sendNext q else s

end Sys2Proof.Machine
end

