-- ==== Sys2Proof/Machine/EventOps.lean ====
section
/-! DEFINITION. Events: encoder edges (04_position_scheduler.md R98 to R101), the instants that end an operation's phase, a driver
left without light (05_illumination.md R138), PRBS checkers (03_triry_link.md R89), and single register accesses
(15_command_set.md R403). An event whose condition does not hold changes nothing but the time. -/

namespace Sys2Proof.Machine

/-! Encoders (R98 to R101). -/

/-- The scheduler and its encoders run on the timebase. -/
def State.uncUp (s : State) : Bool := s.season domUnc = .summer

/-- A and B accepted in the same nanosecond (R98). -/
def State.quadError (s : State) (k : Nat) : State :=
  let s := (s.count F.ENC_QUAD_ERR_CNT_COUNT k).setFld F.ENC_STATUS_QUAD_ERR 1 k
  if k = s.masterIdx ∧ s.uncUp then (s.setFld F.SCHED_STATUS_MASTER_QUAD_ERR 1).burgee 4 clsWarn 1 else s

/-- A media stop of an Equinox run in RUNNING ends when the master has moved REV_PC (08_calibration.md R226). -/
def State.mediaMoved (s : State) : State :=
  match s.ops.eqx with
  | some e =>
    if e.src = 2 ∧ e.phase ≤ 6 ∧ (s.fld F.SCHED_REV_REV_PC : Int) ≤ (wrapS 48 (s.masterPos - e.startPos)).natAbs then
      s.eqxFail { e with reason := 7 }
    else s
  | none => s

/-- The time of encoder `k`'s glitch filters in ns: 5 × (FILT + 1), and 80 in Winter (R96, R101). -/
def State.encFilter (s : State) (k : Nat) : Nat := if s.uncUp then 5 * (s.fld F.ENC_CFG_FILT k + 1) else 80

/-- One signal at its filter (R96, R101): the level after it, and the instant of the last change accepted. A change that follows the
last one by less than the filter's time ends a pulse that the filter removes. Assumption log 166. -/
def State.filtered (s : State) (k : Nat) (old new : Bool) (last : Option Nat) : Bool × Option Nat :=
  if old = new ∨ last.any (fun t => decide (s.tb < t + s.encFilter k)) then (old, last) else (new, some s.tb)

/-- The samples of an encoder's inputs are 1 ns apart, and 40 ns in Winter (R96, R101): the other signal was accepted in this one. -/
def State.sameSample (s : State) (last : Option Nat) : Bool :=
  let w := if s.uncUp then 1 else 40
  last.any (fun t => t / w = s.tb / w)

/-- The levels of A and B of encoder `k` as they leave the filters (R97 to R101): an edge counts, two in one sample do not. -/
def State.encLevels (s : State) (k : Nat) (a b : Bool) : State :=
  let e := s.enc k
  let (a, ta) := s.filtered k e.a a e.ta
  let (b, tb) := s.filtered k e.b b e.tb
  let s := s.modEnc k (fun x => { x with a := a, b := b, ta := ta, tb := tb, step := 0 })
  if 8 ≤ k ∨ !s.bit F.ENC_CFG_ENABLE k ∨ (a = e.a ∧ b = e.b) then s
  else if a ≠ e.a ∧ b ≠ e.b then s.quadError k
  else if e.step ≠ 0 ∧ s.sameSample (if a = e.a then e.ta else e.tb) then
    (s.modEnc k (fun x => { x with pos := wrapS 48 (x.pos - e.step) })).quadError k
  else
    let up := Bool.xor (phaseUp e.a e.b a b) (s.bit F.ENC_CFG_INVERT_DIR k)
    let t := s.tb - s.encFilter k
    let s := s.encMove k up (if s.uncUp then some t else none)
    if k = s.masterIdx ∧ s.uncUp then (s.masterEdge t s.masterPos).mediaMoved else s

/-- The level of Z of encoder `k` at its filter (R96, R100), which is also the home switch of the axes that name it (10_motion.md R293). -/
def State.encIndex (s : State) (k : Nat) (z : Bool) : State :=
  let e := s.enc k
  let (z, tz) := s.filtered k e.z z e.tz
  let s := s.modEnc k (fun x => { x with z := z, tz := tz })
  let s := if k < 8 ∧ z ≠ e.z ∧ s.bit F.ENC_CFG_ENABLE k ∧ s.bit F.ENC_CFG_Z_EN k ∧ z = !s.bit F.ENC_CFG_Z_POL k ∧
      !s.bit F.ENC_STATUS_INDEX_SEEN k then
      let p := ofSigned 48 e.pos
      s.setFlds [(F.ENC_INDEX_POS_LO_POS, p), (F.ENC_INDEX_POS_HI_POS, p / 2 ^ 32), (F.ENC_STATUS_INDEX_SEEN, 1)] k
    else s
  s.searchInput k

/-- The level of a home switch (10_motion.md R293): that of the index input which the axis names. -/
def State.homeLevel (s : State) (ax : Nat) (level : Bool) : State :=
  if 8 ≤ ax then s else s.encIndex (s.fld F.MOT_AXIS_HOME_INPUT ax) level

/-! Illumination. -/

/-- A refresh begins where one is due, and not while a control pair recovers (19_faults_recovery.md R477). -/
def State.refreshTurn (s : State) (c : Nat) (flips : List Nat) : State :=
  if decide (c < 4) && s.refreshDue c && !s.pairDown then s.refreshBegin c flips else s

/-- The returned stream of a chain (05_illumination.md R132, R136): every driver has appended its status slot. -/
def State.refreshStream (s : State) (c : Nat) (r : RingReturn) : State :=
  if decide (4 ≤ c) || !(s.chain c).waiting then s
  else
    let (back, s) := s.ringStatus c (match r with
      | .slots l => l
      | .raw _ => [])
    let bits := match r with
      | .slots _ => back
      | .raw bits => bits
    if streamOk bits (s.chainCount c) then s.refreshPass c (statusSlots bits (s.chainCount c)) else s.refreshFail c

/-- The commit mark that is due on a chain (R135). -/
def State.markTurn (s : State) (c : Nat) (ret : MarkReturn) : State :=
  match (s.chain c).markDue with
  | some d => if d ≤ s.tb then s.sendMark c ret else s
  | none => s

/-- 20 ms without a frame or a gate at a driver (R138). -/
def State.driverLate (s : State) (d : Nat) : State :=
  if (s.driver d).fitted ∧ (s.driver d).lastSeen + 20000000 ≤ s.tb then s.driverDark d else s

/-! Lines and engines. -/

/-- A customer kernel at its budget (06_engines_shading.md R158): its words are the identity values for the line. -/
def State.kernelStop (s : State) (i : Nat) : State :=
  if s.kernelRuns ∧ !s.prod.tree.isEmpty ∧ s.inSpan i ∧ !(s.eng i).kernelOver then
    (s.modEng i (fun e => { e with kernelOver := true })).count F.PIPE_KERNEL_OVERRUN_CNT_COUNT
  else s

/-- Engine `i` has checked a bank (R178): for PIPE_BANK_CTRL.VERIFY, or within an Equinox run. -/
def State.bankChecked (s : State) (i : Nat) : State :=
  match s.ops.checks.find? (fun x => x.1 = i) with
  | some x =>
    let s := s.verifyBank i x.2
    ({ s with ops := { s.ops with checks := s.ops.checks.filter (· ≠ x) } }).noteVerify
  | none =>
    match s.ops.eqx with
    | some e => if e.phase = 6 ∧ e.checking.contains i then s.eqxVerified e i else s
    | none => s

/-! Calibration. -/

/-- The last white line of an Equinox run is in (08_calibration.md R222). -/
def State.captureTurn (s : State) : State :=
  match s.ops.eqx with
  | some e => if e.phase = 5 ∧ e.src ≠ 4 ∧ s.captureOver then s.eqxCaptured e else s
  | none => s

/-- The alignment target has passed (R230). -/
def State.targetPassed (s : State) : State :=
  match s.ops.align with
  | some a => if a.capturing then s.alignCaptured a else s
  | none => s

/-- The target has not reached zone A within TIMEOUT_MS (R227, 21_register_map.md R533). -/
def State.targetLate (s : State) : State :=
  match s.ops.align with
  | some a => if a.capturing ∧ s.noEdges ∧ a.t0 + 1000000 * a.timeout ≤ s.tb then s.opDone 2 1 else s
  | none => s

/-- A point of the thermal sweep (R233): its capture begins, or is taken up once its last white line is in. -/
def State.thermTurn (s : State) : State :=
  match s.ops.therm, s.ops.eqx with
  | some h, none => if h.points.isEmpty || s.thermDue h then s.eqxStart 4 h.path else s
  | some h, some e => if e.phase = 5 ∧ s.captureOver then s.thermTaken h e else s
  | none, _ => s

/-- TIMEOUT_S of a CAL_THERMAL (R233). -/
def State.thermLate (s : State) : State :=
  match s.ops.therm with
  | some h => if h.t0 + 1000000000 * h.timeout ≤ s.tb then s.stripReturn.opDone 2 1 else s
  | none => s

/-! Discovery, PRBS checkers. -/

/-- The pass of once a second in IDLE and SERVICE (03_triry_link.md R79). -/
def State.discoveryTurn (s : State) : State := if s.calm && !s.discovering then s.discover else s

/-- The lanes of port `q` that carry data (14_host_network.md R359): four in 100G mode, else one. -/
def State.portLanes (s : State) (q : Nat) : Nat :=
  if s.fld F.NET_PORT_CFG_MODE q = 1 ∨ s.fld F.NET_PORT_CFG_MODE q = 2 then 4 else 1

/-- The polynomial of a checker that runs (R89, 14_host_network.md R388), as its degree and its tap. PRBS9 is x^9 + x^5 + 1: assumption
log 162. -/
def State.prbsPoly (s : State) (u : PrbsUnit) : Option (Nat × Nat) :=
  match u with
  | .lane i =>
    if 512 ≤ i then none
    else match s.fld F.TILE_LANE_CTRL_PRBS i with
      | 1 => some (7, 6)
      | 2 => some (31, 28)
      | _ => none
  | .port q k =>
    if 17 ≤ q ∨ s.portLanes q ≤ k then none
    else match s.fld F.NET_PORT_TEST_PRBS q with
      | 1 => some (7, 6)
      | 2 => some (9, 5)
      | 3 => some (31, 28)
      | _ => none

/-- The checker as it stands. -/
def State.prbsOf (s : State) (u : PrbsUnit) : Prbs :=
  match u with
  | .lane i => (s.lane i).prbs
  | .port q k => nthD {} (s.port q).prbs k

/-- The checker after some bits in which it counted `n` errors, with PRBS_LOCK, a port's when every lane of it is locked. -/
def State.setPrbs (s : State) (u : PrbsUnit) (p : Prbs) (n : Nat) : State :=
  match u with
  | .lane i =>
    ((s.modLane i (fun l => { l with prbs := p })).count F.TILE_PRBS_ERR_COUNT i n).setFld F.TILE_LANE_STATUS_PRBS_LOCK (b2n p.locked) i
  | .port q k =>
    let s := (s.modPort q (fun x => { x with prbs := modifyNth (fun _ => p) k x.prbs })).count F.NET_PRBS_ERR_COUNT q n
    s.setFld F.NET_PORT_STATUS_PRBS_LOCK (b2n (((s.port q).prbs.take (s.portLanes q)).all (·.locked))) q

/-- Received bits at a checker that runs (R89). -/
def State.checkBits (s : State) (u : PrbsUnit) (bits : List Bool) : State :=
  match s.prbsPoly u with
  | some (deg, tap) =>
    let r := (s.prbsOf u).run deg tap bits
    s.setPrbs u r.1 r.2
  | none => s

/-! The excitation channels and the converters, by their number. -/

def State.shortTurn (s : State) (x : Nat) : State := if x < 8 ∧ s.uncUp ∧ s.exOn x then s.exShorted x else s
def State.leadTurn (s : State) (k : Nat) : State := if k < 4 then s.leadOver k else s
def State.convTurn (s : State) (k : Nat) (code : Int) (brk clip : Bool) : State := if k < 4 then s.convEnd k code brk clip else s
def State.urgentTurn (s : State) (k : Nat) (code : Int) (brk clip : Bool) : State := if k < 4 then s.urgentOver k code brk clip else s

/-! Single register accesses. -/

/-- One register written through a path, as a REG_WRITE of one entry. -/
def State.rowWrite (s : State) (p : Path) (addr v : Nat) : State := s.rowCommand p 0x0202 (be 4 addr ++ be 4 v)

/-- One register read through a path, as a REG_READ of one entry; the value is recorded. -/
def State.rowRead (s : State) (p : Path) (addr : Nat) : State :=
  if s.asleep || !s.pathOpen p || (s.op = .boot && p ≠ .fw && !(s.recoveryPath p && recoveryReg addr)) then s
  else
    match s.readAddr p addr with
    | (s', some v) => s'.emit (.value p addr v)
    | (_, none) => s

/-- A field of the instance that a path selects, 0 under broadcast or out of range. -/
def State.selFld (s : State) (p : Path) (w : Win) (f : Fld) : Nat :=
  let i := s.selOf p (winIdx w)
  if i < winCount w then s.fld f i else 0

/-- LOOPBACK and PRBS of the lane and of the port that a path selects. -/
def State.loopOf (s : State) (p : Path) : Nat := s.selFld p .tile F.TILE_LANE_CTRL_LOOPBACK
def State.lanePrbsOf (s : State) (p : Path) : Nat := s.selFld p .tile F.TILE_LANE_CTRL_PRBS
def State.portLoopOf (s : State) (p : Path) : Nat := s.selFld p .port F.NET_PORT_TEST_LOOPBACK
def State.portPrbsOf (s : State) (p : Path) : Nat := s.selFld p .port F.NET_PORT_TEST_PRBS

/-- The descriptor fields of BMV_CTRL of channel `c` as they stand. -/
def State.bmvWord (s : State) (c : Nat) : Nat :=
  s.fld F.BMV_CTRL_OP c + s.fld F.BMV_CTRL_REPEAT c * 4 + s.fld F.BMV_CTRL_EV c * 2 ^ 11 + s.fld F.BMV_CTRL_EV_EN c * 2 ^ 17

/-- Firmware's read of MON_DATA of converter `k` (12_bar_monitor.md R318). -/
def State.monTake (s : State) (k : Nat) : State := if k < 4 then (s.rowRead .fw (0x70048 + 0x20 * k)).monRead k else s

/-- One of the registers at `addr` that a rule names by an index below `n`. -/
def State.indexedWrite (s : State) (p : Path) (addr step n i v : Nat) : State := if i < n then s.rowWrite p (addr + step * i) v else s

/-- A select register written (21_register_map.md R523). -/
def State.selectWrite (s : State) (p : Path) (sel v : Nat) : State := if sel < 7 then s.rowWrite p (selAddr sel) v else s

/-- BMV_CTRL.GO of channel `c` with the other fields of `v`, by firmware (13_memory_block_mover.md R347). -/
def State.moverGo (s : State) (c v : Nat) : State := s.indexedWrite .fw 0x90114 0x80 8 c (v ||| 2 ^ 18)

/-- BMV_CTRL.ABORT of channel `c`, its other fields as they stand, by firmware (R355). -/
def State.moverAbort (s : State) (c : Nat) : State := s.indexedWrite .fw 0x90114 0x80 8 c (s.bmvWord c + 2 ^ 19)

/-- A read of MON_FORCE of converter `k` (12_bar_monitor.md R319). -/
def State.forceRead (s : State) (p : Path) (k : Nat) : State := if k < 4 then s.rowRead p (0x7004C + 0x20 * k) else s

/-- One of the fatal causes 1 to 8 (19_faults_recovery.md R486). -/
def State.fatalOf (s : State) (cause : Nat) : State := if cause = 0 ∨ 8 < cause then s else s.fatal cause

/-! How a command runs. -/

/-- A command packet's command on its path (15_command_set.md R401). -/
def onPath (s : State) (p : Path) (op : Nat) (pl : List Byte) : Host.Outcome State Fault Refusal :=
  done s (settle (s.rowCommand p op pl))

/-- An event at the instant `t` at a device that is not in Winter. -/
def onEvent (s : State) (t : Nat) (f : State → State) : Host.Outcome State Fault Refusal :=
  done s (settle ((s.at t).awake f))

/-- An event at the instant `t` that acts in Winter too, or outside the device. -/
def onSelf (s : State) (t : Nat) (f : State → State) : Host.Outcome State Fault Refusal := done s (settle (f (s.at t)))

/-- The device powered up anew: its timebase starts again (04_position_scheduler.md R95). -/
def restarted (s : State) (s' : State) : Host.Outcome State Fault Refusal :=
  .next { s' with pending := s.pending, mem := Memory.tidy s'.mem, regs := Regs.tidy s'.regs }

end Sys2Proof.Machine
end

