-- ==== Sys2Proof/Machine/ExecBar.lean ====
section
/-! DEFINITION. Motion and illumination by command (15_command_set.md R411). -/

namespace Sys2Proof.Machine

/-- MOVE_QUEUE (10_motion.md R280). -/
def execMoveQueue (p : Path) (pl : List Byte) (s : State) : Host.Outcome State Fault Refusal :=
  onPath s p 0x0501 pl

/-- MOVE_HALT (10_motion.md R289). -/
def execMoveHalt (p : Path) (pl : List Byte) (s : State) : Host.Outcome State Fault Refusal :=
  onPath s p 0x0502 pl

/-- HOME (10_motion.md R293). -/
def execHome (p : Path) (pl : List Byte) (s : State) : Host.Outcome State Fault Refusal :=
  onPath s p 0x0503 pl

/-- AXIS_ENABLE (10_motion.md R292). -/
def execAxisEnable (p : Path) (pl : List Byte) (s : State) : Host.Outcome State Fault Refusal :=
  onPath s p 0x0504 pl

/-- LUM_SET (15_command_set.md R411). -/
def execLumSet (p : Path) (pl : List Byte) (s : State) : Host.Outcome State Fault Refusal :=
  onPath s p 0x0601 pl

/-- LUM_DIAG (15_command_set.md R411, 05_illumination.md R538). -/
def execLumDiag (p : Path) (pl : List Byte) (s : State) : Host.Outcome State Fault Refusal :=
  onPath s p 0x0602 pl

end Sys2Proof.Machine
end

