-- ==== Sys2Proof/Machine/ExecBmb.lean ====
section
/-! DEFINITION. The bar management bus (16_management_buses.md R416 to R421). -/

namespace Sys2Proof.Machine

/-- A transaction of firmware (16_management_buses.md R416). -/
def execBmbTransaction (t addr : Nat) (wr : List Byte) (rd : Nat) (ans : BmbAnswer)
    (s : State) : Host.Outcome State Fault Refusal :=
  onEvent s t (fun s => s.bmbTransact t addr wr rd ans)

/-- The retry after a NACK (16_management_buses.md R416). -/
def execBmbNackRetry (t : Nat) (ans : BmbAnswer) (s : State) : Host.Outcome State Fault Refusal :=
  onEvent s t (fun s => s.bmbRetry t ans)

/-- SCL low for 25 ms (16_management_buses.md R417). -/
def execBmbSclTimeout (t : Nat) (s : State) : Host.Outcome State Fault Refusal :=
  onEvent s t State.bmbSclLow

/-- A bus clear (16_management_buses.md R418). -/
def execBusClear (t : Nat) (pulses : Option Nat) (s : State) : Host.Outcome State Fault Refusal :=
  onEvent s t (fun s => s.bmbClear t pulses)

/-- Arbitration lost (16_management_buses.md R419). -/
def execArbLost (t byte bit : Nat) (s : State) : Host.Outcome State Fault Refusal :=
  onEvent s t (fun s => s.bmbArb byte bit)

/-- BMB_ALERT_N (16_management_buses.md R420). -/
def execAlert (t : Nat) (low : Bool) (s : State) : Host.Outcome State Fault Refusal :=
  onEvent s t (fun s => s.bmbAlert low)

/-- The read of the Alert Response Address (16_management_buses.md R420). -/
def execAlertResponseRead (t : Nat) (ans : BmbAnswer) (stillLow : Bool) (s : State) : Host.Outcome State Fault Refusal :=
  onEvent s t (fun s => s.bmbAlertRead t ans stillLow)

/-- The alert line is watched again (16_management_buses.md R421). -/
def execAlertIgnoreEnd (t : Nat) (low : Bool) (s : State) : Host.Outcome State Fault Refusal :=
  onEvent s t (fun s => s.bmbAlertBack t low)

end Sys2Proof.Machine
end

