-- ==== Sys2Proof/Machine/ExecBmp.lean ====
section
/-! DEFINITION. The board management port (16_management_buses.md R423 to R429). -/

namespace Sys2Proof.Machine

/-- Bytes written to pointer 0x10 (16_management_buses.md R424). -/
def execBmpMboxIn (bytes : List Byte) (stop : Bool) (s : State) : Host.Outcome State Fault Refusal :=
  onEvent s s.tb (fun s => s.mboxIn bytes stop)

/-- A read of pointer 0x11 (16_management_buses.md R425). -/
def execBmpMboxOut (n : Nat) (s : State) : Host.Outcome State Fault Refusal :=
  onEvent s s.tb (fun s => s.mboxOut n)

/-- A register access through pointer 0x20 (16_management_buses.md R428). -/
def execBmpRegAccess (a : BmpReg) (s : State) : Host.Outcome State Fault Refusal :=
  onEvent s s.tb (fun s => s.bmpReg a)

/-- 0x5A written to pointer 0x3F (16_management_buses.md R429). -/
def execBmpReset (s : State) : Host.Outcome State Fault Refusal :=
  onEvent s s.tb State.bmpResetNow

/-- A START or STOP inside a byte (16_management_buses.md R426). -/
def execBmpBrokenByte (what : BmpByte) (s : State) : Host.Outcome State Fault Refusal :=
  onEvent s s.tb (fun s => s.bmpBroken what)

/-- PKT_TIMEOUT_MS without a byte of MBOX_IN (16_management_buses.md R427). -/
def execPktTimeout (t : Nat) (s : State) : Host.Outcome State Fault Refusal :=
  onEvent s t State.pktLate

/-- SCL low for 35 ms (16_management_buses.md R427). -/
def execBmpSclTimeout (t : Nat) (s : State) : Host.Outcome State Fault Refusal :=
  onEvent s t State.bmpSclLow

end Sys2Proof.Machine
end

