-- ==== Sys2Proof/Machine/ExecCal.lean ====
section
/-! DEFINITION. Calibration (08_calibration.md R222 to R233). -/

namespace Sys2Proof.Machine

/-- CAL_EQUINOX (08_calibration.md R218). -/
def execCalEquinox (p : Path) (pl : List Byte) (s : State) : Host.Outcome State Fault Refusal :=
  onPath s p 0x0401 pl

/-- CAL_ALIGN (08_calibration.md R227). -/
def execCalAlign (p : Path) (pl : List Byte) (s : State) : Host.Outcome State Fault Refusal :=
  onPath s p 0x0402 pl

/-- CAL_THERMAL (08_calibration.md R233). -/
def execCalThermal (p : Path) (pl : List Byte) (s : State) : Host.Outcome State Fault Refusal :=
  onPath s p 0x0403 pl

/-- COEF_LOAD (15_command_set.md R410). -/
def execCoefLoad (p : Path) (pl : List Byte) (s : State) : Host.Outcome State Fault Refusal :=
  onPath s p 0x0404 pl

/-- COEF_SAVE (08_calibration.md R216). -/
def execCoefSave (p : Path) (pl : List Byte) (s : State) : Host.Outcome State Fault Refusal :=
  onPath s p 0x0405 pl

/-- The last white line is in (08_calibration.md R222). -/
def execEquinoxCaptureDone (t : Nat) (s : State) : Host.Outcome State Fault Refusal :=
  onEvent s t State.captureTurn

/-- The alignment target has passed (08_calibration.md R230). -/
def execAlignCaptureDone (t : Nat) (s : State) : Host.Outcome State Fault Refusal :=
  onEvent s t State.targetPassed

/-- The target is late (08_calibration.md R227). -/
def execAlignTimeout (t : Nat) (s : State) : Host.Outcome State Fault Refusal :=
  onEvent s t State.targetLate

/-- A point of the thermal sweep (08_calibration.md R233). -/
def execThermalPoint (t : Nat) (s : State) : Host.Outcome State Fault Refusal :=
  onEvent s t State.thermTurn

/-- CAL_THERMAL at its timeout (08_calibration.md R233). -/
def execThermalTimeout (t : Nat) (s : State) : Host.Outcome State Fault Refusal :=
  onEvent s t State.thermLate

end Sys2Proof.Machine
end

