-- ==== Sys2Proof/Machine/ExecFault.lean ====
section
/-! DEFINITION. Faults (19_faults_recovery.md R476 to R492). -/

namespace Sys2Proof.Machine

/-- A comparator mismatch (19_faults_recovery.md R477). -/
def execLockstepMismatch (t pair : Nat) (s : State) : Host.Outcome State Fault Refusal :=
  onEvent s t (fun s => s.pairMismatch pair)

/-- A pair at its watchdog (19_faults_recovery.md R480). -/
def execPairWatchdog (t pair : Nat) (s : State) : Host.Outcome State Fault Refusal :=
  onEvent s t (fun s => s.pairWatchdog pair)

/-- A checkpoint (19_faults_recovery.md R476). -/
def execCheckpoint (pair : Nat) (s : State) : Host.Outcome State Fault Refusal :=
  onEvent s s.tb (fun s => s.checkpoint pair)

/-- A recovery not complete after 200 us (19_faults_recovery.md R486). -/
def execRecoveryTimeout (t : Nat) (s : State) : Host.Outcome State Fault Refusal :=
  onEvent s t State.recoveryLate

/-- The timebase PLL loses lock (19_faults_recovery.md R486). -/
def execTbLockLoss (t : Nat) (s : State) : Host.Outcome State Fault Refusal :=
  onEvent s t State.tbLockLost

/-- A fatal cause (19_faults_recovery.md R487). -/
def execFatalError (t cause : Nat) (s : State) : Host.Outcome State Fault Refusal :=
  onEvent s t (fun s => s.fatalOf cause)

/-- The flash copy of the dump ends (19_faults_recovery.md R489). -/
def execDumpCopyDone (t : Nat) (s : State) : Host.Outcome State Fault Refusal :=
  onEvent s t State.copyDone

/-- AUTO_RESTART_S after DUMP_FLASH (19_faults_recovery.md R492). -/
def execAutoRestart (t : Nat) (s : State) : Host.Outcome State Fault Refusal :=
  onEvent s t State.autoRestart

/-- A suppression window closes (19_faults_recovery.md R483). -/
def execSuppressionWindowClose (t key : Nat) (s : State) : Host.Outcome State Fault Refusal :=
  onEvent s t (fun s => s.windowEnd key)

/-- Uncopied burgees are due (19_faults_recovery.md R484). -/
def execLogCopy (t : Nat) (s : State) : Host.Outcome State Fault Refusal :=
  onEvent s t State.logCopyDue

/-- 10 s after a failed hold-up check (19_faults_recovery.md R484). -/
def execLogDeferredRetry (t : Nat) (s : State) : Host.Outcome State Fault Refusal :=
  onEvent s t State.logRetry

end Sys2Proof.Machine
end

