-- ==== Sys2Proof/Machine/ExecJob.lean ====
section
/-! DEFINITION. Jobs (15_command_set.md R409, 01_system_overview.md R19 to R21, 04_position_scheduler.md R110). -/

namespace Sys2Proof.Machine

/-- JOB_DEFINE (15_command_set.md R409). -/
def execJobDefine (p : Path) (pl : List Byte) (s : State) : Host.Outcome State Fault Refusal :=
  onPath s p 0x0301 pl

/-- JOB_ARM (01_system_overview.md R19). -/
def execJobArm (p : Path) (pl : List Byte) (s : State) : Host.Outcome State Fault Refusal :=
  onPath s p 0x0302 pl

/-- JOB_START (04_position_scheduler.md R110). -/
def execJobStart (p : Path) (pl : List Byte) (s : State) : Host.Outcome State Fault Refusal :=
  onPath s p 0x0303 pl

/-- JOB_STOP (01_system_overview.md R19). -/
def execJobStop (p : Path) (pl : List Byte) (s : State) : Host.Outcome State Fault Refusal :=
  onPath s p 0x0304 pl

/-- JOB_ABORT (01_system_overview.md R21). -/
def execJobAbort (p : Path) (pl : List Byte) (s : State) : Host.Outcome State Fault Refusal :=
  onPath s p 0x0305 pl

end Sys2Proof.Machine
end

