-- ==== Sys2Proof/Machine/ExecLine.lean ====
section
/-! DEFINITION. Lines, analytics and engines (06_engines_shading.md, 07_alignment_seams.md, 09_output_analytics.md). -/

namespace Sys2Proof.Machine

/-- An output line (07_alignment_seams.md R193). -/
def execLineProduced (t : Nat) (s : State) : Host.Outcome State Fault Refusal :=
  onEvent s t State.lineReady

/-- A line at the verdict unit (09_output_analytics.md R262). -/
def execVerdictUnitLine (t : Nat) (s : State) : Host.Outcome State Fault Refusal :=
  onEvent s t State.verdictLine

/-- A pulse ends (09_output_analytics.md R264). -/
def execEvtPulseEnd (t k : Nat) (s : State) : Host.Outcome State Fault Refusal :=
  onEvent s t (fun s => s.pulseEnds k)

/-- A customer kernel at its budget (06_engines_shading.md R158). -/
def execKernelBudget (i : Nat) (s : State) : Host.Outcome State Fault Refusal :=
  onEvent s s.tb (fun s => s.kernelStop i)

/-- 100 ms after STATS_READ (09_output_analytics.md R256). -/
def execStatsTimeout (t : Nat) (s : State) : Host.Outcome State Fault Refusal :=
  onEvent s t State.statsLate

/-- An engine late with its standard pass (19_faults_recovery.md R479). -/
def execEngineWatchdog (t i : Nat) (s : State) : Host.Outcome State Fault Refusal :=
  onEvent s t (fun s => s.engineWatchdog i)

/-- An error in an engine's SRAM (06_engines_shading.md R153). -/
def execSramUe (t : Nat) (x : SramErr) (s : State) : Host.Outcome State Fault Refusal :=
  onEvent s t (fun s => s.sramError x)

/-- An engine restored (19_faults_recovery.md R473). -/
def execEngineRestartDone (t i : Nat) (s : State) : Host.Outcome State Fault Refusal :=
  onEvent s t (fun s => s.engineBack i)

/-- An engine has checked a bank (06_engines_shading.md R178). -/
def execBankVerifyDone (i : Nat) (s : State) : Host.Outcome State Fault Refusal :=
  onEvent s s.tb (fun s => s.bankChecked i)

end Sys2Proof.Machine
end

