-- ==== Sys2Proof/Machine/ExecLink.lean ====
section
/-! DEFINITION. The tile link (03_triry_link.md R54 to R91). -/

namespace Sys2Proof.Machine

/-- A lane locks (03_triry_link.md R54). -/
def execLaneLock (t i : Nat) (s : State) : Host.Outcome State Fault Refusal :=
  onEvent s t (fun s => s.laneLock i)

/-- A lane loses lock (03_triry_link.md R54). -/
def execLossOfLock (t : Nat) (x : LaneLoss) (s : State) : Host.Outcome State Fault Refusal :=
  onEvent s t (fun s => s.laneLost x.lane x.inFrame)

/-- 10 ms without lock during a job (03_triry_link.md R55). -/
def execRelockTimeout (t i : Nat) (s : State) : Host.Outcome State Fault Refusal :=
  onEvent s t (fun s => s.relock i)

/-- A tile frame in its slot (03_triry_link.md R64). -/
def execFrameReceived (t i : Nat) (prev : BitVec 58) (blocks : List LaneBlock)
    (s : State) : Host.Outcome State Fault Refusal :=
  onEvent s t (fun s => s.frameReceived i prev blocks)

/-- A slot closes without a header (03_triry_link.md R64). -/
def execFrameSlotEnd (t i : Nat) (s : State) : Host.Outcome State Fault Refusal :=
  onEvent s t (fun s => s.slotOver i)

/-- One training round of a segment (03_triry_link.md R85). -/
def execTrainingRound (seg : Nat) (meas : List Eye) (s : State) : Host.Outcome State Fault Refusal :=
  onEvent s s.tb (fun s => s.trainingRound seg meas)

/-- An attempt of a BCB transaction (03_triry_link.md R77). -/
def execBcbAttempt (t seg : Nat) (s : State) : Host.Outcome State Fault Refusal :=
  onEvent s t (fun s => s.bcbAttempt seg)

/-- A BCB reply frame (03_triry_link.md R70). -/
def execBcbReply (t seg : Nat) (r : BcbAnswer) (s : State) : Host.Outcome State Fault Refusal :=
  onEvent s t (fun s => s.bcbReply seg r.gap r.bytes)

/-- No SOF within 4,000 ns (03_triry_link.md R70). -/
def execBcbTimeout (t seg : Nat) (s : State) : Host.Outcome State Fault Refusal :=
  onEvent s t (fun s => s.bcbTimeout seg)

/-- A discovery pass (03_triry_link.md R79). -/
def execDiscoveryPass (t : Nat) (s : State) : Host.Outcome State Fault Refusal :=
  onEvent s t State.discoveryTurn

/-- Bits at a checker up to its lock and beyond (03_triry_link.md R89). -/
def execPrbsLock (u : PrbsIn) (s : State) : Host.Outcome State Fault Refusal :=
  onEvent s s.tb (fun s => s.checkBits u.unit u.bits)

/-- Bits at a checker up to its 64th error within 1,024 bits and beyond (03_triry_link.md R89). -/
def execPrbsLockDrop (u : PrbsIn) (s : State) : Host.Outcome State Fault Refusal :=
  onEvent s s.tb (fun s => s.checkBits u.unit u.bits)

end Sys2Proof.Machine
end

