-- ==== Sys2Proof/Machine/ExecLum.lean ====
section
/-! DEFINITION. Illumination (05_illumination.md R132 to R138). -/

namespace Sys2Proof.Machine

/-- A refresh begins (05_illumination.md R132). -/
def execRefreshStart (t : Nat) (r : RingStart) (s : State) : Host.Outcome State Fault Refusal :=
  onEvent s t (fun s => s.refreshTurn r.chain r.flips)

/-- The returned stream (05_illumination.md R136). -/
def execRefreshReturn (t c : Nat) (r : RingReturn) (s : State) : Host.Outcome State Fault Refusal :=
  onEvent s t (fun s => s.refreshStream c r)

/-- The commit mark (05_illumination.md R135). -/
def execCommitMark (t c : Nat) (ret : MarkReturn) (s : State) : Host.Outcome State Fault Refusal :=
  onEvent s t (fun s => s.markTurn c ret)

/-- 20 ms without a frame or a gate at a driver (05_illumination.md R138). -/
def execDriverTimeout (t d : Nat) (s : State) : Host.Outcome State Fault Refusal :=
  onSelf s t (fun s => s.driverLate d)

/-- 100 ms after LUM_DIAG (15_command_set.md R411). -/
def execLumDiagTimeout (t : Nat) (s : State) : Host.Outcome State Fault Refusal :=
  onEvent s t State.diagLate

end Sys2Proof.Machine
end

