-- ==== Sys2Proof/Machine/ExecMon.lean ====
section
/-! DEFINITION. The bar monitor (12_bar_monitor.md R316 to R328). -/

namespace Sys2Proof.Machine

/-- The LEAD wait ends (12_bar_monitor.md R316). -/
def execLeadExpiry (t k : Nat) (s : State) : Host.Outcome State Fault Refusal :=
  onEvent s t (fun s => s.leadTurn k)

/-- A conversion of the sequence (12_bar_monitor.md R316). -/
def execConversionEnd (t k : Nat) (code : Int) (brk clip : Bool) (s : State) : Host.Outcome State Fault Refusal :=
  onEvent s t (fun s => s.convTurn k code brk clip)

/-- An urgent conversion (12_bar_monitor.md R320). -/
def execUrgentDone (t k : Nat) (code : Int) (brk clip : Bool) (s : State) : Host.Outcome State Fault Refusal :=
  onEvent s t (fun s => s.urgentTurn k code brk clip)

/-- An excitation off its level (12_bar_monitor.md R324). -/
def execExcitationShort (t x : Nat) (s : State) : Host.Outcome State Fault Refusal :=
  onEvent s t (fun s => s.shortTurn x)

/-- A break on a monitored input (12_bar_monitor.md R328). -/
def execWireBreak (t ain : Nat) (s : State) : Host.Outcome State Fault Refusal :=
  onEvent s t (fun s => s.wireBroken ain)

end Sys2Proof.Machine
end

