-- ==== Sys2Proof/Machine/ExecMotion.lean ====
section
/-! DEFINITION. Motion and pacing (10_motion.md, 11_reseam.md). -/

namespace Sys2Proof.Machine

/-- A microsecond of a profile generator (10_motion.md R277). -/
def execProfileTick (t g : Nat) (s : State) : Host.Outcome State Fault Refusal :=
  onEvent s t (fun s => s.groupTick g)

/-- The level at ESTOP_N (10_motion.md R287). -/
def execEstop (t : Nat) (low : Bool) (s : State) : Host.Outcome State Fault Refusal :=
  onEvent s t (fun s => s.estopLevel low)

/-- The level of a home switch (10_motion.md R293). -/
def execHomeSwitch (t ax : Nat) (level : Bool) (s : State) : Host.Outcome State Fault Refusal :=
  onEvent s t (fun s => s.homeLevel ax level)

/-- HOLD_DELAY after rest (10_motion.md R285). -/
def execHoldDelayExpiry (t ax : Nat) (s : State) : Host.Outcome State Fault Refusal :=
  onEvent s t (fun s => s.holdDelay ax)

/-- 1 ms after DRV_EN (10_motion.md R292). -/
def execAxisEnableDelay (t ax : Nat) (s : State) : Host.Outcome State Fault Refusal :=
  onEvent s t (fun s => s.enableOver ax)

/-- 100 us of the pacing servo (11_reseam.md R298). -/
def execServoTick (t : Nat) (s : State) : Host.Outcome State Fault Refusal :=
  onEvent s t State.servo

/-- The paced group rests after braking (11_reseam.md R302). -/
def execBrakingDone (t : Nat) (s : State) : Host.Outcome State Fault Refusal :=
  onEvent s t State.brakingOver

/-- The paced group is at p_back (11_reseam.md R302). -/
def execBackingDone (t : Nat) (s : State) : Host.Outcome State Fault Refusal :=
  onEvent s t State.backingOver

/-- The resume conditions hold (11_reseam.md R304). -/
def execWaitRelease (t : Nat) (s : State) : Host.Outcome State Fault Refusal :=
  onEvent s t State.waitOver

end Sys2Proof.Machine
end

