-- ==== Sys2Proof/Machine/ExecPower.lean ====
section
/-! DEFINITION. Power, reset and start-up (18_power_startup.md R454 to R467, 20_electrical.md R498). -/

namespace Sys2Proof.Machine

/-- VDD_AON comes into range (18_power_startup.md R458); the timebase starts at 0 (04_position_scheduler.md R95). -/
def execPowerOn (s : State) : Host.Outcome State Fault Refusal :=
  restarted s s.powerOnReset

/-- PWR_GOOD low (18_power_startup.md R458). -/
def execPwrGoodLow (s : State) : Host.Outcome State Fault Refusal :=
  onSelf s s.tb (fun s => s.resetBut 1)

/-- RESET_N low (18_power_startup.md R458). -/
def execResetN (s : State) : Host.Outcome State Fault Refusal :=
  onSelf s s.tb (fun s => s.resetBut 2)

/-- WAKE_N low (18_power_startup.md R455). -/
def execWakeN (s : State) : Host.Outcome State Fault Refusal :=
  onSelf s s.tb State.wakePin

/-- An address phase on the BMP in Winter (18_power_startup.md R455). -/
def execBmpWake (a7 : Nat) (s : State) : Host.Outcome State Fault Refusal :=
  onSelf s s.tb (fun s => s.wakeBmp a7)

/-- PWR_FAIL_N (18_power_startup.md R467). -/
def execPwrFail (t : Nat) (low : Bool) (s : State) : Host.Outcome State Fault Refusal :=
  onSelf s t (fun s => s.powerFail low)

/-- TEST_MODE (20_electrical.md R498). -/
def execTestMode (high : Bool) (s : State) : Host.Outcome State Fault Refusal :=
  onSelf s s.tb (fun s => s.testLevel high)

/-- Start-up (18_power_startup.md R465). -/
def execStartUp (t : Nat) (st : StartIn) (s : State) : Host.Outcome State Fault Refusal :=
  onEvent s t (fun s => s.startUp st)

end Sys2Proof.Machine
end

