-- ==== Sys2Proof/Machine/ExecQdr.lean ====
section
/-! DEFINITION. Memory and the block mover (13_memory_block_mover.md R335 to R355). -/

namespace Sys2Proof.Machine

/-- 100 ms of deskew tracking (13_memory_block_mover.md R335). -/
def execDeskewTrack (t : Nat) (moves : List Deskew) (s : State) : Host.Outcome State Fault Refusal :=
  onEvent s t (fun s => s.deskewAll moves)

/-- A read of the scrubber (13_memory_block_mover.md R339). -/
def execScrubRead (t : Nat) (flips : List Nat) (flags : Nat) (s : State) : Host.Outcome State Fault Refusal :=
  onEvent s t (fun s => s.scrubNext flips flags)

/-- The mover is free (13_memory_block_mover.md R347). -/
def execBmvChannelStart (t : Nat) (s : State) : Host.Outcome State Fault Refusal :=
  onEvent s t State.bmvStart

/-- An error response (13_memory_block_mover.md R353). -/
def execBmvBusError (t c blk again : Nat) (what : BmvAccess) (s : State) : Host.Outcome State Fault Refusal :=
  onEvent s t (fun s => s.bmvBusError c blk again what)

/-- The last block of a channel (13_memory_block_mover.md R352). -/
def execBmvComplete (t c : Nat) (s : State) : Host.Outcome State Fault Refusal :=
  onEvent s t (fun s => s.bmvComplete c)

end Sys2Proof.Machine
end

