-- ==== Sys2Proof/Machine/ExecReg.lean ====
section
/-! DEFINITION. Single register accesses (21_register_map.md R520 to R527, and the rules of the fields written). -/

namespace Sys2Proof.Machine

/-- A write of a select register (21_register_map.md R523). -/
def execSelWrite (p : Path) (sel v : Nat) (s : State) : Host.Outcome State Fault Refusal :=
  onEvent s s.tb (fun s => s.selectWrite p sel v)

/-- A write of a register (00_scope.md R6). -/
def execRegisterWrite (p : Path) (addr v : Nat) (s : State) : Host.Outcome State Fault Refusal :=
  onEvent s s.tb (fun s => s.rowWrite p addr v)

/-- A read of a LO register (21_register_map.md R520). -/
def execLoReadLatch (p : Path) (addr : Nat) (s : State) : Host.Outcome State Fault Refusal :=
  onEvent s s.tb (fun s => s.rowRead p addr)

/-- A read of an RC field (00_scope.md R6). -/
def execReadClear (p : Path) (addr : Nat) (s : State) : Host.Outcome State Fault Refusal :=
  onEvent s s.tb (fun s => s.rowRead p addr)

/-- TILE_LANE_CTRL.TRAIN (03_triry_link.md R85): the other fields are written as they stand. -/
def execTrain (p : Path) (s : State) : Host.Outcome State Fault Refusal :=
  onEvent s s.tb (fun s => s.rowWrite p 0x20140 (laneWord (s.loopOf p) (s.lanePrbsOf p) + 1))

/-- TILE_LANE_CTRL.LOOPBACK (03_triry_link.md R88). -/
def execLoopback (p : Path) (code : Nat) (s : State) : Host.Outcome State Fault Refusal :=
  onEvent s s.tb (fun s => s.rowWrite p 0x20140 (laneWord code (s.lanePrbsOf p)))

/-- TILE_LANE_CTRL.PRBS (03_triry_link.md R88). -/
def execPrbs (p : Path) (code : Nat) (s : State) : Host.Outcome State Fault Refusal :=
  onEvent s s.tb (fun s => s.rowWrite p 0x20140 (laneWord (s.loopOf p) code))

/-- TILE_LANE_CTRL.INJECT (03_triry_link.md R90). -/
def execInject (p : Path) (s : State) : Host.Outcome State Fault Refusal :=
  onEvent s s.tb (fun s => s.rowWrite p 0x20140 (laneWord (s.loopOf p) (s.lanePrbsOf p) + 32))

/-- A write of TILE_LANE_EQ (03_triry_link.md R91). -/
def execLaneEqWrite (p : Path) (v : Nat) (s : State) : Host.Outcome State Fault Refusal :=
  onEvent s s.tb (fun s => s.rowWrite p 0x20148 v)

/-- PIPE_BANK_CTRL.ARM (06_engines_shading.md R179). -/
def execArm (p : Path) (v : Nat) (s : State) : Host.Outcome State Fault Refusal :=
  onEvent s s.tb (fun s => s.rowWrite p 0x30010 (v ||| 0x100))

/-- PIPE_BANK_CTRL.DISARM (06_engines_shading.md R179). -/
def execDisarm (p : Path) (v : Nat) (s : State) : Host.Outcome State Fault Refusal :=
  onEvent s s.tb (fun s => s.rowWrite p 0x30010 (v ||| 0x800))

/-- PIPE_BANK_CTRL.VERIFY (06_engines_shading.md R178). -/
def execVerify (p : Path) (v : Nat) (s : State) : Host.Outcome State Fault Refusal :=
  onEvent s s.tb (fun s => s.rowWrite p 0x30010 (v ||| 0x200))

/-- A write of PIPE_LUT_DATA (09_output_analytics.md R267). -/
def execLutDataWrite (p : Path) (v : Nat) (s : State) : Host.Outcome State Fault Refusal :=
  onEvent s s.tb (fun s => s.rowWrite p 0x300D0 v)

/-- BMV_CTRL.GO (13_memory_block_mover.md R347), by firmware. -/
def execGo (ch v : Nat) (s : State) : Host.Outcome State Fault Refusal :=
  onEvent s s.tb (fun s => s.moverGo ch v)

/-- BMV_CTRL.ABORT (13_memory_block_mover.md R355), by firmware. -/
def execAbort (ch : Nat) (s : State) : Host.Outcome State Fault Refusal :=
  onEvent s s.tb (fun s => s.moverAbort ch)

/-- MON_URG_CTRL.HOLDUP (12_bar_monitor.md R321), by firmware. -/
def execHoldupRequest (s : State) : Host.Outcome State Fault Refusal :=
  onEvent s s.tb (fun s => s.rowWrite .fw 0x70010 1)

/-- MON_URG_CTRL.HEADROOM (12_bar_monitor.md R321), by firmware. -/
def execHeadroomRequest (chain : Nat) (s : State) : Host.Outcome State Fault Refusal :=
  onEvent s s.tb (fun s => s.rowWrite .fw 0x70010 (2 + chain % 4 * 4))

/-- A firmware read of MON_DATA (12_bar_monitor.md R318). -/
def execMonDataRead (k : Nat) (s : State) : Host.Outcome State Fault Refusal :=
  onEvent s s.tb (fun s => s.monTake k)

/-- A read of MON_FORCE (12_bar_monitor.md R319). -/
def execForcedRead (p : Path) (k : Nat) (s : State) : Host.Outcome State Fault Refusal :=
  onEvent s s.tb (fun s => s.forceRead p k)

/-- A write of ENC_POS_LO (04_position_scheduler.md R99). -/
def execEncPosWrite (p : Path) (k v : Nat) (s : State) : Host.Outcome State Fault Refusal :=
  onEvent s s.tb (fun s => s.indexedWrite p 0x40108 0x20 8 k v)

/-- A write of MOT_AXIS_POS_LO (10_motion.md R294). -/
def execAxisPosWrite (p : Path) (v : Nat) (s : State) : Host.Outcome State Fault Refusal :=
  onEvent s s.tb (fun s => s.rowWrite p 0x60118 v)

/-- A write of CLK_CFG (04_position_scheduler.md R93). -/
def execClkCfgWrite (p : Path) (v : Nat) (s : State) : Host.Outcome State Fault Refusal :=
  onEvent s s.tb (fun s => s.rowWrite p 0x40070 v)

/-- A write of LUM_SEC_DUTY0 or LUM_SEC_DUTY1 (05_illumination.md R149). -/
def execLumSecDutyWrite (p : Path) (which v : Nat) (s : State) : Host.Outcome State Fault Refusal :=
  onEvent s s.tb (fun s => s.rowWrite p (0x50100 + 4 * (which % 2)) v)

/-- A write of MON_EX_CFG (12_bar_monitor.md R323). -/
def execExCfgWrite (p : Path) (x v : Nat) (s : State) : Host.Outcome State Fault Refusal :=
  onEvent s s.tb (fun s => s.indexedWrite p 0x70020 4 8 x v)

/-- NET_PORT_TEST.LOOPBACK (14_host_network.md R388). -/
def execPortLoopback (p : Path) (code : Nat) (s : State) : Host.Outcome State Fault Refusal :=
  onEvent s s.tb (fun s => s.rowWrite p 0xA0128 (portWord code (s.portPrbsOf p)))

/-- NET_PORT_TEST.PRBS (14_host_network.md R388). -/
def execPortPrbs (p : Path) (code : Nat) (s : State) : Host.Outcome State Fault Refusal :=
  onEvent s s.tb (fun s => s.rowWrite p 0xA0128 (portWord (s.portLoopOf p) code))

/-- NET_PORT_TEST.INJECT (14_host_network.md R388). -/
def execPortInject (p : Path) (s : State) : Host.Outcome State Fault Refusal :=
  onEvent s s.tb (fun s => s.rowWrite p 0xA0128 (portWord (s.portLoopOf p) (s.portPrbsOf p) + 16))

end Sys2Proof.Machine
end

