-- ==== Sys2Proof/Machine/ExecSched.lean ====
section
/-! DEFINITION. Encoders, lines and strobe (04_position_scheduler.md R98 to R125). -/

namespace Sys2Proof.Machine

/-- The levels of A and B (04_position_scheduler.md R98); an encoder also counts in Winter (18_power_startup.md R455).
-/
def execEncoderEdge (t k : Nat) (a b : Bool) (s : State) : Host.Outcome State Fault Refusal :=
  onSelf s t (fun s => s.encLevels k a b)

/-- The level of Z (04_position_scheduler.md R100). -/
def execIndexEdge (t k : Nat) (z : Bool) (s : State) : Host.Outcome State Fault Refusal :=
  onSelf s t (fun s => s.encIndex k z)

/-- 1 ms without a master edge (04_position_scheduler.md R105). -/
def execStillTimeout (t : Nat) (s : State) : Host.Outcome State Fault Refusal :=
  onEvent s t State.goStill

/-- L_C before the target line (04_position_scheduler.md R111). -/
def execLineCommit (t : Nat) (s : State) : Host.Outcome State Fault Refusal :=
  onEvent s t State.commitLine

/-- LUM_LEAD_NS before the placed instant (04_position_scheduler.md R112). -/
def execLumGate (t : Nat) (s : State) : Host.Outcome State Fault Refusal :=
  onEvent s t State.issueGate

/-- BSTB rises (04_position_scheduler.md R113). -/
def execBstbRise (t : Nat) (s : State) : Host.Outcome State Fault Refusal :=
  onEvent s t State.windowOpens

/-- BSTB falls (04_position_scheduler.md R113). -/
def execBstbFall (t : Nat) (s : State) : Host.Outcome State Fault Refusal :=
  onEvent s t State.windowCloses

/-- A keep-warm gate (04_position_scheduler.md R125). -/
def execKeepWarmGate (t : Nat) (s : State) : Host.Outcome State Fault Refusal :=
  onEvent s t State.keepWarmGate

/-- A service gate of LUM_DIAG (05_illumination.md R538). -/
def execServiceGate (t c : Nat) (s : State) : Host.Outcome State Fault Refusal :=
  onEvent s t (fun s => s.serviceGateOn c)

end Sys2Proof.Machine
end

