-- ==== Sys2Proof/Machine/ExecSession.lean ====
section
/-! DEFINITION. Sessions, bandwidth and registers by command (14_host_network.md R371 to R379, 15_command_set.md R403 to R407, 17_security.md R442). -/

namespace Sys2Proof.Machine

/-- SESSION_OPEN phase 1 (14_host_network.md R371). Its payload is all that the reply depends on; the port and the host
end return the reply. -/
def execSessionOpenPhase1 (_port : Nat) (_src : HostAddr) (pl : List Byte) (s : State) : Host.Outcome State Fault Refusal :=
  onEvent s s.tb (fun s => s.openFirst pl)

/-- SESSION_OPEN phase 2 (14_host_network.md R371). -/
def execSessionOpenPhase2 (k : Nat) (port : Nat) (src : HostAddr) (pl : List Byte)
    (s : State) : Host.Outcome State Fault Refusal :=
  onEvent s s.tb (fun s => s.openSecond k port src pl)

/-- SESSION_CLOSE (14_host_network.md R374). -/
def execSessionClose (p : Path) (pl : List Byte) (s : State) : Host.Outcome State Fault Refusal :=
  onPath s p 0x0102 pl

/-- ATTEST (17_security.md R442). -/
def execAttest (p : Path) (pl : List Byte) (s : State) : Host.Outcome State Fault Refusal :=
  onPath s p 0x0103 pl

/-- RESERVE_BW (14_host_network.md R379). -/
def execReserveBw (p : Path) (pl : List Byte) (s : State) : Host.Outcome State Fault Refusal :=
  onPath s p 0x0104 pl

/-- REG_READ (15_command_set.md R403). -/
def execRegRead (p : Path) (pl : List Byte) (s : State) : Host.Outcome State Fault Refusal :=
  onPath s p 0x0201 pl

/-- REG_WRITE (15_command_set.md R403). -/
def execRegWrite (p : Path) (pl : List Byte) (s : State) : Host.Outcome State Fault Refusal :=
  onPath s p 0x0202 pl

/-- REG_MODIFY (15_command_set.md R405). -/
def execRegModify (p : Path) (pl : List Byte) (s : State) : Host.Outcome State Fault Refusal :=
  onPath s p 0x0203 pl

/-- TILE_BROADCAST (15_command_set.md R407). -/
def execTileBroadcast (p : Path) (pl : List Byte) (s : State) : Host.Outcome State Fault Refusal :=
  onPath s p 0x0204 pl

end Sys2Proof.Machine
end

