-- ==== Sys2Proof/Machine/ExecStore.lean ====
section
/-! DEFINITION. Analytics, maintenance and power by command (15_command_set.md R412, R413). -/

namespace Sys2Proof.Machine

/-- REF_RASTER_PUT (09_output_analytics.md R258). -/
def execRefRasterPut (p : Path) (pl : List Byte) (s : State) : Host.Outcome State Fault Refusal :=
  onPath s p 0x0701 pl

/-- VERDICT_CONFIG (09_output_analytics.md R268). -/
def execVerdictConfig (p : Path) (pl : List Byte) (s : State) : Host.Outcome State Fault Refusal :=
  onPath s p 0x0702 pl

/-- STATS_READ (09_output_analytics.md R256). -/
def execStatsRead (p : Path) (pl : List Byte) (s : State) : Host.Outcome State Fault Refusal :=
  onPath s p 0x0703 pl

/-- CONFIG_STORE (18_power_startup.md R464). -/
def execConfigStore (p : Path) (pl : List Byte) (s : State) : Host.Outcome State Fault Refusal :=
  onPath s p 0x0801 pl

/-- FW_BEGIN (17_security.md R439). -/
def execFwBegin (p : Path) (pl : List Byte) (s : State) : Host.Outcome State Fault Refusal :=
  onPath s p 0x0802 pl

/-- FW_CHUNK (17_security.md R439). -/
def execFwChunk (p : Path) (pl : List Byte) (s : State) : Host.Outcome State Fault Refusal :=
  onPath s p 0x0803 pl

/-- FW_COMMIT (17_security.md R440). -/
def execFwCommit (p : Path) (pl : List Byte) (s : State) : Host.Outcome State Fault Refusal :=
  onPath s p 0x0804 pl

/-- DUMP_READ (19_faults_recovery.md R490). -/
def execDumpRead (p : Path) (pl : List Byte) (s : State) : Host.Outcome State Fault Refusal :=
  onPath s p 0x0805 pl

/-- FAULT_LOG_READ (19_faults_recovery.md R485). -/
def execFaultLogRead (p : Path) (pl : List Byte) (s : State) : Host.Outcome State Fault Refusal :=
  onPath s p 0x0806 pl

/-- BMV_SUBMIT (13_memory_block_mover.md R356). -/
def execBmvSubmit (p : Path) (pl : List Byte) (s : State) : Host.Outcome State Fault Refusal :=
  onPath s p 0x0807 pl

/-- SERVICE_BEGIN (15_command_set.md R413). -/
def execServiceBegin (p : Path) (pl : List Byte) (s : State) : Host.Outcome State Fault Refusal :=
  onPath s p 0x0808 pl

/-- SERVICE_END (15_command_set.md R413). -/
def execServiceEnd (p : Path) (pl : List Byte) (s : State) : Host.Outcome State Fault Refusal :=
  onPath s p 0x0809 pl

/-- SEASON_SET (18_power_startup.md R454). -/
def execSeasonSet (p : Path) (pl : List Byte) (s : State) : Host.Outcome State Fault Refusal :=
  onPath s p 0x0901 pl

end Sys2Proof.Machine
end

