-- ==== Sys2Proof/Machine/ExecTile.lean ====
section
/-! DEFINITION. The tiles (03_triry_link.md R59 to R76). A tile answers in every season of the device. -/

namespace Sys2Proof.Machine

/-- PING (03_triry_link.md R74). -/
def execPing (c : TileCmd) (s : State) : Host.Outcome State Fault Refusal :=
  onSelf s s.tb (fun s => s.tileCommand 1 c)

/-- IDENT_READ (03_triry_link.md R74). -/
def execIdentRead (c : TileCmd) (s : State) : Host.Outcome State Fault Refusal :=
  onSelf s s.tb (fun s => s.tileCommand 2 c)

/-- MODE_SET (03_triry_link.md R74). -/
def execModeSet (c : TileCmd) (s : State) : Host.Outcome State Fault Refusal :=
  onSelf s s.tb (fun s => s.tileCommand 3 c)

/-- CFG_WRITE (03_triry_link.md R75). -/
def execCfgWrite (c : TileCmd) (s : State) : Host.Outcome State Fault Refusal :=
  onSelf s s.tb (fun s => s.tileCommand 4 c)

/-- CFG_READ (03_triry_link.md R74). -/
def execCfgRead (c : TileCmd) (s : State) : Host.Outcome State Fault Refusal :=
  onSelf s s.tb (fun s => s.tileCommand 5 c)

/-- TX_TAP (03_triry_link.md R75). -/
def execTxTap (c : TileCmd) (s : State) : Host.Outcome State Fault Refusal :=
  onSelf s s.tb (fun s => s.tileCommand 6 c)

/-- TX_TAP_ALL (03_triry_link.md R74). -/
def execTxTapAll (c : TileCmd) (s : State) : Host.Outcome State Fault Refusal :=
  onSelf s s.tb (fun s => s.tileCommand 7 c)

/-- TX_TAP_SET (03_triry_link.md R74). -/
def execTxTapSet (c : TileCmd) (s : State) : Host.Outcome State Fault Refusal :=
  onSelf s s.tb (fun s => s.tileCommand 8 c)

/-- TX_TAP_GET (03_triry_link.md R74). -/
def execTxTapGet (c : TileCmd) (s : State) : Host.Outcome State Fault Refusal :=
  onSelf s s.tb (fun s => s.tileCommand 9 c)

/-- LINE_SET (03_triry_link.md R76). -/
def execLineSet (c : TileCmd) (s : State) : Host.Outcome State Fault Refusal :=
  onSelf s s.tb (fun s => s.tileCommand 10 c)

/-- STATUS_READ (03_triry_link.md R74). -/
def execStatusRead (c : TileCmd) (s : State) : Host.Outcome State Fault Refusal :=
  onSelf s s.tb (fun s => s.tileCommand 11 c)

/-- RESET (03_triry_link.md R73). -/
def execReset (c : TileCmd) (s : State) : Host.Outcome State Fault Refusal :=
  onSelf s s.tb (fun s => s.tileCommand 12 c)

/-- A window at a tile (03_triry_link.md R76). -/
def execTileWindow (t i : Nat) (w : WindowIn) (s : State) : Host.Outcome State Fault Refusal :=
  onSelf s t (fun s => s.tileWindow i t w)

end Sys2Proof.Machine
end

