-- ==== Sys2Proof/Machine/ExecTransport.lean ====
section
/-! DEFINITION. Transport (14_host_network.md R361 to R388). -/

namespace Sys2Proof.Machine

/-- A CMD segment (14_host_network.md R375). -/
def execCmdSegment (t port : Nat) (f : Frame) (bytes : List Byte) (s : State) : Host.Outcome State Fault Refusal :=
  onEvent s t (fun s => s.frameIn port f (fun s => s.cmdSegmentIn port f.src bytes))

/-- An ACK segment (14_host_network.md R377). -/
def execAck (t port : Nat) (f : Frame) (bytes : List Byte) (s : State) : Host.Outcome State Fault Refusal :=
  onEvent s t (fun s => s.frameIn port f (fun s => s.ackIn port f.src bytes))

/-- A CREDIT segment (14_host_network.md R376). -/
def execCredit (t port : Nat) (f : Frame) (bytes : List Byte) (s : State) : Host.Outcome State Fault Refusal :=
  onEvent s t (fun s => s.frameIn port f (fun s => s.creditIn port f.src bytes))

/-- RTO_US after a transmission (14_host_network.md R377). -/
def execRtoExpiry (t k : Nat) (isEvt : Bool) (seq : Nat) (s : State) : Host.Outcome State Fault Refusal :=
  onEvent s t (fun s => s.rtoOver k isEvt seq)

/-- IDLE_MS without a valid segment (14_host_network.md R374). -/
def execIdleTimeout (t k : Nat) (s : State) : Host.Outcome State Fault Refusal :=
  onEvent s t (fun s => s.idleOver k)

/-- 1,000 ms after phase 1 (14_host_network.md R371). -/
def execOpenHoldExpiry (t k : Nat) (s : State) : Host.Outcome State Fault Refusal :=
  onEvent s t (fun s => s.openExpire k)

/-- 100 ms after a failed proof (14_host_network.md R371). -/
def execAuthBusyExpiry (t role : Nat) (s : State) : Host.Outcome State Fault Refusal :=
  onEvent s t (fun s => s.authBusyOver role)

/-- A session moves back to PRIMARY (14_host_network.md R387). -/
def execFailback (t k : Nat) (s : State) : Host.Outcome State Fault Refusal :=
  onEvent s t (fun s => s.failBack k)

/-- 1,024 grid lines without thinning (14_host_network.md R382). -/
def execThinEpisodeClear (k : Nat) (s : State) : Host.Outcome State Fault Refusal :=
  onEvent s s.tb (fun s => s.thinOver k)

/-- A port is declared down (14_host_network.md R361). -/
def execPortDown (t port : Nat) (s : State) : Host.Outcome State Fault Refusal :=
  onEvent s t (fun s => s.portFell port)

/-- A port is declared up (14_host_network.md R361). -/
def execPortUp (t port : Nat) (s : State) : Host.Outcome State Fault Refusal :=
  onEvent s t (fun s => s.portRose port)

/-- An ARP request (14_host_network.md R362). -/
def execArpRequest (port senderMac senderIp targetIp : Nat) (s : State) : Host.Outcome State Fault Refusal :=
  onEvent s s.tb (fun s => s.arpIn port senderMac senderIp targetIp)

/-- A Neighbour Solicitation (14_host_network.md R362). -/
def execNeighbourSolicitation (port srcMac srcIp target : Nat) (s : State) : Host.Outcome State Fault Refusal :=
  onEvent s s.tb (fun s => s.solicitIn port srcMac srcIp target)

/-- A segment boundary of a port (14_host_network.md R378). -/
def execSendSegment (t port : Nat) (s : State) : Host.Outcome State Fault Refusal :=
  onEvent s t (fun s => s.portSend port)

end Sys2Proof.Machine
end

