-- ==== Sys2Proof/Machine/Dispatch.lean ====
section
/-! DEFINITION. One arm for each command of the opcode table: a direct call of its meaning. -/

namespace Sys2Proof.Machine

/-- The effect of a command on everything but the queue. -/
def exec (i : Instr) (s : State) : Host.Outcome State Fault Refusal :=
  match i with
  | .sessionOpenPhase1 port src pl => Sys2Proof.Machine.execSessionOpenPhase1 port src pl s
  | .sessionOpenPhase2 k port src pl => Sys2Proof.Machine.execSessionOpenPhase2 k port src pl s
  | .sessionClose p pl => Sys2Proof.Machine.execSessionClose p pl s
  | .attest p pl => Sys2Proof.Machine.execAttest p pl s
  | .reserveBw p pl => Sys2Proof.Machine.execReserveBw p pl s
  | .regRead p pl => Sys2Proof.Machine.execRegRead p pl s
  | .regWrite p pl => Sys2Proof.Machine.execRegWrite p pl s
  | .regModify p pl => Sys2Proof.Machine.execRegModify p pl s
  | .tileBroadcast p pl => Sys2Proof.Machine.execTileBroadcast p pl s
  | .jobDefine p pl => Sys2Proof.Machine.execJobDefine p pl s
  | .jobArm p pl => Sys2Proof.Machine.execJobArm p pl s
  | .jobStart p pl => Sys2Proof.Machine.execJobStart p pl s
  | .jobStop p pl => Sys2Proof.Machine.execJobStop p pl s
  | .jobAbort p pl => Sys2Proof.Machine.execJobAbort p pl s
  | .calEquinox p pl => Sys2Proof.Machine.execCalEquinox p pl s
  | .calAlign p pl => Sys2Proof.Machine.execCalAlign p pl s
  | .calThermal p pl => Sys2Proof.Machine.execCalThermal p pl s
  | .coefLoad p pl => Sys2Proof.Machine.execCoefLoad p pl s
  | .coefSave p pl => Sys2Proof.Machine.execCoefSave p pl s
  | .moveQueue p pl => Sys2Proof.Machine.execMoveQueue p pl s
  | .moveHalt p pl => Sys2Proof.Machine.execMoveHalt p pl s
  | .home p pl => Sys2Proof.Machine.execHome p pl s
  | .axisEnable p pl => Sys2Proof.Machine.execAxisEnable p pl s
  | .lumSet p pl => Sys2Proof.Machine.execLumSet p pl s
  | .lumDiag p pl => Sys2Proof.Machine.execLumDiag p pl s
  | .refRasterPut p pl => Sys2Proof.Machine.execRefRasterPut p pl s
  | .verdictConfig p pl => Sys2Proof.Machine.execVerdictConfig p pl s
  | .statsRead p pl => Sys2Proof.Machine.execStatsRead p pl s
  | .configStore p pl => Sys2Proof.Machine.execConfigStore p pl s
  | .fwBegin p pl => Sys2Proof.Machine.execFwBegin p pl s
  | .fwChunk p pl => Sys2Proof.Machine.execFwChunk p pl s
  | .fwCommit p pl => Sys2Proof.Machine.execFwCommit p pl s
  | .dumpRead p pl => Sys2Proof.Machine.execDumpRead p pl s
  | .faultLogRead p pl => Sys2Proof.Machine.execFaultLogRead p pl s
  | .bmvSubmit p pl => Sys2Proof.Machine.execBmvSubmit p pl s
  | .serviceBegin p pl => Sys2Proof.Machine.execServiceBegin p pl s
  | .serviceEnd p pl => Sys2Proof.Machine.execServiceEnd p pl s
  | .seasonSet p pl => Sys2Proof.Machine.execSeasonSet p pl s
  | .selWrite p sel v => Sys2Proof.Machine.execSelWrite p sel v s
  | .registerWrite p addr v => Sys2Proof.Machine.execRegisterWrite p addr v s
  | .loReadLatch p addr => Sys2Proof.Machine.execLoReadLatch p addr s
  | .readClear p addr => Sys2Proof.Machine.execReadClear p addr s
  | .train p => Sys2Proof.Machine.execTrain p s
  | .loopback p code => Sys2Proof.Machine.execLoopback p code s
  | .prbs p code => Sys2Proof.Machine.execPrbs p code s
  | .inject p => Sys2Proof.Machine.execInject p s
  | .laneEqWrite p v => Sys2Proof.Machine.execLaneEqWrite p v s
  | .arm p v => Sys2Proof.Machine.execArm p v s
  | .disarm p v => Sys2Proof.Machine.execDisarm p v s
  | .verify p v => Sys2Proof.Machine.execVerify p v s
  | .lutDataWrite p v => Sys2Proof.Machine.execLutDataWrite p v s
  | .go ch v => Sys2Proof.Machine.execGo ch v s
  | .abort ch => Sys2Proof.Machine.execAbort ch s
  | .holdupRequest => Sys2Proof.Machine.execHoldupRequest s
  | .headroomRequest chain => Sys2Proof.Machine.execHeadroomRequest chain s
  | .monDataRead k => Sys2Proof.Machine.execMonDataRead k s
  | .forcedRead p k => Sys2Proof.Machine.execForcedRead p k s
  | .encPosWrite p k v => Sys2Proof.Machine.execEncPosWrite p k v s
  | .axisPosWrite p v => Sys2Proof.Machine.execAxisPosWrite p v s
  | .clkCfgWrite p v => Sys2Proof.Machine.execClkCfgWrite p v s
  | .lumSecDutyWrite p which v => Sys2Proof.Machine.execLumSecDutyWrite p which v s
  | .exCfgWrite p x v => Sys2Proof.Machine.execExCfgWrite p x v s
  | .portLoopback p code => Sys2Proof.Machine.execPortLoopback p code s
  | .portPrbs p code => Sys2Proof.Machine.execPortPrbs p code s
  | .portInject p => Sys2Proof.Machine.execPortInject p s
  | .bmpMboxIn bytes stop => Sys2Proof.Machine.execBmpMboxIn bytes stop s
  | .bmpMboxOut n => Sys2Proof.Machine.execBmpMboxOut n s
  | .bmpRegAccess a => Sys2Proof.Machine.execBmpRegAccess a s
  | .bmpReset => Sys2Proof.Machine.execBmpReset s
  | .bmpBrokenByte what => Sys2Proof.Machine.execBmpBrokenByte what s
  | .pktTimeout t => Sys2Proof.Machine.execPktTimeout t s
  | .bmpSclTimeout t => Sys2Proof.Machine.execBmpSclTimeout t s
  | .cmdSegment t port src bytes => Sys2Proof.Machine.execCmdSegment t port src bytes s
  | .ack t port src bytes => Sys2Proof.Machine.execAck t port src bytes s
  | .credit t port src bytes => Sys2Proof.Machine.execCredit t port src bytes s
  | .rtoExpiry t k isEvt seq => Sys2Proof.Machine.execRtoExpiry t k isEvt seq s
  | .idleTimeout t k => Sys2Proof.Machine.execIdleTimeout t k s
  | .openHoldExpiry t k => Sys2Proof.Machine.execOpenHoldExpiry t k s
  | .authBusyExpiry t role => Sys2Proof.Machine.execAuthBusyExpiry t role s
  | .failback t k => Sys2Proof.Machine.execFailback t k s
  | .thinEpisodeClear k => Sys2Proof.Machine.execThinEpisodeClear k s
  | .portDown t port => Sys2Proof.Machine.execPortDown t port s
  | .portUp t port => Sys2Proof.Machine.execPortUp t port s
  | .arpRequest port senderMac senderIp targetIp => Sys2Proof.Machine.execArpRequest port senderMac senderIp targetIp s
  | .neighbourSolicitation port srcMac srcIp target => Sys2Proof.Machine.execNeighbourSolicitation port srcMac srcIp target s
  | .sendSegment t port => Sys2Proof.Machine.execSendSegment t port s
  | .laneLock t idx => Sys2Proof.Machine.execLaneLock t idx s
  | .lossOfLock t x => Sys2Proof.Machine.execLossOfLock t x s
  | .relockTimeout t idx => Sys2Proof.Machine.execRelockTimeout t idx s
  | .frameReceived t idx prev blocks => Sys2Proof.Machine.execFrameReceived t idx prev blocks s
  | .frameSlotEnd t idx => Sys2Proof.Machine.execFrameSlotEnd t idx s
  | .trainingRound seg meas => Sys2Proof.Machine.execTrainingRound seg meas s
  | .bcbAttempt t seg => Sys2Proof.Machine.execBcbAttempt t seg s
  | .bcbReply t seg r => Sys2Proof.Machine.execBcbReply t seg r s
  | .bcbTimeout t seg => Sys2Proof.Machine.execBcbTimeout t seg s
  | .discoveryPass t => Sys2Proof.Machine.execDiscoveryPass t s
  | .ping c => Sys2Proof.Machine.execPing c s
  | .identRead c => Sys2Proof.Machine.execIdentRead c s
  | .modeSet c => Sys2Proof.Machine.execModeSet c s
  | .cfgWrite c => Sys2Proof.Machine.execCfgWrite c s
  | .cfgRead c => Sys2Proof.Machine.execCfgRead c s
  | .txTap c => Sys2Proof.Machine.execTxTap c s
  | .txTapAll c => Sys2Proof.Machine.execTxTapAll c s
  | .txTapSet c => Sys2Proof.Machine.execTxTapSet c s
  | .txTapGet c => Sys2Proof.Machine.execTxTapGet c s
  | .lineSet c => Sys2Proof.Machine.execLineSet c s
  | .statusRead c => Sys2Proof.Machine.execStatusRead c s
  | .reset c => Sys2Proof.Machine.execReset c s
  | .tileWindow t idx w => Sys2Proof.Machine.execTileWindow t idx w s
  | .encoderEdge t k a b => Sys2Proof.Machine.execEncoderEdge t k a b s
  | .indexEdge t k z => Sys2Proof.Machine.execIndexEdge t k z s
  | .stillTimeout t => Sys2Proof.Machine.execStillTimeout t s
  | .lineCommit t => Sys2Proof.Machine.execLineCommit t s
  | .lumGate t => Sys2Proof.Machine.execLumGate t s
  | .bstbRise t => Sys2Proof.Machine.execBstbRise t s
  | .bstbFall t => Sys2Proof.Machine.execBstbFall t s
  | .keepWarmGate t => Sys2Proof.Machine.execKeepWarmGate t s
  | .serviceGate t c => Sys2Proof.Machine.execServiceGate t c s
  | .refreshStart t r => Sys2Proof.Machine.execRefreshStart t r s
  | .refreshReturn t c r => Sys2Proof.Machine.execRefreshReturn t c r s
  | .commitMark t c ret => Sys2Proof.Machine.execCommitMark t c ret s
  | .driverTimeout t d => Sys2Proof.Machine.execDriverTimeout t d s
  | .lineProduced t => Sys2Proof.Machine.execLineProduced t s
  | .verdictUnitLine t => Sys2Proof.Machine.execVerdictUnitLine t s
  | .evtPulseEnd t k => Sys2Proof.Machine.execEvtPulseEnd t k s
  | .kernelBudget idx => Sys2Proof.Machine.execKernelBudget idx s
  | .statsTimeout t => Sys2Proof.Machine.execStatsTimeout t s
  | .engineWatchdog t idx => Sys2Proof.Machine.execEngineWatchdog t idx s
  | .sramUe t idx => Sys2Proof.Machine.execSramUe t idx s
  | .engineRestartDone t idx => Sys2Proof.Machine.execEngineRestartDone t idx s
  | .bankVerifyDone idx => Sys2Proof.Machine.execBankVerifyDone idx s
  | .equinoxCaptureDone t => Sys2Proof.Machine.execEquinoxCaptureDone t s
  | .alignCaptureDone t => Sys2Proof.Machine.execAlignCaptureDone t s
  | .alignTimeout t => Sys2Proof.Machine.execAlignTimeout t s
  | .thermalPoint t => Sys2Proof.Machine.execThermalPoint t s
  | .thermalTimeout t => Sys2Proof.Machine.execThermalTimeout t s
  | .profileTick t g => Sys2Proof.Machine.execProfileTick t g s
  | .estop t low => Sys2Proof.Machine.execEstop t low s
  | .homeSwitch t ax level => Sys2Proof.Machine.execHomeSwitch t ax level s
  | .holdDelayExpiry t ax => Sys2Proof.Machine.execHoldDelayExpiry t ax s
  | .axisEnableDelay t ax => Sys2Proof.Machine.execAxisEnableDelay t ax s
  | .servoTick t => Sys2Proof.Machine.execServoTick t s
  | .brakingDone t => Sys2Proof.Machine.execBrakingDone t s
  | .backingDone t => Sys2Proof.Machine.execBackingDone t s
  | .waitRelease t => Sys2Proof.Machine.execWaitRelease t s
  | .leadExpiry t k => Sys2Proof.Machine.execLeadExpiry t k s
  | .conversionEnd t k code brk clip => Sys2Proof.Machine.execConversionEnd t k code brk clip s
  | .urgentDone t k code brk clip => Sys2Proof.Machine.execUrgentDone t k code brk clip s
  | .excitationShort t x => Sys2Proof.Machine.execExcitationShort t x s
  | .wireBreak t ain => Sys2Proof.Machine.execWireBreak t ain s
  | .deskewTrack t moves => Sys2Proof.Machine.execDeskewTrack t moves s
  | .scrubRead t flips flags => Sys2Proof.Machine.execScrubRead t flips flags s
  | .bmvChannelStart t => Sys2Proof.Machine.execBmvChannelStart t s
  | .bmvBusError t c blk again what => Sys2Proof.Machine.execBmvBusError t c blk again what s
  | .bmvComplete t c => Sys2Proof.Machine.execBmvComplete t c s
  | .bmbTransaction t addr wr rd ans => Sys2Proof.Machine.execBmbTransaction t addr wr rd ans s
  | .bmbNackRetry t ans => Sys2Proof.Machine.execBmbNackRetry t ans s
  | .bmbSclTimeout t => Sys2Proof.Machine.execBmbSclTimeout t s
  | .busClear t pulses => Sys2Proof.Machine.execBusClear t pulses s
  | .arbLost t byte bit => Sys2Proof.Machine.execArbLost t byte bit s
  | .alert t low => Sys2Proof.Machine.execAlert t low s
  | .alertResponseRead t ans stillLow => Sys2Proof.Machine.execAlertResponseRead t ans stillLow s
  | .alertIgnoreEnd t low => Sys2Proof.Machine.execAlertIgnoreEnd t low s
  | .powerOn => Sys2Proof.Machine.execPowerOn s
  | .pwrGoodLow => Sys2Proof.Machine.execPwrGoodLow s
  | .resetN => Sys2Proof.Machine.execResetN s
  | .wakeN => Sys2Proof.Machine.execWakeN s
  | .bmpWake a7 => Sys2Proof.Machine.execBmpWake a7 s
  | .pwrFail t low => Sys2Proof.Machine.execPwrFail t low s
  | .testMode high => Sys2Proof.Machine.execTestMode high s
  | .startUp t st => Sys2Proof.Machine.execStartUp t st s
  | .lockstepMismatch t pair => Sys2Proof.Machine.execLockstepMismatch t pair s
  | .pairWatchdog t pair => Sys2Proof.Machine.execPairWatchdog t pair s
  | .checkpoint pair => Sys2Proof.Machine.execCheckpoint pair s
  | .recoveryTimeout t => Sys2Proof.Machine.execRecoveryTimeout t s
  | .tbLockLoss t => Sys2Proof.Machine.execTbLockLoss t s
  | .fatalError t cause => Sys2Proof.Machine.execFatalError t cause s
  | .dumpCopyDone t => Sys2Proof.Machine.execDumpCopyDone t s
  | .autoRestart t => Sys2Proof.Machine.execAutoRestart t s
  | .suppressionWindowClose t key => Sys2Proof.Machine.execSuppressionWindowClose t key s
  | .logCopy t => Sys2Proof.Machine.execLogCopy t s
  | .logDeferredRetry t => Sys2Proof.Machine.execLogDeferredRetry t s
  | .prbsLock u => Sys2Proof.Machine.execPrbsLock u s
  | .prbsLockDrop u => Sys2Proof.Machine.execPrbsLockDrop u s
  | .lumDiagTimeout t => Sys2Proof.Machine.execLumDiagTimeout t s

end Sys2Proof.Machine
end

