-- ==== Sys2Proof/Safety.lean ====
section
/-! DEFINITION. What a safe run is: the block never stops, its addressed memories and its register file keep their one
canonical form, and TB_NOW never goes backwards. -/

namespace Sys2Proof.Machine

/-- The canonical forms of memory and of the register file. -/
def State.Inv (s : State) : Prop := Memory.wf s.mem = true ∧ Regs.wf s.regs = true

/-- The next step of a state is a next state: neither a fault nor a refusal. -/
def State.Goes (s : State) : Prop := ∃ t, step s = .next t

/-! What the statements say of a command's end. -/

/-- What is left once the command's own effect `m` on `s` is complete: operations in progress go on and queued commands run, and
the queue of commands waiting is the one that `s` had. -/
def State.rest (s m : State) : State := State.finish s (settle m)

/-- The command completes: its own effect is a state of which `E` holds, and the answer is what that state comes to rest in. -/
def Completes (c : Instr) (s : State) (E : State → Prop) : Prop := ∃ m, exec c s = .next (s.rest m) ∧ E m

/-- From `s` to `m` the register file keeps its form, and every field whose cell is not listed keeps its value. -/
def State.RegsBut (s m : State) (cells : List Nat) : Prop :=
  Regs.wf m.regs = true ∧ ∀ x, x ∉ cells → Regs.get x m.regs = Regs.get x s.regs

/-! Command packets (15_command_set.md R397, R399, R401). -/

/-- A path takes the command at once: it is open and runs none, and opcode, role, state and length are right. -/
def State.takes (s : State) (p : Path) (op : Nat) (pl : List Byte) : Prop :=
  s.asleep = false ∧ s.pathOpen p = true ∧ (s.cmd p).run = none ∧ pathIdx p < s.cmds.length ∧ s.legal p op = stOk ∧
    opLenOk op p pl = true

/-- A path may write registers other than its selects (R404, R414): firmware; an OWNER outside FAULT_HOLD; a SERVICE session in SERVICE;
in BOOT firmware alone. -/
def State.mayWrite (s : State) (p : Path) : Prop :=
  p = .fw ∨ ∃ k, p = .sess k ∧ s.op ≠ .boot ∧ ((s.roleOf k = 0 ∧ s.op ≠ .faultHold) ∨ (s.roleOf k = 2 ∧ s.op = .service))

/-- The state in which the command runs on its path: its header stands there until it is answered (R401). -/
def State.begun (s : State) (p : Path) (op : Nat) : State := s.modCmd p (fun c => { c with run := some { op := op, direct := true } })

/-- The command completes: its own effect is a state `m`, it is answered OK with a payload `d`, and `E` holds of both. -/
def Answers (c : Instr) (s : State) (p : Path) (op : Nat) (E : State → List Byte → Prop) : Prop :=
  ∃ m d, exec c s = .next (s.rest { m with out := .reply p op stOk 0 d :: m.out }) ∧ E m d

/-! Tiles (03_triry_link.md R67 to R76). -/

/-- A command frame that a tile takes: no long gap breaks it off, CRC and type are right (R67, R69). -/
def TileCmd.whole (c : TileCmd) : Prop := c.crcOk = true ∧ c.ftype = 0 ∧ c.gap ≤ 2

/-- A command frame that its one tile executes: it is whole, the address is a fitted tile's of the segment, and the sequence number is
not that of the last command executed (R69, R71). -/
def State.tileHears (s : State) (c : TileCmd) : Prop :=
  TileCmd.whole c ∧ c.addr < 511 ∧ c.addr / 128 = c.seg ∧ (s.tile c.addr).fitted = true ∧ (s.tile c.addr).lastSeq ≠ some (c.seq % 32)

/-- A tile sends the reply frame `f` and is `t` after it; its lane carries what a mode that has changed asks for (R73). -/
def State.tileAnswers (s : State) (c : TileCmd) (f : List Byte) (t : TileDev) : State :=
  { s with bar := modifyNth (fun _ => t) c.addr s.bar,
           out := (if t.mode = (s.tile c.addr).mode then [] else [.carries c.addr t.mode.signal]) ++ .tileReply c.seg f :: s.out }

/-- A tile answers opcode `op` with ACK and `data` and is `t` after it; it keeps the sequence number and the reply (R70, R71). -/
def State.tileReplies (s : State) (c : TileCmd) (op : Nat) (data : List Byte) (t : TileDev) : State :=
  let f := replyFrame (c.seq % 32) c.addr op 0 data
  s.tileAnswers c f { t with lastSeq := some (c.seq % 32), lastReply := f }

end Sys2Proof.Machine
end

