-- ==== Sys2Proof/Certificates/Slice0/Obligations.lean ====
section
/-! DEFINITION. The statements. -/

open Sys2Proof Sys2Proof.Machine

/-- With command c at the front of the queue, a step is exec of c on the state with the queue's rest. With no command
waiting, a step advances TB_NOW by 1, or by 40 while the timebase PLL is off, and changes nothing else; that an idle
step takes that time is the model's choice (assumption log 10). -/
def Obligations.StepRunsTheFrontCommand : Prop :=
  (∀ (c : Instr) (rest : List Instr) (s : State), step { s with pending := c :: rest } = exec c { s with pending := rest }) ∧
  (∀ s : State, s.pending = [] → step s = .next { s with tb := s.tb + s.tbStep })

/-- The addressed memories and the register file of the state after reset have their canonical forms. -/
def Obligations.ResetMeetsInv : Prop :=
  State.reset.Inv

/-- After reset every field of every register and of each of its instances holds its Reset value, but POSITION_LOST and
MICROSTEP_UNKNOWN of the eight axes, which are set; the queue is empty, the device is in BOOT, TB_NOW is 0, the
always-on domain alone is in Summer, and no memory cell is listed. That the domains start in Winter, and the fields a
strap or silicon gives, are the model's choices (assumption log 7, 9). -/
def Obligations.ResetLeavesEveryFieldAtItsResetValue : Prop :=
  (∀ (f : Fld) (k inst : Nat), (∀ ax < 8, f.key k inst ≠ F.MOT_AXIS_STATUS_POSITION_LOST.key 0 ax ∧
      f.key k inst ≠ F.MOT_AXIS_STATUS_MICROSTEP_UNKNOWN.key 0 ax) → State.reset.fldAt f k inst = f.resetAt k) ∧
  (∀ ax < 8, State.reset.bit F.MOT_AXIS_STATUS_POSITION_LOST ax = true ∧ State.reset.bit F.MOT_AXIS_STATUS_MICROSTEP_UNKNOWN ax = true) ∧
  State.reset.pending = [] ∧ State.reset.op = .boot ∧ State.reset.tb = 0 ∧
  (∀ d < 145, State.reset.season d = .winter) ∧ State.reset.season 145 = .summer ∧ State.reset.mem = []

/-- From every state that meets the invariant, a step that answers a next state leads to one that meets it: equal memories
and equal register files stay equal data. -/
def Obligations.EveryStepKeepsInv : Prop :=
  ∀ s t : State, s.Inv → step s = .next t → t.Inv

/-- On every state every command has an outcome that is a next state, never a fault or a refusal; the queue of waiting
commands is left as the command found it; and TB_NOW does not go backwards, but in a power-on of the device, from
which the always-on domain and with it TB_NOW start anew. -/
def Obligations.NoCommandEndsTheRun : Prop :=
  ∀ (c : Instr) (s : State), ∃ t, exec c s = .next t ∧ t.pending = s.pending ∧ (c ≠ .powerOn → s.tb ≤ t.tb)

/-- While the path's select is 0xFFFF, a read of a register of the window returns 0 and sets SEL_BCAST_READ and SEL_WHICH
on that path, and changes nothing else: it clears no RC field and takes no LO latch. So does a REG_READ of that
register; and REG_MODIFY of it through a path that may write it fails with BAD_PARAM and has no effect. -/
def Obligations.BroadcastReadGivesZero : Prop :=
  ∀ (s : State) (p : Path) (a k : Nat) (r : Reg) (w : Win), regAt a = some (r, k) → r.win = some w →
    s.selOf p (winIdx w) = 0xFFFF → pathIdx p < s.banks.length →
    (let t := s.modBank p (fun b => { b with selBcast := true, selWhich := winIdx w })
     s.readAddr p a = (t, some 0) ∧ (t.bank p).selBcast = true ∧ (t.bank p).selWhich = winIdx w ∧
       (t.bank p).latches = (s.bank p).latches ∧ t.regs = s.regs ∧
     (∀ pl, s.takes p 0x0201 pl → s.recoveryPath p = false → (chunksOf 4 256 pl).map ofBe = [a] →
       Answers (.regRead p pl) s p 0x0201 (fun m d => m = t ∧ d = be 4 0))) ∧
    (∀ pl, s.takes p 0x0203 pl → s.writeRole p (freeWrite a) = stOk → beAt pl 0 4 = a →
      exec (.regModify p pl) s = .next (s.rest { s with out := .reply p 0x0203 stBadParam 0 [] :: s.out }))

/-- REG_MODIFY through a path that may write the register, under no broadcast, reads it and, where the write is allowed,
writes in the same step a value whose bits are those of VALUE inside MASK and those of the old value outside it, but 0
outside it in W1C fields; it answers the old value. For a register with any WO or RC field it answers BAD_PARAM and
has no effect. -/
def Obligations.ModifyKeepsTheBitsOutsideTheMask : Prop :=
  ∀ (s : State) (p : Path) (pl : List Byte) (k : Nat) (r : Reg), s.takes p 0x0203 pl → regAt (beAt pl 0 4) = some (r, k) →
    s.writeRole p (freeWrite (beAt pl 0 4)) = stOk → (∀ w, r.win = some w → s.selOf p (winIdx w) ≠ 0xFFFF) →
    ((∃ f ∈ r.flds, f.acc = .wo ∨ f.acc = .rc) →
      exec (.regModify p pl) s = .next (s.rest { s with out := .reply p 0x0203 stBadParam 0 [] :: s.out })) ∧
    ((∀ f ∈ r.flds, f.acc ≠ .wo ∧ f.acc ≠ .rc) → ∃ old new, (s.readAddr p (beAt pl 0 4)).2 = some old ∧ new < 2 ^ 32 ∧
      (∀ b < 32, new.testBit b = if (beAt pl 4 4).testBit b then (beAt pl 8 4).testBit b
        else old.testBit b && !(r.flds.any (fun f => decide (f.acc = .w1c) && decide (f.lo ≤ b) && decide (b < f.lo + f.width)))) ∧
      (((s.readAddr p (beAt pl 0 4)).1.writeAddr p (beAt pl 0 4) new false).2 = stOk →
        Answers (.regModify p pl) s p 0x0203 (fun m d =>
          let t := ((s.readAddr p (beAt pl 0 4)).1.writeAddr p (beAt pl 0 4) new false).1
          d = be 4 old ∧ m.regs = t.regs ∧ m.banks = t.banks ∧ m.mem = t.mem ∧ m.seasons = t.seasons)))

/-- A tile that hears PING, IDENT_READ, CFG_READ of parameter 1 or 2, TX_TAP_GET or STATUS_READ, with command data of the
opcode's length, answers ACK with the data of the tile command table, keeps the sequence number and the reply, and
nothing else of the state changes. -/
def Obligations.TileReadsAnswer : Prop :=
  ∀ (s : State) (c : TileCmd), s.tileHears c →
    let t := s.tile c.addr
    (c.data = [] →
      exec (.ping c) s = .next (s.rest (s.tileReplies c 1 [BitVec.ofNat 8 t.mode.code] t)) ∧
      exec (.identRead c) s = .next (s.rest (s.tileReplies c 2 t.ident t)) ∧
      exec (.txTapGet c) s = .next (s.rest (s.tileReplies c 9 [BitVec.ofNat 8 (t.pre * 16 + t.post)] t)) ∧
      exec (.statusRead c) s = .next (s.rest (s.tileReplies c 11
        ([t.mode.code, t.status, t.lastExp, t.invalid].map (BitVec.ofNat 8)) t))) ∧
    (c.data = [1] → exec (.cfgRead c) s = .next (s.rest (s.tileReplies c 5 (be 2 t.firstSite) t))) ∧
    (c.data = [2] → exec (.cfgRead c) s = .next (s.rest (s.tileReplies c 5 (be 2 t.pattern) t)))

/-- A tile that hears MODE_SET with a mode that is legal from its own (the present one, or from or to IDLE), CFG_WRITE in
IDLE with FIRST_SITE up to PHOTOSITES - 478 or TEST_PATTERN 0 or 1, TX_TAP_SET within its ranges outside RUN, or
LINE_SET in RUN answers ACK and is changed in what the command sets; entry into RUN sets EXP_SEQ 0 and the previous
line 0xFFFFFF, and a change of mode shows on the lane. RESET is answered and then leaves IDLE, taps 0, FIRST_SITE 0,
TEST_PATTERN 0 and no last executed command. Nothing else of the state changes. -/
def Obligations.TileSettingsTake : Prop :=
  ∀ (s : State) (c : TileCmd), s.tileHears c →
    let t := s.tile c.addr
    (∀ m : TileMode, c.data = [BitVec.ofNat 8 m.code] → (m = t.mode ∨ m = .idle ∨ t.mode = .idle) →
      exec (.modeSet c) s = .next (s.rest (s.tileReplies c 3 []
        (if m = t.mode then t
         else if m = .run then { t with mode := .run, expSeq := 0, prevLine := 0xFFFFFF, lineSet := none, window := none }
         else { t with mode := m })))) ∧
    (∀ v : Nat, t.mode = .idle → v < 2 ^ 16 → v + 478 ≤ identSites t.ident ∨ v = 0 → c.data = 1 :: be 2 v →
      exec (.cfgWrite c) s = .next (s.rest (s.tileReplies c 4 [] { t with firstSite := v }))) ∧
    (∀ v : Nat, t.mode = .idle → v ≤ 1 → c.data = 2 :: be 2 v →
      exec (.cfgWrite c) s = .next (s.rest (s.tileReplies c 4 [] { t with pattern := v }))) ∧
    (∀ a b : Nat, t.mode ≠ .run → a ≤ identPre t.ident → b ≤ identPost t.ident → a < 16 → b < 16 →
      c.data = [BitVec.ofNat 8 (a * 16 + b)] →
      exec (.txTapSet c) s = .next (s.rest (s.tileReplies c 8 [] { t with pre := a, post := b }))) ∧
    (∀ n : Nat, t.mode = .run → n < 2 ^ 24 → c.data = be 3 n →
      exec (.lineSet c) s = .next (s.rest (s.tileReplies c 10 [] { t with lineSet := some n }))) ∧
    (c.data = [] →
      exec (.reset c) s = .next (s.rest (s.tileAnswers c (replyFrame (c.seq % 32) c.addr 12 0 [])
        { t with mode := .idle, pre := 0, post := 0, firstSite := 0, pattern := 0, lastSeq := none, lastReply := [] })))

/-- A tile in TRAIN, TEST7 or TEST31 that hears TX_TAP with a pre action and a post action, neither 0b11, moves each
cursor one step up (1) or down (2), leaves a cursor that would pass an end of its range where it is, and answers with
the resulting steps. The broadcast TX_TAP_ALL does the same at each fitted tile of the segment with the tile's own
nibble and sends no reply; tiles of other segments, tiles in other modes and tiles whose nibble holds 0b11 are as
before. -/
def Obligations.TileTapSteps : Prop :=
  ∀ (s : State) (c : TileCmd),
    let step := fun (x range act : Nat) => if act = 1 then min range (x + 1) else if act = 2 then x - 1 else x
    (∀ a b : Nat, s.tileHears c → a < 3 → b < 3 → c.data = [BitVec.ofNat 8 (a + 4 * b)] →
      let t := s.tile c.addr
      t.mode = .train ∨ t.mode = .test7 ∨ t.mode = .test31 →
      let t' := { t with pre := step t.pre (identPre t.ident) a, post := step t.post (identPost t.ident) b }
      exec (.txTap c) s = .next (s.rest (s.tileReplies c 6 [BitVec.ofNat 8 (t'.pre * 16 + t'.post)] t'))) ∧
    (TileCmd.whole c → c.addr = 0x1FF → c.data.length = 64 →
      Completes (.txTapAll c) s (fun m => m = { s with bar := m.bar } ∧ ∀ i, i < s.bar.length →
        let t := s.tile i
        let n := byteAt c.data (i % 128 / 2) / 16 ^ (i % 2) % 16
        m.tile i =
          if i / 128 = c.seg ∧ t.fitted = true ∧ (t.mode = .train ∨ t.mode = .test7 ∨ t.mode = .test31) ∧ n % 4 ≠ 3 ∧ n / 4 ≠ 3 then
            { t with pre := step t.pre (identPre t.ident) (n % 4), post := step t.post (identPost t.ident) (n / 4) }
          else t))

/-- A tile that hears an addressed command it cannot execute (an opcode that is not in the table, a wrong length, or one
whose run gives BAD_PARAM or STATE) sends a NAK with the status and is exactly as before: its last executed command
stays the one it was. -/
def Obligations.TileNakChangesNothing : Prop :=
  ∀ (t : TileDev) (i seq op : Nat) (d : List Byte), t.fitted = true → t.lastSeq ≠ some seq → op ≠ 7 →
    (tileLen op = none → t.answer i seq op d = (some (replyFrame seq i op 1 []), t)) ∧
    (∀ n, tileLen op = some n → d.length ≠ n → t.answer i seq op d = (some (replyFrame seq i op 2 []), t)) ∧
    (tileLen op = some d.length → (t.run op d).1 ≠ 0 → t.answer i seq op d = (some (replyFrame seq i op (t.run op d).1 []), t) ∧
      ((t.run op d).1 = 3 ∨ (t.run op d).1 = 4))

/-- For each command but TX_TAP_ALL, which is only ever broadcast: a frame with a right CRC and type 0 addressed to a
fitted tile of its segment with the sequence number of its last executed command makes the tile send its last reply,
and nothing else changes. A frame whose CRC does not check, of another type, or broken off by an idle gap of more than
2 bit times changes nothing. -/
def Obligations.TileRepeatsItsReply : Prop :=
  ∀ (s : State) (c : TileCmd), ∀ i ∈ [Instr.ping c, .identRead c, .modeSet c, .cfgWrite c, .cfgRead c, .txTap c,
      .txTapSet c, .txTapGet c, .lineSet c, .statusRead c, .reset c],
    (TileCmd.whole c → c.addr < 511 → c.addr / 128 = c.seg → (s.tile c.addr).fitted = true →
      (s.tile c.addr).lastSeq = some (c.seq % 32) →
      exec i s = .next (s.rest { s with out := .tileReply c.seg (s.tile c.addr).lastReply :: s.out })) ∧
    (¬ TileCmd.whole c → exec i s = .next (s.rest s))

/-- TILE_WINDOW at a fitted tile in RUN: the line number is the one latched at the rising edge, else that of the last
LINE_SET, else the previous one plus 1 modulo 2^24, with LINE_INFERRED where it was inferred. Where the tile is not
still sending, the idle blocks since its last frame and 367 blocks follow, whose descrambled words are idle words and
the frame words (header with SYNC, index, line, EXP_SEQ and TEST_PATTERN, the payload, the trailer), and the payload's
slots hold the optical-black samples, the 478 photosites from FIRST_SITE, and 0 where the tile has none; with
TEST_PATTERN 1 they count up from the line number. EXP_SEQ counts the window in every case. Nothing else changes. -/
def Obligations.TileWindowSendsItsFrame : Prop :=
  ∀ (s : State) (t i : Nat) (w : WindowIn), i < s.bar.length → (s.tile i).fitted = true → (s.tile i).mode = .run →
    let d := s.tile i
    let line := match d.window with | some x => x.1 | none => d.lineSet.getD ((d.prevLine + 1) % 2 ^ 24)
    let inferred := match d.window with | some x => x.2 | none => d.lineSet.isNone
    let status := b2n inferred + 2 * b2n w.invalid + 4 * b2n w.tempWarn + 8 * b2n w.supplyWarn
    let start := t + 100 * identDelay d.ident
    let n := identSites d.ident
    Completes (.tileWindow t i w) s (fun m =>
      m = { s.at t with bar := m.bar, out := m.out } ∧ (∀ j, j ≠ i → m.tile j = s.tile j) ∧
      (m.tile i).prevLine = line ∧ (m.tile i).window = none ∧ (m.tile i).expSeq = (d.expSeq + 1) % 256 ∧
      (m.tile i).mode = d.mode ∧ (m.tile i).lastSeq = d.lastSeq ∧
      (start < d.busyUntil → m.out = s.out ∧ (m.tile i).status = d.status) ∧
      (d.busyUntil ≤ start → (m.tile i).busyUntil = start + 19378 ∧ (m.tile i).status = status ∧
        ∃ (il bl : List LaneBlock) (v : List Nat), m.out = .frame i bl :: .idles i il :: s.out ∧ il.length = w.idle ∧ bl.length = 367 ∧
          (runWords descramBit d.scram.toNat ((il ++ bl).map (fun b => b.bits.toNat))).1 =
            List.replicate w.idle 0x1E ++ frameWords (frameHeader i line d.expSeq (d.pattern = 1)) v w.lamp status ∧
          v.length = 1944 ∧ ∀ r k, r < 4 → k < 486 → nthD 0 v (486 * r + k) =
            (if d.pattern = 1 then (486 * r + k + line) % 4096
             else if k < 8 then nthD 0 w.samples ((8 + n) * r + k) % 4096
             else if d.firstSite + (k - 8) < n then nthD 0 w.samples ((8 + n) * r + 8 + d.firstSite + (k - 8)) % 4096
             else 0)))

/-- LANE_LOCK on a lane whose receiver is powered sets PHASE_LOCK, and BLOCK_LOCK too where the lane does not carry raw
training data; no other field and no other lane changes. LOSS_OF_LOCK on a locked lane with no frame of its slot in
progress clears both, sets LOCK_LOST, counts the loss (saturating) and the recovery, and raises one burgee record; no
other field, lane or part of the state changes. -/
def Obligations.LaneLocks : Prop :=
  ∀ (s : State) (t i : Nat), s.Inv → s.asleep = false → i < 512 → i < s.lanes.length →
    (s.quad i ≠ .winter → (∀ x, (s.lane i).train = some x → x.lost = false) →
      Completes (.laneLock t i) s (fun m =>
        m = { s.at t with regs := m.regs, lanes := modifyNth (fun l => { l with lostAt := none }) i s.lanes } ∧
        s.RegsBut m [F.TILE_LANE_STATUS_PHASE_LOCK.cell i, F.TILE_LANE_STATUS_BLOCK_LOCK.cell i] ∧
        m.fld F.TILE_LANE_STATUS_PHASE_LOCK i = 1 ∧
        m.fld F.TILE_LANE_STATUS_BLOCK_LOCK i = (if (s.lane i).train.isNone then 1 else 0))) ∧
    (∀ b, s.bit F.TILE_LANE_STATUS_PHASE_LOCK i = true → (b = true → (s.lane i).slot = none) →
      Completes (.lossOfLock t ⟨i, b⟩) s (fun m =>
        m = { s.at t with regs := m.regs, lanes := m.lanes, flt := m.flt } ∧
        s.RegsBut m [F.TILE_LANE_STATUS_PHASE_LOCK.cell i, F.TILE_LANE_STATUS_BLOCK_LOCK.cell i,
          F.TILE_LANE_STATUS_LOCK_LOST.cell i, F.TILE_LOCK_LOSS_COUNT.cell i, F.FLT_RECOVER_CNT_COUNT.cell,
          F.FLT_RECOVER_MAX_NS.cell, F.FLT_RING_LOST_CNT_COUNT.cell, F.FLT_SUPPRESSED_CNT_COUNT.cell] ∧
        m.fld F.TILE_LANE_STATUS_PHASE_LOCK i = 0 ∧ m.fld F.TILE_LANE_STATUS_BLOCK_LOCK i = 0 ∧
        m.fld F.TILE_LANE_STATUS_LOCK_LOST i = 1 ∧
        m.fld F.TILE_LOCK_LOSS_COUNT i = satAdd F.TILE_LOCK_LOSS_COUNT.width (s.fld F.TILE_LOCK_LOSS_COUNT i) 1 ∧
        (m.lane i).lostAt = some (s.at t).tb ∧ (∀ j, j ≠ i → m.lane j = s.lane j) ∧
        (s.flt.windows = [] → m.flt.seq = s.flt.seq + 1)))

/-- RELOCK_TIMEOUT in RUNNING, HOLDING or DRAINING, 10 ms or more after the lane lost lock, with its quad powered and no
training under way: the lane's full training begins, TRAINING set, BLOCK_LOCK and CTLE 0, and MODE_SET IDLE, MODE_SET
TRAIN and TX_TAP_SET 0 wait on its segment's bar control bus. Nothing else changes. -/
def Obligations.RelockTrains : Prop :=
  ∀ (s : State) (t i t0 : Nat), s.Inv → s.asleep = false → i < 512 → i < s.lanes.length → i / 128 < s.bcbs.length →
    (s.lane i).lostAt = some t0 → t0 + 10000000 ≤ (s.at t).tb → (s.lane i).train = none → s.quad i ≠ .winter →
    (s.op = .running ∨ s.op = .holding ∨ s.op = .draining) →
    Completes (.relockTimeout t i) s (fun m =>
      m = { s.at t with regs := m.regs, lanes := m.lanes, bcbs := m.bcbs } ∧
      s.RegsBut m [F.TILE_LANE_STATUS_TRAINING.cell i, F.TILE_LANE_STATUS_BLOCK_LOCK.cell i, F.TILE_LANE_EQ_CTLE.cell i] ∧
      m.fld F.TILE_LANE_STATUS_TRAINING i = 1 ∧ m.fld F.TILE_LANE_STATUS_BLOCK_LOCK i = 0 ∧ m.fld F.TILE_LANE_EQ_CTLE i = 0 ∧
      (m.lane i).train.isSome = true ∧ (∀ j, j ≠ i → m.lane j = s.lane j) ∧ (∀ g, g ≠ i / 128 → m.bcb g = s.bcb g) ∧
      (m.bcb (i / 128)).queue = (s.bcb (i / 128)).queue ++
        [⟨i, 0x03, [0], .training, 4, 0, 0⟩, ⟨i, 0x03, [1], .training, 4, 0, 0⟩, ⟨i, 0x08, [0], .training, 4, 0, 0⟩])

/-- For every 1,944 samples and lamp sample of 12 bits, status of 4 bits, header word and scrambler state: the 367 blocks
that a tile sends pass the receiver's check of their form, descramble to the header, payload and trailer, the
trailer's CRC-32C is that of header and payload, and the samples, the lamp sample and the status read back are those
that were sent. -/
def Obligations.FrameReadBackWhole : Prop :=
  ∀ (prev : BitVec 58) (h lamp status : Nat) (samples : List Nat), samples.length = 1944 → (∀ x ∈ samples, x < 4096) →
    lamp < 4096 → status < 16 → h < 2 ^ 64 →
    let words := (runWords scramBit prev.toNat (frameWords h samples lamp status)).1
    let blocks := mapIdxFrom (fun k x => LaneBlock.mk (if k = 0 ∨ k = 366 then 2 else 1) (BitVec.ofNat 64 x)) 0 words
    let r := frameRead prev blocks false
    frameShape blocks = true ∧ r.1 = h ∧ bitsOf r.2.2 24 32 = frameCrc h r.2.1 ∧
      (unpackWords 122 r.2.1).take 1944 = samples ∧ r.2.2 % 4096 = lamp ∧ bitsOf r.2.2 16 8 = status

/-- On a lane that is powered, block locked, out of loopback and worked on, with a slot open at the frame's instant and a
header block first: a frame of the right form that passes every check closes the slot, sets the expected EXP_SEQ to
the frame's plus 1 and goes to its engine; one that fails closes the slot and counts in the field that its failure
names; a right CRC with another TILE_ID sets ID_MISMATCH. A slot that ends without a header counts as missing, and the
expected EXP_SEQ advances by 1. A frame that a seal has withdrawn counts nowhere. -/
def Obligations.FrameAccepted : Prop :=
  ∀ (s : State) (t i : Nat) (x : Slot), s.asleep = false → (s.lane i).slot = some x →
    let u := s.at t
    (∀ (prev : BitVec 58) (blocks : List LaneBlock),
      let r := frameRead prev blocks (s.lane i).injectNext
      let crcOk := bitsOf r.2.2 24 32 = frameCrc r.1 r.2.1
      let next := (if crcOk then bitsOf r.1 41 8 + 1 else (s.lane i).expSeq + 1) % 256
      let closed := fun (v : State) => v.modLane i (fun l => { l with slot := none, expSeq := next, injectNext := false })
      s.quad i ≠ .winter → s.fld F.TILE_LANE_CTRL_LOOPBACK i = 0 → s.bit F.TILE_LANE_STATUS_BLOCK_LOCK i = true →
      s.inWork i = true → u.slotHolds i x = true → frameShape blocks = true →
      nthD 0 (runWords descramBit prev.toNat ((blocks.take 1).map (fun b => b.bits.toNat))).1 0 % 256 = 0xB4 → i < s.lanes.length →
      (s.frameCheck i r.1 r.2.2 r.2.1 x.line = none →
        exec (.frameReceived t i prev blocks) s = .next (s.rest
          ((closed u).frameTaken i x (unpackWords 122 r.2.1) (r.2.2 % 4096) (bitsOf r.2.2 16 8)))) ∧
      (∀ f, s.frameCheck i r.1 r.2.2 r.2.1 x.line = some f →
        let v := if crcOk ∧ bitsOf r.1 8 9 ≠ i then
            (u.modLane i (fun l => { l with misId := true })).setFld F.TILE_LANE_STATUS_ID_MISMATCH 1 i else u
        let w := closed v
        exec (.frameReceived t i prev blocks) s = .next (s.rest (if u.sealedOut x then w else (w.count f i).frameLost i x)))) ∧
    (s.slotEnd i x ≤ u.tb →
      let w := u.modLane i (fun l => { l with slot := none, expSeq := ((s.lane i).expSeq + 1) % 256 })
      exec (.frameSlotEnd t i) s = .next (s.rest (if u.sealedOut x then w else (w.count F.TILE_FRAME_MISSING_COUNT i).frameLost i x)))

/-- TRAINING_ROUND on a segment whose set-up transactions are done, with the eye of one lane under training in the CTLE
sweep: the eye's height, width and metric are shown and CTLE takes the next step of the sweep; at its last step the
lane keeps the best CTLE found so far. No transaction goes out in the sweep, and nothing else changes. -/
def Obligations.TrainingRoundMeasures : Prop :=
  ∀ (s : State) (e : Eye) (x : Train), s.Inv → s.asleep = false → e.lane < 512 → e.lane < s.lanes.length → e.h < 64 → e.w < 64 →
    (s.lane e.lane).train = some x → x.stepNo < 8 → x.undo = false → (s.bcb (e.lane / 128)).trainQuiet = true →
    Completes (.trainingRound (e.lane / 128) [e]) s (fun m =>
      m = { s with regs := m.regs, lanes := m.lanes } ∧
      s.RegsBut m [F.TILE_LANE_EYE_EYE_H.cell e.lane, F.TILE_LANE_EYE_EYE_W.cell e.lane, F.TILE_LANE_EYE_METRIC.cell e.lane,
        F.TILE_LANE_EQ_CTLE.cell e.lane] ∧
      m.fld F.TILE_LANE_EYE_EYE_H e.lane = e.h ∧ m.fld F.TILE_LANE_EYE_EYE_W e.lane = e.w ∧
      (x.stepNo < 7 → m.fld F.TILE_LANE_EQ_CTLE e.lane = x.stepNo + 1) ∧
      (m.lane e.lane).eye = (e.h, e.w) ∧ (∀ j, j ≠ e.lane → m.lane j = s.lane j) ∧
      ∃ y, (m.lane e.lane).train = some y ∧ y.stepNo = x.stepNo + 1 ∧
        y.ctle = (if x.stepNo = 0 ∨ x.ctleBest < e.h * e.w then x.stepNo else x.ctle))

/-- BCB_ATTEMPT on a free segment with a transaction at the front of its queue that fits before the next LINE_SET sends
its frame: a broadcast ends with its frame and the bus is free 400 ns after it; an addressed command stands as the
current one with the next sequence number of the tile (a retry keeps its number and is counted). BCB_REPLY with a
frame that checks and matches, in time and without a long gap, frees the bus 400 ns later and hands status and data to
the operation. A reply that does not check, is late or broken off by a gap, and BCB_TIMEOUT 4,000 ns after the
command, free the bus and put the transaction back at the front while attempts are left, else the transaction is lost. -/
def Obligations.BcbTransactions : Prop :=
  ∀ (s : State) (t g : Nat), s.asleep = false → g < s.bcbs.length →
    let u := s.at t
    (∀ (x : Txn) (l : List Txn), (s.bcb g).cur = none → (s.bcb g).queue = x :: l → (s.bcb g).freeAt ≤ u.tb →
      (s.bcb g).setEnd ≤ u.tb → (∀ p : Int, u.nextSet = some p → ((u.tb + x.bound + 400 : Nat) : Int) ≤ p) →
      (x.bcast = true →
        exec (.bcbAttempt t g) s = .next (s.rest { u with
          bcbs := modifyNth (fun b => { b with queue := l, freeAt := u.tb + 400 * (7 + x.data.length) + 400 }) g s.bcbs,
          out := .bcb g (bcbFrame 0 0 x.addr x.op x.data) :: s.out })) ∧
      (x.bcast = false →
        let seq := if x.made = 0 then ((s.lane x.addr).bcbSeq + 1) % 32 else x.seq
        exec (.bcbAttempt t g) s = .next (s.rest
          { (if 0 < x.made then u.count F.TILE_BCB_RETRY_COUNT x.addr else u) with
            lanes := modifyNth (fun n => { n with bcbSeq := seq }) x.addr s.lanes,
            bcbs := modifyNth (fun b => { b with queue := l, cur := some { x with made := x.made + 1, seq := seq },
                                                 cmdEnd := u.tb + 400 * (7 + x.data.length), curEnd := u.tb + x.bound }) g s.bcbs,
            out := .bcb g (bcbFrame 0 seq x.addr x.op x.data) :: s.out }))) ∧
    (∀ (x : Txn), (s.bcb g).cur = some x → (s.bcb g).heldSet = none →
      let free := { u with bcbs := modifyNth (fun b => { b with cur := none, freeAt := u.tb + 400 }) g s.bcbs }
      let again := { u with bcbs := modifyNth (fun b => { b with cur := none, freeAt := u.tb + 400, queue := x :: b.queue }) g s.bcbs }
      let fails := fun (c : Instr) => (x.made < x.tries → exec c s = .next (s.rest again)) ∧
        (x.tries ≤ x.made → exec c s = .next (s.rest (free.txnLost x)))
      (∀ (a : BcbAnswer) (data : List Byte) (status : Nat), parseReply a.bytes = some (x.seq, x.addr, x.op, status, data) →
        a.gap ≤ 2 → u.tb ≤ (s.bcb g).cmdEnd + 4000 + 400 * a.bytes.length →
        exec (.bcbReply t g a) s = .next (s.rest (free.txnDone x status data))) ∧
      (∀ a : BcbAnswer, (parseReply a.bytes = none ∨ 2 < a.gap ∨ (s.bcb g).cmdEnd + 4000 + 400 * a.bytes.length < u.tb) →
        fails (.bcbReply t g a)) ∧
      ((s.bcb g).cmdEnd + 4000 ≤ u.tb → fails (.bcbTimeout t g)))

/-- DISCOVERY_PASS in IDLE or SERVICE with no pass under way puts one IDENT_READ for each of the 128 addresses of each
segment behind what waits there: 4 attempts for a tile known to be present, 1 for a position that is not. Nothing else
changes. -/
def Obligations.DiscoveryReadsEveryAddress : Prop :=
  ∀ (s : State) (t : Nat), s.asleep = false → s.bcbs.length = 4 → s.op = .idle ∨ s.op = .service → s.discovering = false →
    Completes (.discoveryPass t) s (fun m =>
      m = { s.at t with bcbs := m.bcbs } ∧ ∀ g, g < 4 →
        (m.bcb g).queue = (s.bcb g).queue ++ (List.range 128).map (fun k =>
          let i := 128 * g + k
          if s.bit F.TILE_STATUS_PRESENT i then ⟨i, 0x02, [], .reread, 4, 0, 0⟩ else ⟨i, 0x02, [], .discover, 1, 0, 0⟩))

/-- PRBS_LOCK: a checker of a lane or of a port's lane that starts anew and receives bits of its own sequence, whatever
the generator's state, seeds itself from as many bits as its polynomial's degree and is locked after 64 more, with no
error counted; a port shows PRBS_LOCK when its other lanes are locked too. PRBS_LOCK_DROP: a locked checker with 63
errors in the last 1,024 bits that receives one more wrong bit counts it, saturating, starts anew and PRBS_LOCK
clears. Other lanes and ports, and all other fields, are as before. -/
def Obligations.PrbsCheckers : Prop :=
  ∀ (s : State) (i k deg tap reg : Nat), s.Inv → s.asleep = false → reg < 2 ^ deg →
    let good := prbsBits deg tap (deg + 64) reg
    let last := fun (p : Prbs) => p.locked = true ∧ p.errs.length = 63 ∧ ∀ e ∈ p.errs, p.age + 1 < e + 1024
    (i < 512 → i < s.lanes.length →
      (s.fld F.TILE_LANE_CTRL_PRBS i = 1 ∧ deg = 7 ∧ tap = 6 ∨ s.fld F.TILE_LANE_CTRL_PRBS i = 2 ∧ deg = 31 ∧ tap = 28) →
      let only := fun (m : State) => m = { s with regs := m.regs, lanes := m.lanes } ∧
        s.RegsBut m [F.TILE_LANE_STATUS_PRBS_LOCK.cell i, F.TILE_PRBS_ERR_COUNT.cell i] ∧ ∀ j, j ≠ i → m.lane j = s.lane j
      ((s.lane i).prbs = {} → Completes (.prbsLock ⟨.lane i, good⟩) s (fun m => only m ∧ (m.lane i).prbs.locked = true ∧
        m.fld F.TILE_LANE_STATUS_PRBS_LOCK i = 1 ∧
        m.fld F.TILE_PRBS_ERR_COUNT i = satAdd F.TILE_PRBS_ERR_COUNT.width (s.fld F.TILE_PRBS_ERR_COUNT i) 0)) ∧
      (last (s.lane i).prbs → ∀ b, b ≠ prbsNext deg tap (s.lane i).prbs.reg →
        Completes (.prbsLockDrop ⟨.lane i, [b]⟩) s (fun m => only m ∧ (m.lane i).prbs = {} ∧ m.fld F.TILE_LANE_STATUS_PRBS_LOCK i = 0 ∧
          m.fld F.TILE_PRBS_ERR_COUNT i = satAdd F.TILE_PRBS_ERR_COUNT.width (s.fld F.TILE_PRBS_ERR_COUNT i) 1))) ∧
    (i < 17 → i < s.ports.length → (s.port i).prbs.length = 4 → k < s.portLanes i →
      (s.fld F.NET_PORT_TEST_PRBS i = 1 ∧ deg = 7 ∧ tap = 6 ∨ s.fld F.NET_PORT_TEST_PRBS i = 2 ∧ deg = 9 ∧ tap = 5 ∨
        s.fld F.NET_PORT_TEST_PRBS i = 3 ∧ deg = 31 ∧ tap = 28) →
      let p := nthD {} (s.port i).prbs k
      let only := fun (m : State) => m = { s with regs := m.regs, ports := m.ports } ∧
        s.RegsBut m [F.NET_PORT_STATUS_PRBS_LOCK.cell i, F.NET_PRBS_ERR_COUNT.cell i] ∧ ∀ j, j ≠ i → m.port j = s.port j
      (p = {} → Completes (.prbsLock ⟨.port i k, good⟩) s (fun m => only m ∧ (nthD {} (m.port i).prbs k).locked = true ∧
        ((∀ j, j < s.portLanes i → j ≠ k → (nthD {} (s.port i).prbs j).locked = true) → m.fld F.NET_PORT_STATUS_PRBS_LOCK i = 1) ∧
        m.fld F.NET_PRBS_ERR_COUNT i = satAdd F.NET_PRBS_ERR_COUNT.width (s.fld F.NET_PRBS_ERR_COUNT i) 0)) ∧
      (last p → ∀ b, b ≠ prbsNext deg tap p.reg → Completes (.prbsLockDrop ⟨.port i k, [b]⟩) s (fun m => only m ∧
        nthD {} (m.port i).prbs k = {} ∧ m.fld F.NET_PORT_STATUS_PRBS_LOCK i = 0 ∧
        m.fld F.NET_PRBS_ERR_COUNT i = satAdd F.NET_PRBS_ERR_COUNT.width (s.fld F.NET_PRBS_ERR_COUNT i) 1)))

/-- ENCODER_EDGE whose changed signals have stood still for the filter's time, 5 × (FILT + 1) ns and 80 ns in Winter: at a
disabled encoder the levels alone are taken. At an enabled one, one signal changed, the other not in the same sample,
moves the 48-bit position by 1 up or down (A leading B counts up, INVERT_DIR turns it over), records the instant less
the filter's time (not in Winter) and sets DIR; at the master with the domain up the tracking loop takes the edge as
well; both changed count a quadrature error and set QUAD_ERR. A change that follows the signal's last one by less than
the filter's time is removed. INDEX_EDGE to the active level with Z enabled, no index seen and no search on the input
latches the position. Which phase order counts up is assumption log 23, how the filter removes a pulse assumption log
166. Nothing else changes. -/
def Obligations.EncoderCounts : Prop :=
  ∀ (s : State) (t k : Nat), s.Inv → k < 8 → k < s.encs.length →
    let u := s.at t
    let e := s.enc k
    let up := decide (s.season domUnc = .summer)
    let filt := if up then 5 * (s.fld F.ENC_CFG_FILT k + 1) else 80
    let passes := fun (last : Option Nat) => ∀ x, last = some x → x + filt ≤ u.tb
    let apart := fun (last : Option Nat) => ∀ x, last = some x → x / (if up then 1 else 40) ≠ u.tb / (if up then 1 else 40)
    let put := fun (f : Enc → Enc) => { u with encs := modifyNth f k s.encs }
    (∀ a b : Bool,
      let ta := if a = e.a then e.ta else some u.tb
      let tb := if b = e.b then e.tb else some u.tb
      (s.bit F.ENC_CFG_ENABLE k = false → passes e.ta → passes e.tb →
        exec (.encoderEdge t k a b) s = .next (s.rest (put (fun x => { x with a := a, b := b, ta := ta, tb := tb, step := 0 })))) ∧
      (s.bit F.ENC_CFG_ENABLE k = true →
        let pos := Bool.xor (if a = e.a then b == a else a != e.b) (s.bit F.ENC_CFG_INVERT_DIR k)
        let d : Int := if pos then 1 else -1
        let v := (put (fun _ => { e with a := a, b := b, ta := ta, tb := tb, pos := wrapS 48 (e.pos + d), step := d, ts := if up then u.tb - filt else e.ts })).setFld F.ENC_STATUS_DIR (if pos then 0 else 1) k
        ((a ≠ e.a ∧ b = e.b ∧ passes e.ta ∧ apart e.tb ∨ a = e.a ∧ b ≠ e.b ∧ passes e.tb ∧ apart e.ta) →
          (k ≠ s.masterIdx ∨ up = false → exec (.encoderEdge t k a b) s = .next (s.rest v)) ∧
          (k = s.masterIdx → up = true →
            exec (.encoderEdge t k a b) s = .next (s.rest (v.masterEdge (u.tb - filt) v.masterPos).mediaMoved))) ∧
        (a ≠ e.a → b ≠ e.b → passes e.ta → passes e.tb → k ≠ s.masterIdx ∨ up = false →
          Completes (.encoderEdge t k a b) s (fun m =>
            m = { put (fun x => { x with a := a, b := b, ta := ta, tb := tb, step := 0 }) with regs := m.regs } ∧
            s.RegsBut m [F.ENC_QUAD_ERR_CNT_COUNT.cell k, F.ENC_STATUS_QUAD_ERR.cell k] ∧ m.fld F.ENC_STATUS_QUAD_ERR k = 1 ∧
            m.fld F.ENC_QUAD_ERR_CNT_COUNT k = satAdd F.ENC_QUAD_ERR_CNT_COUNT.width (s.fld F.ENC_QUAD_ERR_CNT_COUNT k) 1))) ∧
      (∀ x, e.ta = some x → u.tb < x + filt → a ≠ e.a → b = e.b →
        exec (.encoderEdge t k a b) s = .next (s.rest (put (fun x => { x with step := 0 }))))) ∧
    (∀ z : Bool, z ≠ e.z → passes e.tz → s.bit F.ENC_CFG_ENABLE k = true → s.bit F.ENC_CFG_Z_EN k = true →
      z = !s.bit F.ENC_CFG_Z_POL k → s.bit F.ENC_STATUS_INDEX_SEEN k = false →
      (∀ g p, g < 4 → (s.group g).homing = some p → s.fld F.MOT_AXIS_HOME_INPUT p.axis ≠ k) →
      Completes (.indexEdge t k z) s (fun m =>
        m = { put (fun x => { x with z := z, tz := some u.tb }) with regs := m.regs } ∧
        s.RegsBut m [F.ENC_INDEX_POS_LO_POS.cell k, F.ENC_INDEX_POS_HI_POS.cell k, F.ENC_STATUS_INDEX_SEEN.cell k] ∧
        m.fld F.ENC_INDEX_POS_LO_POS k = ofSigned 48 e.pos % 2 ^ 32 ∧
        m.fld F.ENC_INDEX_POS_HI_POS k = ofSigned 48 e.pos / 2 ^ 32 ∧ m.fld F.ENC_STATUS_INDEX_SEEN k = 1))

/-- STILL_TIMEOUT 1 ms or more after the last master edge sets STILL, the estimated rate is 0, no line is predicted, and
no edge of before counts in a mean rate; nothing else changes. -/
def Obligations.StillAfterAMillisecond : Prop :=
  ∀ (s : State) (t : Nat), s.Inv → s.asleep = false → s.bit F.SCHED_STATUS_STILL = false → s.sched.tk + 1000000 ≤ (s.at t).tb →
    Completes (.stillTimeout t) s (fun m =>
      m = { s.at t with regs := m.regs, sched := { s.sched with vHat := 0, tn := none, edges := [] } } ∧
      s.RegsBut m [F.SCHED_STATUS_STILL.cell] ∧ m.fld F.SCHED_STATUS_STILL = 1)

/-- LINE_COMMIT while lines are placed (a job, a time-mode sequence or an alignment), with none committed, the predicted
instant not further away than the commit lead, no minimum interval broken and, for a job, the line not beyond the
job's last exposure: the target line is committed without its gate, carrying the bank swap that is pending if the line
is a job's and, in line mode, its number minus SWAP_LINE is not negative, and LINE_SET with its number goes out on
every driven segment that is free or waits behind the attempt in progress. A job line's commit also sends the engines
their temperatures and reference rows. Nothing else changes. -/
def Obligations.LineCommits : Prop :=
  ∀ (s : State) (t : Nat) (tn : Int), s.Inv → s.asleep = false →
    let u := s.at t
    (s.placing = true ∨ s.timeRuns = true ∨ s.alignRuns = true) → s.sched.cur = none → u.tNow = some tn →
    tn ≤ (u.tb : Int) + s.commitLead → (∀ r, s.sched.lastRise = some r → ((r + s.tMin : Nat) : Int) ≤ tn) →
    (s.placing = true → ∀ l, s.lastExposure = some l → s.sched.target ≤ l) →
    let n := s.sched.target
    let swap := s.placing && s.swapDue n
    Completes (.lineCommit t) s (fun m =>
      m = { u with sched := { s.sched with cur := some ⟨n, none, 0, 0, swap, s.sched.timeMode⟩ }, bcbs := m.bcbs, out := m.out,
                   engs := m.engs, regs := m.regs, ana := m.ana } ∧
      (s.placing = false → m.engs = s.engs ∧ m.regs = s.regs ∧ m.ana = s.ana) ∧
      (∀ g, g ∈ s.driven → g < s.bcbs.length →
        ((s.bcb g).cur = none →
          .bcb g (bcbFrame 0 0 0x1FF 0x0A (be 3 n)) ∈ m.out ∧ (m.bcb g).setEnd = max u.tb (s.bcb g).freeAt + 4000) ∧
        ((s.bcb g).cur ≠ none → (m.bcb g).heldSet = some n)))

/-- LUM_GATE for the committed line, once its rising edge is neither early nor too near the last one and no LINE_SET is
held back, sends a gate on every driven chain and fixes the rising edge LUM_LEAD_NS later; a gate later than predicted
counts as clamped. BSTB_RISE at that instant drives BSTB high on every driven segment, whose tiles latch the line
number, and the line counts as the last one risen and as exposed. BSTB_FALL EXPO_NS later drives BSTB low and opens a
frame slot for the line on every lane worked on; after a job's last exposure in RUNNING the job drains. -/
def Obligations.GateAndWindow : Prop :=
  ∀ (s : State) (t : Nat) (c : Commit), s.Inv → s.asleep = false →
    let u := s.at t
    let lead := s.fld F.SCHED_LUM_LEAD_NS
    (∀ tn : Int, s.sched.cur = some c → u.tNow = some tn → c.gate = none →
      (s.placing = true ∨ s.timeRuns = true ∨ s.alignRuns = true) →
      tn ≤ ((u.tb + lead : Nat) : Int) → s.setEnd + 1000 ≤ u.tb + lead →
      (∀ r, s.sched.lastRise = some r → r + s.tMin ≤ u.tb + lead) → (∀ g ∈ s.driven, (s.bcb g).heldSet = none) →
      Completes (.lumGate t) s (fun m =>
        m = { u with regs := m.regs, chains := m.chains, drivers := m.drivers, engs := m.engs, ops := m.ops, out := m.out,
                     sched := { s.sched with cur := m.sched.cur, lastGate := u.tb, placedGate := some u.tb } } ∧
        (∃ cap, m.sched.cur = some { c with gate := some u.tb, rise := u.tb + lead, capture := cap }) ∧
        (∀ ch ∈ s.driven, .gate ch (s.fld F.SCHED_LUM_GATE_W) u.tb ∈ m.out) ∧
        (tn < ((u.tb + lead : Nat) : Int) → m.fld F.SCHED_STATUS_CLAMPED = 1))) ∧
    (s.sched.cur = some c → c.gate.isSome = true → c.rise ≤ u.tb →
      Completes (.bstbRise t) s (fun m =>
        m.sched.cur = none ∧ m.sched.expo = some c ∧ m.sched.lastRise = some c.rise ∧
        (∀ g ∈ s.driven, .bstb g true c.rise ∈ m.out) ∧
        ∀ i, i < s.bar.length → i / 128 ∈ s.driven → (m.tile i).window = (TileDev.rise (s.tile i)).window)) ∧
    (s.sched.expo = some c → c.rise + s.fld F.EXPO_NS_NS ≤ u.tb →
      Completes (.bstbFall t) s (fun m =>
        m.sched.expo = none ∧ (∀ g ∈ s.driven, .bstb g false (c.rise + s.fld F.EXPO_NS_NS) ∈ m.out) ∧
        (∀ i ∈ s.workTiles, i < s.lanes.length → (m.lane i).slot =
          some ⟨c.line, c.time || s.alignRuns, c.capture, c.rise + s.fld F.EXPO_NS_NS⟩) ∧
        (c.time = false → s.op = .running → s.lastExposure = some c.line → m.op = .draining)))

/-- KEEP_WARM_GATE in ARMED, in HOLDING, or in RUNNING with REVERSE set or the master at a standstill, with no gated line,
the keep-warm interval and the 6,000 ns after a placed gate's falling edge over and no commit soon, sends a gate on
every driven chain and counts as the last gate. SERVICE_GATE of a LUM_DIAG that works on the chain, its interval over,
sends one on that chain and notes its instant. Lines, the schedule of lines, memory and registers other than the
derating factors latched are as before. -/
def Obligations.KeepWarmAndServiceGates : Prop :=
  ∀ (s : State) (t : Nat), s.Inv → s.asleep = false →
    let u := s.at t
    let cells := (List.range 256).map (fun d => F.LUM_SEC_DERATE_FACTOR.cell d)
    ((s.op = .armed ∨ s.op = .holding ∨
        s.op = .running ∧ (s.bit F.SCHED_STATUS_REVERSE = true ∨ s.bit F.SCHED_STATUS_STILL = true)) →
      (∀ c, s.sched.cur = some c → c.gate = none) → s.sched.lastGate + s.keepWarm ≤ u.tb →
      (∀ g, s.sched.placedGate = some g → g + s.fld F.SCHED_LUM_GATE_W + 6000 ≤ u.tb) → u.noCommitSoon = true →
      Completes (.keepWarmGate t) s (fun m =>
        m = { u with regs := m.regs, chains := m.chains, drivers := m.drivers, engs := m.engs, ops := m.ops, out := m.out,
                     sched := { s.sched with lastGate := u.tb } } ∧ s.RegsBut m cells ∧
        ∀ ch ∈ s.driven, .gate ch (s.fld F.SCHED_LUM_GATE_W) u.tb ∈ m.out)) ∧
    (∀ (c : Nat) (g : LumDiag) (p : Nat), s.ops.diag = some g → assocGet c g.chains = some p →
      (∀ x, assocGet c g.gates = some x → x + max (s.fld F.LUM_KW_NS_NS) 10000 ≤ u.tb) → c < 4 →
      Completes (.serviceGate t c) s (fun m =>
        m = { u with regs := m.regs, chains := m.chains, drivers := m.drivers, engs := m.engs, ops := m.ops, out := m.out } ∧
        s.RegsBut m cells ∧ .gate c (s.fld F.SCHED_LUM_GATE_W) u.tb ∈ m.out))

/-- REFRESH_START where a refresh is due and no control pair recovers sends one ring frame, whatever bits of it arrive
wrong, and the chain awaits its stream. REFRESH_RETURN with COUNT status slots of even parity passes, as it does where
the drivers themselves answer a frame of COUNT slots on a chain of COUNT: the refresh sequence number increases and
REFRESHING clears; any other stream counts a ring error and sets RING_ERR. COMMIT_MARK, once due, sends the mark,
which every driver that it reaches takes; a return outside 3,500 to 4,500 ns sets MARK_ERR. DRIVER_TIMEOUT, 20 ms
after a fitted driver last saw a frame or gate, clears its duties, in Winter too. -/
def Obligations.RingRefresh : Prop :=
  ∀ (s : State) (t c : Nat), s.Inv → c < 4 → c < s.chains.length →
    let u := s.at t
    (s.asleep = false →
      (∀ flips, s.refreshDue c = true → s.pairDown = false →
        Completes (.refreshStart t ⟨c, flips⟩) s (fun m =>
          m = { u with regs := m.regs, chains := m.chains, drivers := m.drivers, out := .ring c ((s.refreshSlots c).1.flatMap slotBits) :: s.out } ∧
          s.RegsBut m [F.LUM_CHAIN_STATUS_REFRESHING.cell c] ∧ m.fld F.LUM_CHAIN_STATUS_REFRESHING c = 1 ∧
          (m.chain c).waiting = true ∧ (∀ j, j ≠ c → m.chain j = s.chain j))) ∧
      ((s.chain c).waiting = true →
        let passes := fun (r : RingReturn) => Completes (.refreshReturn t c r) s (fun m =>
          (m.chain c).waiting = false ∧ (m.chain c).passed = true ∧ (m.chain c).fails = 0 ∧
          m.fld F.LUM_REFRESH_SEQ_SEQ c = (s.fld F.LUM_REFRESH_SEQ_SEQ c + 1) % 2 ^ F.LUM_REFRESH_SEQ_SEQ.width ∧
          m.fld F.LUM_CHAIN_STATUS_REFRESHING c = 0 ∧ m.mem = s.mem ∧ m.sessions = s.sessions ∧ m.sched = s.sched ∧
          m.prod = s.prod)
        (∀ bits, streamOk bits (s.chainCount c) = true → passes (.raw bits)) ∧
        (∀ l, s.ringDrivers c = s.chainCount c → (s.chain c).sent.length ≤ s.chainCount c → passes (.slots l)) ∧
        (∀ bits, streamOk bits (s.chainCount c) = false → (s.chain c).fails ≠ 2 → (s.chain c).eqxFails < 2 →
          Completes (.refreshReturn t c (.raw bits)) s (fun m =>
            m.fld F.LUM_CHAIN_STATUS_RING_ERR c = 1 ∧
            m.fld F.LUM_RING_ERR_CNT_COUNT c = satAdd F.LUM_RING_ERR_CNT_COUNT.width (s.fld F.LUM_RING_ERR_CNT_COUNT c) 1 ∧
            (m.chain c).fails = (s.chain c).fails + 1 ∧ (m.chain c).passed = false ∧
            (m.chain c).waiting = s.refreshes c ∧ m.mem = s.mem ∧ m.sessions = s.sessions ∧ m.sched = s.sched))) ∧
      (∀ (d : Nat) (ret : MarkReturn), (s.chain c).markDue = some d → d ≤ u.tb →
        let back := 3500 ≤ ret.ns ∧ ret.ns ≤ 4500
        Completes (.commitMark t c ret) s (fun m =>
          m = { u with regs := m.regs, flt := m.flt, chains := m.chains, drivers := m.drivers, out := .mark c :: s.out } ∧
          (m.chain c).marked = true ∧ (m.chain c).markDue = none ∧ (∀ j, j ≠ c → m.chain j = s.chain j) ∧
          (back → m.regs = s.regs ∧ m.flt = s.flt) ∧ (¬ back → m.fld F.LUM_CHAIN_STATUS_MARK_ERR c = 1) ∧
          ∀ k, k < s.ringDrivers c → 64 * c + k < s.drivers.length → (m.driver (64 * c + k)).committed =
            (if back ∨ k < ret.reach then (s.driver (64 * c + k)).shadow.isSome else (s.driver (64 * c + k)).committed)))) ∧
    (∀ d, d < s.drivers.length → (s.driver d).fitted = true → (s.driver d).lastSeen + 20000000 ≤ u.tb →
      exec (.driverTimeout t d) s = .next (s.rest { u with
        drivers := modifyNth (fun x => { x with front := 0, rear := 0, nir := 0, lastGate := none }) d s.drivers }))

/-- PROFILE_TICK of a group with a running move: while an axis of the move does not show its direction, or has not shown
it for DIR_SETUP before the microsecond that ends, no axis steps. Otherwise the master's step count goes from `made`
to some k between `made` and the length of the move, and each axis emits exactly the steps that lie between those two
points of the straight line, rhe(n x |delta| / length), in the direction of its delta; no other axis steps. With no
axis on an encoder, each position follows its steps modulo 2^48. -/
def Obligations.ProfileTickSteps : Prop :=
  ∀ (s : State) (t g : Nat) (r : Run), s.asleep = false → g < 4 → g < s.groups.length → s.axes.length = 8 →
    (s.group g).run = some r → r.made ≤ masterLen r.delta → r.delta.length = 8 →
    let upTo := fun (n x : Nat) => (rheDiv ((n * (nthD 0 r.delta x).natAbs : Nat) : Int) (masterLen r.delta)).toNat
    let ready := ∀ x, x < 8 → nthD 0 r.delta x ≠ 0 → (s.axis x).positive = decide (0 < nthD 0 r.delta x) ∧
      ∀ d, (s.axis x).dirAt = some d → d + 5 * s.fld F.MOT_AXIS_TIMING_DIR_SETUP x + 1000 ≤ (s.at t).tb
    (¬ ready → Completes (.profileTick t g) s (fun m => ∀ x, x < 8 → (m.axis x).steps = (s.axis x).steps)) ∧
    (ready → Completes (.profileTick t g) s (fun m =>
      ∃ k, r.made ≤ k ∧ k ≤ masterLen r.delta ∧ ∀ x, x < 8 →
        let n := upTo k x - upTo r.made x
        let sg : Int := if nthD 0 r.delta x < 0 then -1 else 1
        (m.axis x).steps = (s.axis x).steps + sg * n ∧
        ((∀ y, y < 8 → s.bit F.MOT_AXIS_CFG_ENC_EN y = false) →
          (m.axis x).pos = (if n = 0 then (s.axis x).pos else wrapS 48 ((s.axis x).pos + sg * n)))))

/-- ESTOP with a low level where the level was high: ESTOP and ESTOP_LATCH are set, every group's queue is empty and
nothing of it moves or homes, and the position of an axis without an encoder is lost; a scan that runs or holds takes
it as a hold cause as well. A high level clears ESTOP and leaves the latch and everything else as it was. -/
def Obligations.EmergencyStop : Prop :=
  ∀ (s : State) (t : Nat), s.Inv → s.asleep = false →
    let still := fun (m : State) => m.env.estop = true ∧
      ∀ g, g < 4 → (m.group g).queue = [] ∧ (m.group g).run = none ∧ (m.group g).homing = none
    (s.bit F.MOT_STATUS_ESTOP = false → s.groups.length = 4 → Completes (.estop t true) s still) ∧
    (s.bit F.MOT_STATUS_ESTOP = false → s.groups.length = 4 → (s.op ≠ .running ∧ s.op ≠ .holding ∨ s.job.scan = false) →
      Completes (.estop t true) s (fun m =>
        still m ∧ m.fld F.MOT_STATUS_ESTOP = 1 ∧ m.fld F.MOT_STATUS_ESTOP_LATCH = 1 ∧
        (∀ x, x < 8 → s.fld F.MOT_AXIS_CFG_GROUP x < 4 → s.bit F.MOT_AXIS_CFG_ENC_EN x = false →
          m.fld F.MOT_AXIS_STATUS_POSITION_LOST x = 1) ∧
        m = { s.at t with env := m.env, regs := m.regs, groups := m.groups, axes := m.axes, out := m.out })) ∧
    Completes (.estop t false) s (fun m =>
      m = { s.at t with env := { s.env with estop := false }, regs := m.regs } ∧ s.RegsBut m [F.MOT_STATUS_ESTOP.cell] ∧
      m.fld F.MOT_STATUS_ESTOP = 0)

/-- HOME_SWITCH does what INDEX_EDGE does at the index input that the axis names. With no search and no index capture
armed there it sets the level and nothing else changes, unless the input's filter removes the change. When one search
uses the input, it is in its last phase and the switch now reads active: the axis takes HOME_POS, POSITION_LOST,
MICROSTEP_UNKNOWN, STALL and POS_MISMATCH are clear, HOMED is set, the group rests with DONE_TAG 0xFFFF, and
DONE.COUNT is as before. -/
def Obligations.HomeSwitchEndsTheSearch : Prop :=
  ∀ (s : State) (t ax : Nat) (level : Bool), s.Inv → s.asleep = false → ax < 8 → s.axes.length = 8 → s.groups.length = 4 →
    s.encs.length = 8 →
    let k := s.fld F.MOT_AXIS_HOME_INPUT ax
    let u := s.at t
    let z := (s.enc k).z
    let passes := ∀ x, (s.enc k).tz = some x → x + s.encFilter k ≤ u.tb
    exec (.homeSwitch t ax level) s = exec (.indexEdge t k level) s ∧
    ((∀ g, g < 4 → (s.group g).homing = none) → s.bit F.ENC_CFG_Z_EN k = false →
      (passes → exec (.homeSwitch t ax level) s = .next (s.rest { u with
        encs := modifyNth (fun e => { e with z := level, tz := if level = z then e.tz else some u.tb }) k s.encs })) ∧
      (¬ passes → exec (.homeSwitch t ax level) s = .next (s.rest u))) ∧
    (∀ (g : Nat) (p : Homing), g < 4 → (s.group g).homing = some p → (∀ j, j < 4 → j ≠ g → (s.group j).homing = none) →
      p.axis = ax → p.phase = 5 → k < 8 → (level = z ∨ passes) → level = !s.bit F.MOT_AXIS_HOME_POL ax → s.bit F.MOT_GRP_CFG_DONE_EV_EN g = false →
      Completes (.homeSwitch t ax level) s (fun m =>
        m = { s.at t with regs := m.regs, encs := m.encs, groups := m.groups, axes := m.axes } ∧
        (m.group g).homing = none ∧ (m.axis ax).pos = s.sfld F.MOT_AXIS_HOME_POS_POS ax ∧
        m.fld F.MOT_AXIS_STATUS_HOMED ax = 1 ∧ m.fld F.MOT_AXIS_STATUS_POSITION_LOST ax = 0 ∧
        m.fld F.MOT_AXIS_STATUS_MICROSTEP_UNKNOWN ax = 0 ∧ m.fld F.MOT_AXIS_STATUS_STALL ax = 0 ∧
        m.fld F.MOT_AXIS_STATUS_POS_MISMATCH ax = 0 ∧ m.fld F.MOT_GRP_STATUS_DONE_TAG g = 0xFFFF ∧
        m.fld F.MOT_GRP_DONE_COUNT g = s.fld F.MOT_GRP_DONE_COUNT g))

/-- HOLD_DELAY_EXPIRY of an axis whose group is at rest for HOLD_DELAY sets its hold current: with no encoder its
reference is IREF_HOLD if the axis is enabled (FAULT_HOLD apart), else 0, and it does not boost. AXIS_ENABLE_DELAY at
or after the instant that its enabling waits for lets the axis move. Nothing else changes. -/
def Obligations.AxisDelays : Prop :=
  ∀ (s : State) (t ax : Nat), s.Inv → s.asleep = false → ax < 8 → s.axes.length = 8 →
    ((4 ≤ s.fld F.MOT_AXIS_CFG_GROUP ax ∨ s.groupMoving (s.fld F.MOT_AXIS_CFG_GROUP ax) = false) →
      (s.axis ax).restAt + 1000000 * s.fld F.MOT_AXIS_BOOST_HOLD_DELAY ax ≤ (s.at t).tb →
      Completes (.holdDelayExpiry t ax) s (fun m =>
        m = { s.at t with regs := m.regs, axes := modifyNth (fun a => { a with hold := true }) ax s.axes } ∧
        s.RegsBut m [F.MOT_AXIS_STATUS_IREF.cell ax, F.MOT_AXIS_STATUS_BOOSTING.cell ax] ∧
        (s.bit F.MOT_AXIS_CFG_ENC_EN ax = false → m.fld F.MOT_AXIS_STATUS_BOOSTING ax = 0 ∧
          (s.bit F.MOT_AXIS_STATUS_ENABLED ax = false → m.fld F.MOT_AXIS_STATUS_IREF ax = 0) ∧
          (s.bit F.MOT_AXIS_STATUS_ENABLED ax = true → s.op ≠ .faultHold →
            m.fld F.MOT_AXIS_STATUS_IREF ax = s.fld F.MOT_AXIS_IREF_HOLD ax % 2 ^ F.MOT_AXIS_STATUS_IREF.width)))) ∧
    (∀ d, (s.axis ax).enabling = some d → d ≤ (s.at t).tb →
      exec (.axisEnableDelay t ax) s = .next (s.rest { s.at t with
        axes := modifyNth (fun a => { a with enabling := none, canMove := true }) ax s.axes }))

/-- SERVO_TICK of a scan that runs in the pacing phase below the HOLD mark commands SCAN_VMAX at or below the PACE_LO
mark, SCAN_VMIN at or above the PACE_HI mark, and between them the speed on the straight line. BRAKING_DONE at rest in
the braking phase, with no stall, no latched stop and every paced axis enabled, goes on to BACKING with one move
queued. BACKING_DONE at rest at the turn position goes on to WAITING. WAIT_RELEASE, once the fill is at or below the
RESUME mark, every span lane is block locked, no span engine restarts, an OWNER is connected, no ESTOP is latched and
no paced axis has STALL, POSITION_LOST or MICROSTEP_UNKNOWN set, goes on to APPROACH at SCAN_VMIN. -/
def Obligations.PacingServo : Prop :=
  ∀ (s : State) (t : Nat), s.Inv → s.asleep = false →
    let u := s.at t
    let rests := fun (k : Nat) => s.op = .holding ∧ s.fld F.SCAN_STATUS_PHASE = k ∧ s.groupBusy s.pacedGroup = false
    (s.job.scan = true → s.op = .running → s.fld F.SCAN_STATUS_PHASE = 1 → s.fill < s.markLines (s.fld F.SCAN_MARK1_HOLD) →
      let lo := s.markLines (s.fld F.SCAN_MARK0_PACE_LO)
      let hi := s.markLines (s.fld F.SCAN_MARK0_PACE_HI)
      let vmax := s.fld F.SCAN_VMAX_PCS
      let vmin := s.fld F.SCAN_VMIN_PCS
      Completes (.servoTick t) s (fun m => m = { u with regs := m.regs } ∧
        (s.fill ≤ lo → m.fld F.SCAN_VCMD_PCS = vmax % 2 ^ F.SCAN_VCMD_PCS.width) ∧ (lo < s.fill → hi ≤ s.fill → m.fld F.SCAN_VCMD_PCS = vmin % 2 ^ F.SCAN_VCMD_PCS.width) ∧
        (lo < s.fill → s.fill < hi → m.fld F.SCAN_VCMD_PCS =
          (rheDiv ((vmax * (hi - lo) - (vmax - vmin) * (s.fill - lo) : Nat) : Int) (hi - lo)).toNat % 2 ^ F.SCAN_VCMD_PCS.width))) ∧
    (rests 2 → s.bit F.MOT_STATUS_ESTOP_LATCH = false →
      (∀ x ∈ s.axesOf s.pacedGroup, s.bit F.MOT_AXIS_STATUS_STALL x = false ∧ s.bit F.MOT_AXIS_STATUS_ENABLED x = true) →
      s.pacedGroup < s.groups.length →
      Completes (.brakingDone t) s (fun m =>
        m = { u with regs := m.regs, scan := m.scan, groups := m.groups } ∧
        s.RegsBut m [F.SCAN_STATUS_PHASE.cell, F.SCAN_BACKOFF_PC.cell] ∧ m.fld F.SCAN_STATUS_PHASE = 3 ∧
        (m.group s.pacedGroup).queue.length = 1 ∧ (∀ g, g ≠ s.pacedGroup → m.group g = s.group g))) ∧
    (rests 3 → (s.axis s.pacedAxis).pos = s.scan.back →
      Completes (.backingDone t) s (fun m => m = { u with regs := m.regs } ∧ s.RegsBut m [F.SCAN_STATUS_PHASE.cell] ∧
        m.fld F.SCAN_STATUS_PHASE = 4)) ∧
    (rests 4 → s.fill ≤ s.markLines (s.fld F.SCAN_MARK1_RESUME) →
      (∀ i ∈ s.span, s.bit F.TILE_LANE_STATUS_BLOCK_LOCK i = true ∧ (s.eng i).restarting = none) → s.owner ≠ none →
      s.bit F.MOT_STATUS_ESTOP_LATCH = false →
      (∀ x ∈ s.axesOf s.pacedGroup, s.bit F.MOT_AXIS_STATUS_STALL x = false ∧ s.bit F.MOT_AXIS_STATUS_POSITION_LOST x = false ∧
        s.bit F.MOT_AXIS_STATUS_MICROSTEP_UNKNOWN x = false) → s.pacedGroup < s.groups.length →
      Completes (.waitRelease t) s (fun m => m = { u with regs := m.regs, groups := m.groups } ∧
        s.RegsBut m [F.SCAN_STATUS_PHASE.cell, F.SCAN_VCMD_PCS.cell] ∧ m.fld F.SCAN_STATUS_PHASE = 5 ∧
        m.fld F.SCAN_VCMD_PCS = s.fld F.SCAN_VMIN_PCS % 2 ^ F.SCAN_VCMD_PCS.width ∧
        (m.group s.pacedGroup).queue.length = 1 ∧ (∀ g, g ≠ s.pacedGroup → m.group g = s.group g)))

/-- LINE_PRODUCED, when the inputs of the lowest placed line not yet decided on are in and it lies neither beyond the
job's count nor above a seal, makes that line the last one produced, the next output is the line after it, and one
packet more waits in the tree. VERDICT_UNIT_LINE takes the oldest packet from the tree. EVT_PULSE_END, once a pin's
pulse is over, releases the pin, unless a verdict of MODE 1 holds it, and leaves the other pulses. KERNEL_BUDGET on a
line in the tree marks the engine's kernel as over its budget and counts it. -/
def Obligations.LinesGoThroughTheTree : Prop :=
  ∀ (s : State) (t : Nat), s.Inv → s.asleep = false →
    let u := s.at t
    (∀ n, (s.op = .calibrating ∨ s.op = .running ∨ s.op = .holding ∨ s.op = .draining) → s.prod.n0 ≠ none →
      n ∈ s.prod.placed → s.nextOut ≤ n → (∀ k ∈ s.prod.placed, s.nextOut ≤ k → n ≤ k) → s.inputsIn n = true →
      (s.job.lineCount ≠ 0 → n < s.job.lineCount) → (∀ l, s.prod.sealNext = some l → n < l) →
      Completes (.lineProduced t) s (fun m => m.prod.last = some n ∧ m.prod.next = n + 1 ∧
        m.prod.firstOut = some (s.prod.firstOut.getD n) ∧ m.prod.tree.length = s.prod.tree.length + 1 ∧ m.sched = s.sched)) ∧
    (∀ x l, s.prod.tree = x :: l → Completes (.verdictUnitLine t) s (fun m => m.prod.tree = l ∧ m.prod.last = s.prod.last ∧
        m.prod.next = s.prod.next ∧ m.prod.elastic.length = s.prod.elastic.length ∧ m.sched = s.sched)) ∧
    (∀ k e, assocGet k s.ana.pulses = some e → e ≤ u.tb → k < 8 →
      Completes (.evtPulseEnd t k) s (fun m =>
        m = { u with regs := m.regs, out := m.out, ana := { s.ana with pulses := assocDel k s.ana.pulses } } ∧
        s.RegsBut m [F.ANA_EVT_STATUS_ASSERTED.cell] ∧
        (bitAt (s.fld F.ANA_EVT_STATUS_ASSERTED) k = true → (s.bit F.ANA_EVT_CFGk_MODE k = false ∨ s.ana.pinsOn = false ∨
            Nat.land s.ana.active (s.fld F.ANA_EVT_CFGk_TYPES k) = 0) →
          m.out = .pin k (s.bit F.ANA_EVT_CFGk_POL k) :: s.out ∧
          m.fld F.ANA_EVT_STATUS_ASSERTED = (s.fld F.ANA_EVT_STATUS_ASSERTED - 2 ^ k) % 2 ^ F.ANA_EVT_STATUS_ASSERTED.width))) ∧
    (∀ i, s.bit F.PIPE_KERNEL_CFG_EN = true → s.sec.kernel ≠ [] → s.prod.tree ≠ [] → s.inSpan i = true → (s.eng i).kernelOver = false →
      i < s.engs.length →
      Completes (.kernelBudget i) s (fun m =>
        m = { s with regs := m.regs, engs := modifyNth (fun e => { e with kernelOver := true }) i s.engs } ∧
        s.RegsBut m [F.PIPE_KERNEL_OVERRUN_CNT_COUNT.cell] ∧
        m.fld F.PIPE_KERNEL_OVERRUN_CNT_COUNT =
          satAdd F.PIPE_KERNEL_OVERRUN_CNT_COUNT.width (s.fld F.PIPE_KERNEL_OVERRUN_CNT_COUNT) 1))

/-- SRAM_UE of more than one bit at an engine that runs, outside a SCAN job's span and with its bank images whole, with
fewer than 2 restarts in the last second, sets SRAM_UE, clears RUNNING and begins the restore; ENGINE_WATCHDOG 5 us
after an accepted frame that has given no packet does the same with WDOG. A single-bit error only counts in
SRAM_CE_CNT. ENGINE_RESTART_DONE with BMV0 running the restore ends the restore: the engine runs again with the active
bank of the others, its restart is counted, and one recovery is counted. -/
def Obligations.EngineFaultRestartsTheEngine : Prop :=
  ∀ (s : State) (t i : Nat), s.Inv → s.asleep = false → i < 512 → i < s.engs.length → s.season (i / 4) ≠ .winter →
    let u := s.at t
    let stops := fun (f : Fld) (m : State) => m.fld f i = 1 ∧ m.fld F.TILE_ENG_STATUS_RUNNING i = 0 ∧
      (m.eng i).restarting = some u.tb ∧ (∀ j, j ≠ i → m.eng j = s.eng j) ∧ m.op = s.op ∧ m.sched = s.sched ∧ m.prod = s.prod
    let ready := (s.eng i).restarting = none ∧ s.bit F.TILE_ENG_STATUS_RUNNING i = true ∧
      (s.inSpan i = false ∨ s.job.scan = false ∧ s.imageLost i = false) ∧
      ((s.eng i).starts.filter (fun x => decide (u.tb < x + 1000000000))).length < 2
    (∀ b, b ≠ 1 → ready → Completes (.sramUe t ⟨i, b⟩) s (stops F.TILE_ENG_STATUS_SRAM_UE)) ∧
    (s.season (i / 4) = .summer → exec (.sramUe t ⟨i, 1⟩) s = .next (s.rest (u.count F.TILE_ENG_SRAM_CE_CNT_COUNT i))) ∧
    (∀ w, ready → (s.eng i).watch = some w → w + 5000 ≤ u.tb → Completes (.engineWatchdog t i) s (stops F.TILE_ENG_STATUS_WDOG)) ∧
    (∀ t0, (s.eng i).restarting = some t0 → s.fld F.BMV_STATUS_STATE = 2 → Completes (.engineRestartDone t i) s (fun m =>
      (m.eng i).restarting = none ∧ m.fld F.TILE_ENG_STATUS_RUNNING i = 1 ∧
      m.fld F.TILE_ENG_STATUS_RESTARTS i = satAdd F.TILE_ENG_STATUS_RESTARTS.width (s.fld F.TILE_ENG_STATUS_RESTARTS i) 1 ∧
      m.fld F.FLT_RECOVER_CNT_COUNT = satAdd F.FLT_RECOVER_CNT_COUNT.width (s.fld F.FLT_RECOVER_CNT_COUNT) 1 ∧
      m.op = s.op ∧ m.sched = s.sched ∧ m.sessions = s.sessions))

/-- BANK_VERIFY_DONE at an engine that checks a bank for VERIFY: the check leaves the list of those under way; a good bank
shows VALID, its FORM and GEN, a bad one sets VERIFY_ERR, and VERIFY_BUSY clears with the last check. Within an
Equinox run, a good bank of an engine that is not the last one to check leaves the run's list alike. Nothing else
changes. -/
def Obligations.BankChecked : Prop :=
  ∀ (s : State) (i : Nat), s.Inv → s.asleep = false → (s.ops.eqx = none ∨ ∃ e, s.ops.eqx = some e ∧ e.phase = 6) →
   (∀ b, s.ops.checks.find? (fun x => x.1 = i) = some (i, b) →
    let good := bankGood (s.bankBytes i b) (identSerial (s.lane i).ident)
    Completes (.bankVerifyDone i) s (fun m =>
      m = { s with regs := m.regs, ops := { s.ops with checks := s.ops.checks.filter (· ≠ (i, b)) } } ∧
      s.RegsBut m [(fldValid b).cell i, (fldForm b).cell i, (fldGen b).cell i, F.TILE_ENG_STATUS_VERIFY_ERR.cell i,
        F.PIPE_BANK_STATUS_VERIFY_BUSY.cell] ∧
      (good = true → m.fld (fldValid b) i = 1 ∧ m.fld (fldGen b) i = bankGen (s.bankBytes i b) % 2 ^ (fldGen b).width) ∧
      (good = false → m.fld F.TILE_ENG_STATUS_VERIFY_ERR i = 1 ∧ m.fld (fldValid b) i = s.fld (fldValid b) i) ∧
      (s.ops.eqx = none → s.ops.checks = [(i, b)] → m.fld F.PIPE_BANK_STATUS_VERIFY_BUSY = 0))) ∧
   (∀ e, s.ops.checks.find? (fun x => x.1 = i) = none → s.ops.eqx = some e → e.phase = 6 → e.checking.contains i = true →
    (e.checking.filter (· ≠ i)).isEmpty = false → bankGood (s.bankBytes i (1 - s.active i)) (identSerial (s.lane i).ident) = true →
    Completes (.bankVerifyDone i) s (fun m =>
      m = { s with regs := m.regs, ops := { s.ops with eqx := some { e with checking := e.checking.filter (· ≠ i) } } } ∧
      s.RegsBut m [(fldValid (1 - s.active i)).cell i, (fldForm (1 - s.active i)).cell i, (fldGen (1 - s.active i)).cell i,
        F.PIPE_BANK_STATUS_VERIFY_BUSY.cell] ∧ m.fld (fldValid (1 - s.active i)) i = 1))

/-- FATAL_ERROR of causes 1 to 8 outside FAULT_HOLD, TB_LOCK_LOSS while TB_LOCK is set (cause 7) and RECOVERY_TIMEOUT 200
us after a recovery began (cause 2): the state is FAULT_HOLD, FATAL_CAUSE is the cause, no line is committed or open,
every quad and the UNC domain are in Winter, no group holds moves and no operation or recovery goes on. In FAULT_HOLD
a further cause only raises its burgee. -/
def Obligations.FatalErrorStopsTheMachine : Prop :=
  ∀ (s : State) (t : Nat), s.Inv → s.asleep = false → s.seasons.length = 146 → s.groups.length = 4 →
    let u := s.at t
    let held := fun (cause : Nat) (m : State) => m.op = .faultHold ∧ m.fld F.FLT_STATUS_FATAL_CAUSE = cause ∧
      m.sched.cur = none ∧ m.sched.expo = none ∧ m.sched.active = false ∧ (∀ d, d < 128 → m.season d = .winter) ∧
      m.season domUnc = .winter ∧ (∀ g, g < 4 → (m.group g).queue = [] ∧ (m.group g).run = none) ∧
      m.ops.arm = none ∧ m.ops.eqx = none ∧ m.ops.align = none ∧ m.ops.therm = none ∧ m.ops.update = none ∧ m.flt.recov = [] ∧
      m.fld F.FLT_DUMP_COUNT_COUNT = satAdd F.FLT_DUMP_COUNT_COUNT.width (s.fld F.FLT_DUMP_COUNT_COUNT) 1
    (s.op ≠ .faultHold →
      (∀ cause, 1 ≤ cause → cause ≤ 8 → Completes (.fatalError t cause) s (held cause)) ∧
      (s.bit F.SCHED_STATUS_TB_LOCK = true → Completes (.tbLockLoss t) s (fun m => held 7 m ∧ m.fld F.SCHED_STATUS_TB_LOCK = 0)) ∧
      (∀ r ∈ s.flt.recov, r.2 + 200000 ≤ u.tb → Completes (.recoveryTimeout t) s (held 2))) ∧
    (s.op = .faultHold → ∀ cause, 1 ≤ cause → cause ≤ 8 → Completes (.fatalError t cause) s (fun m =>
      m = { u with regs := m.regs, flt := { s.flt with ring := m.flt.ring, seq := s.flt.seq + 1 } } ∧
      s.RegsBut m [F.FLT_RING_LOST_CNT_COUNT.cell] ∧ ∃ r, m.flt.ring = r :: s.flt.ring.take 1023 ∧ r.length = 32))

/-- LOCKSTEP_MISMATCH, and PAIR_WATCHDOG once WDOG_PAIR_US has passed since the pair's last service, with the control
firmware running and no pair recovering, count the pair and begin its recovery at that instant. CHECKPOINT services
the pair's watchdog and, where the pair recovers, ends that recovery and counts it. Nothing else changes but what the
recovery's burgee writes. -/
def Obligations.ControlPairsRecover : Prop :=
  ∀ (s : State) (t p : Nat), s.Inv → s.asleep = false → p < 2 → s.controlUp = true →
    let u := s.at t
    let f := if p = 0 then F.FLT_PAIR_CNT_CP0 else F.FLT_PAIR_CNT_CP1
    let begins := fun (kind : Nat) (m : State) =>
      m = { u with regs := m.regs, flt := { s.flt with recov := (p + kind, u.tb) :: s.flt.recov } } ∧ s.RegsBut m [f.cell] ∧
      m.fld f = satAdd f.width (s.fld f) 1
    (s.pairDown = false → (∀ r ∈ s.flt.recov, 4 ≤ r.1) → Completes (.lockstepMismatch t p) s (begins 0)) ∧
    (s.pairRecovers p = false → nthD 0 s.flt.served p + 1000 * s.fld F.FLT_WDOG_PAIR_US ≤ u.tb →
      Completes (.pairWatchdog t p) s (begins 2)) ∧
    (s.pairRecovers p = false →
      exec (.checkpoint p) s = .next (s.rest { s with flt := { s.flt with served := s.flt.served.set p s.tb } })) ∧
    (∀ t0, s.flt.recov = [(p, t0)] →
      Completes (.checkpoint p) s (fun m =>
        m = { s with regs := m.regs, flt := m.flt } ∧ m.flt.recov = [] ∧ m.flt.served = s.flt.served.set p s.tb ∧
        s.RegsBut m [F.FLT_RECOVER_CNT_COUNT.cell, F.FLT_RECOVER_MAX_NS.cell, F.FLT_RING_LOST_CNT_COUNT.cell,
          F.FLT_SUPPRESSED_CNT_COUNT.cell] ∧
        m.fld F.FLT_RECOVER_CNT_COUNT = satAdd F.FLT_RECOVER_CNT_COUNT.width (s.fld F.FLT_RECOVER_CNT_COUNT) 1))

/-- DUMP_COPY_DONE in FAULT_HOLD while the copy runs sets DUMP_FLASH, ends the copy and sets the instant of an automatic
restart where AUTO_RESTART_S is not 0. AUTO_RESTART at that instant resets the device as RESET_N does. LOG_COPY, when
256 records wait or the oldest waits 60 s and no retry is pending, and LOG_DEFERRED_RETRY once its time has come, copy
the waiting records: where the hold-up check passes FLASHED_SEQ is the ring's sequence number and no retry is pending;
where it fails a retry is due in 10 s. -/
def Obligations.DumpAndLogReachFlash : Prop :=
  ∀ (s : State) (t : Nat), s.Inv → s.asleep = false →
    let u := s.at t
    let copied := fun (m : State) =>
      ((u.holdupCheck (ceilDiv s.uncopied.length 1024) (ceilDiv (32 * s.uncopied.length) 256) (32 * s.uncopied.length) 0).1 = true →
        m.flt.deferAt = none ∧ m.fld F.FLT_RING_FLASHED_SEQ = s.flt.seq % 2 ^ F.FLT_RING_FLASHED_SEQ.width) ∧
      ((u.holdupCheck (ceilDiv s.uncopied.length 1024) (ceilDiv (32 * s.uncopied.length) 256) (32 * s.uncopied.length) 0).1 = false →
        m.flt.deferAt = some (u.tb + 10000000000) ∧ m.mem = s.mem) ∧
      m.sched = s.sched ∧ m.sessions = s.sessions ∧ m.op = s.op ∧ m.prod = s.prod
    (s.op = .faultHold → s.flt.copying = true →
      Completes (.dumpCopyDone t) s (fun m => m.fld F.FLT_STATUS_DUMP_FLASH = 1 ∧ m.flt.copying = false ∧ m.op = .faultHold ∧
        m.flt.restartAt = (if s.fld F.FLT_CFG_AUTO_RESTART_S = 0 then none
          else some (u.tb + s.fld F.FLT_CFG_AUTO_RESTART_S * 1000000000)))) ∧
    (∀ r, s.op = .faultHold → s.flt.restartAt = some r → r ≤ u.tb → exec (.autoRestart t) s = .next (s.rest (u.resetBut 2))) ∧
    (s.uncopied ≠ [] →
      (s.flt.deferAt = none → u.logDue = true → Completes (.logCopy t) s copied) ∧
      (∀ d, s.flt.deferAt = some d → d ≤ u.tb → Completes (.logDeferredRetry t) s copied))

/-- A burgee that is not FATAL: with no window open for its key it is written and opens a window with the present time;
within 1 s of an open window it is written while fewer than 16 were, and otherwise only FLT_SUPPRESSED_CNT counts it.
A FATAL one is written and opens no window. SUPPRESSION_WINDOW_CLOSE once 1 s has passed removes the window; it writes
nothing where nothing was suppressed, else one record more. -/
def Obligations.BurgeesAreSuppressed : Prop :=
  ∀ (s : State) (src cls code idx act detail recov : Nat), s.Inv →
    let key := suppKey src code idx
    let b := s.burgee src cls code idx act detail recov
    (cls = clsFatal → b.flt.seq = s.flt.seq + 1 ∧ b.flt.windows = s.flt.windows) ∧
    (cls ≠ clsFatal →
      (s.flt.windows.find? (fun w => w.key = key) = none →
        b.flt.seq = s.flt.seq + 1 ∧ b.flt.windows = ⟨key, s.tb, 1, 0⟩ :: s.flt.windows) ∧
      (∀ w, s.flt.windows.find? (fun w => w.key = key) = some w → s.tb < w.t0 + 1000000000 →
        (w.n < 16 → b.flt.seq = s.flt.seq + 1 ∧ b.fld F.FLT_SUPPRESSED_CNT_COUNT = s.fld F.FLT_SUPPRESSED_CNT_COUNT) ∧
        (16 ≤ w.n → b.flt.ring = s.flt.ring ∧ b.flt.seq = s.flt.seq ∧
          b.fld F.FLT_SUPPRESSED_CNT_COUNT = satAdd F.FLT_SUPPRESSED_CNT_COUNT.width (s.fld F.FLT_SUPPRESSED_CNT_COUNT) 1))) ∧
    (∀ t w, s.asleep = false → s.flt.windows.find? (fun w => w.key = key) = some w → w.t0 + 1000000000 ≤ (s.at t).tb →
      Completes (.suppressionWindowClose t key) s (fun m =>
        let rest := s.flt.windows.filter (fun x => x.key ≠ key)
        (w.dropped = 0 → m = { s.at t with flt := { s.flt with windows := rest } }) ∧
        (w.dropped ≠ 0 → m = { s.at t with regs := m.regs, flt := { s.flt with windows := rest, ring := m.flt.ring, seq := s.flt.seq + 1 } } ∧
          s.RegsBut m [F.FLT_RING_LOST_CNT_COUNT.cell])))

/-- POWER_ON starts TB_NOW at 0 with an empty burgee ring, in BOOT, with MICROSTEP_UNKNOWN and POSITION_LOST of every
axis. PWR_GOOD_LOW and RESET_N come to rest in the same kind of state but keep what lies in the always-on domain:
TB_NOW, the burgee ring and its number, the positions of encoders and axes and the axis flags; each is named in
PWR_RESET_CAUSE. All keep the flash and what lies outside the device. -/
def Obligations.ResetsKeepAlwaysOn : Prop :=
  ∀ s : State, s.Inv →
    (∃ m, exec .powerOn s = .next m ∧ m.tb = 0 ∧ m.flt.ring = [] ∧ m.flt.seq = 0 ∧ m.op = .boot ∧ m.pending = s.pending ∧
      m.fld F.PWR_RESET_CAUSE_POR = 1 ∧ m.bar = s.bar ∧ m.mem = s.mem.filter flashCell ∧
      ∀ x, x < 8 → m.fld F.MOT_AXIS_STATUS_MICROSTEP_UNKNOWN x = 1 ∧ m.fld F.MOT_AXIS_STATUS_POSITION_LOST x = 1) ∧
    (∀ ic ∈ [(Instr.pwrGoodLow, 1), (Instr.resetN, 2)], Completes ic.1 s (fun m =>
      m = s.resetBut ic.2 ∧ m.tb = s.tb ∧ m.flt.ring = s.flt.ring ∧ m.flt.seq = s.flt.seq ∧ m.op = .boot ∧
      m.encs.map (·.pos) = s.encs.map (·.pos) ∧ m.axes.map (fun a => (a.pos, a.steps)) = s.axes.map (fun a => (a.pos, a.steps)) ∧
      m.bar = s.bar ∧ m.mem = s.mem.filter flashCell ∧ m.fld (causeFld ic.2) = 1 ∧
      (∀ x, x < 8 → m.fld F.MOT_AXIS_STATUS_POSITION_LOST x = s.fld F.MOT_AXIS_STATUS_POSITION_LOST x ∧
        m.fld F.MOT_AXIS_STATUS_MICROSTEP_UNKNOWN x = s.fld F.MOT_AXIS_STATUS_MICROSTEP_UNKNOWN x)))

/-- WAKE_N with WAKE_N_EN set and BMP_WAKE at the strap address with BMP_EN set restart a device in Winter (the port NACKs
the address); without the enable, or awake, they change nothing but that NACK. PWR_FAIL sets the level and, on its
falling edge, PWR_FAIL_SEEN. TEST_MODE low only shows the level; high restarts and holds the device. START_UP in BOOT
whose copies verify brings it up; where none does it stays in BOOT with control, security and transport in Summer. -/
def Obligations.WinterEndsOnlyByWakeOrReset : Prop :=
  ∀ (s : State) (t : Nat), s.Inv →
    (s.asleep = true → s.bit F.PWR_WAKE_CFG_WAKE_N_EN = true → exec .wakeN s = .next (s.rest (s.resetBut 3))) ∧
    ((s.asleep = false ∨ s.bit F.PWR_WAKE_CFG_WAKE_N_EN = false) → exec .wakeN s = .next (s.rest s)) ∧
    (∀ a, s.asleep = true → Completes (.bmpWake a) s (fun m =>
      (s.bit F.PWR_WAKE_CFG_BMP_EN = true → a = 0x3A + s.env.strap % 4 → m = (s.emit .bmpNack).resetBut 4) ∧
      ((s.bit F.PWR_WAKE_CFG_BMP_EN = false ∨ a ≠ 0x3A + s.env.strap % 4) → m = s.emit .bmpNack))) ∧
    (∀ low, s.asleep = false → Completes (.pwrFail t low) s (fun m =>
      m.env = { s.env with pwrFail := low } ∧ m.op = s.op ∧ m.seasons = s.seasons ∧
      m.fld F.PWR_STATUS_PWR_FAIL = b2n low ∧
      m.fld F.PWR_STATUS_PWR_FAIL_SEEN = (if low = true ∧ s.env.pwrFail = false then 1 else s.fld F.PWR_STATUS_PWR_FAIL_SEEN))) ∧
    (exec (.testMode false) s = .next (s.rest { s with env := { s.env with testMode := false } })) ∧
    (Completes (.testMode true) s (fun m => m.env.testMode = true ∧ m.op = .boot ∧ m.tb = s.tb ∧ m.season 140 = .winter ∧
      ∀ st, exec (.startUp t st) m = .next (m.rest (m.at t)))) ∧
    (∀ st, s.op = .boot → s.season 140 = .winter → s.env.testMode = false → s.seasons.length = 146 →
      let r := (s.at t).romVerify
      (r.2 = true → exec (.startUp t st) s = .next (s.rest (r.1.bringUp st))) ∧
      (r.2 = false → Completes (.startUp t st) s (fun m => m.op = .boot ∧ m.season 140 = .summer ∧ m.season 141 = .summer ∧
        m.season 142 = .summer ∧ m.season domUnc = s.season domUnc ∧ m.sessions = s.sessions)))

/-- BMB_TRANSACTION on a usable bus: the device's answer ends it; a NACK counts and sets the one retry 1 ms later.
BMB_NACK_RETRY then repeats it and no retry follows. BMB_SCL_TIMEOUT sets TIMEOUT. BUS_CLEAR counts; SDA released
after at most 9 pulses clears STUCK, else STUCK is set and the next attempt is 1 s later. ARB_LOST records byte and
bit, counts, and on the fourth loss sets ARB_FAIL. -/
def Obligations.BarManagementBusTransactions : Prop :=
  ∀ (s : State) (t : Nat), s.Inv → s.asleep = false →
    let u := s.at t
    (∀ a wr rd ans, s.bmbUsable = true → a < 128 → wr.length + rd ≤ 255 → Completes (.bmbTransaction t a wr rd ans) s (fun m =>
      m = { u with regs := m.regs, out := .bmb a wr rd :: s.out, bmb := { s.bmb with losses := 0, retry := m.bmb.retry, retryAt := m.bmb.retryAt } } ∧
      s.RegsBut m [F.MBUS_BMB_STATUS_BUS_FREE.cell, F.MBUS_BMB_NACK_CNT_COUNT.cell] ∧
      (∀ d, ans = .ok d → m.bmb.retry = none ∧ m.fld F.MBUS_BMB_NACK_CNT_COUNT = s.fld F.MBUS_BMB_NACK_CNT_COUNT) ∧
      (∀ n, ans = .nack n → m.bmb.retry = some (a, wr, rd) ∧ m.bmb.retryAt = t + 1000000 ∧
        m.fld F.MBUS_BMB_NACK_CNT_COUNT = satAdd F.MBUS_BMB_NACK_CNT_COUNT.width (s.fld F.MBUS_BMB_NACK_CNT_COUNT) 1))) ∧
    (∀ a wr rd ans, s.bmbUsable = true → s.bmb.retry = some (a, wr, rd) → s.bmb.retryAt ≤ t → Completes (.bmbNackRetry t ans) s (fun m =>
      m = { u with regs := m.regs, out := .bmb a wr rd :: s.out, bmb := { s.bmb with losses := 0, retry := none } } ∧
      s.RegsBut m [F.MBUS_BMB_STATUS_BUS_FREE.cell, F.MBUS_BMB_NACK_CNT_COUNT.cell])) ∧
    (s.season domUnc = .summer →
      Completes (.bmbSclTimeout t) s (fun m => m = { u with regs := m.regs, bmb := { s.bmb with losses := 0 } } ∧
        s.RegsBut m [F.MBUS_BMB_STATUS_TIMEOUT.cell, F.MBUS_BMB_STATUS_BUS_FREE.cell] ∧ m.fld F.MBUS_BMB_STATUS_TIMEOUT = 1) ∧
      (s.bit F.MBUS_BMB_STATUS_STUCK = false ∨ s.bmb.nextClear ≤ t →
        (∀ n, n ≤ 9 → Completes (.busClear t (some n)) s (fun m =>
          m = { u with regs := m.regs, out := .bmbClear n :: s.out } ∧ m.fld F.MBUS_BMB_STATUS_STUCK = 0 ∧
          m.fld F.MBUS_BMB_CLEAR_CNT_COUNT = satAdd F.MBUS_BMB_CLEAR_CNT_COUNT.width (s.fld F.MBUS_BMB_CLEAR_CNT_COUNT) 1)) ∧
        Completes (.busClear t none) s (fun m =>
          m = { u with regs := m.regs, flt := m.flt, out := .bmbClear 9 :: s.out, bmb := { s.bmb with nextClear := t + 1000000000, retry := none } } ∧
          m.fld F.MBUS_BMB_STATUS_STUCK = 1 ∧
          m.fld F.MBUS_BMB_CLEAR_CNT_COUNT = satAdd F.MBUS_BMB_CLEAR_CNT_COUNT.width (s.fld F.MBUS_BMB_CLEAR_CNT_COUNT) 1))) ∧
    (∀ byte bit, s.bmbUsable = true → Completes (.arbLost t byte bit) s (fun m =>
      m = { u with regs := m.regs, flt := m.flt, bmb := { s.bmb with losses := m.bmb.losses } } ∧
      m.fld F.MBUS_BMB_ARB_BYTE = byte % 2 ^ F.MBUS_BMB_ARB_BYTE.width ∧ m.fld F.MBUS_BMB_ARB_BIT = bit % 2 ^ F.MBUS_BMB_ARB_BIT.width ∧
      m.fld F.MBUS_BMB_ARB_ARB_LOST = 1 ∧
      m.fld F.MBUS_BMB_ARB_CNT_COUNT = satAdd F.MBUS_BMB_ARB_CNT_COUNT.width (s.fld F.MBUS_BMB_ARB_CNT_COUNT) 1 ∧
      (s.bmb.losses < 3 → m.bmb.losses = s.bmb.losses + 1 ∧ m.flt = s.flt ∧ m.fld F.MBUS_BMB_STATUS_ARB_FAIL = s.fld F.MBUS_BMB_STATUS_ARB_FAIL) ∧
      (3 ≤ s.bmb.losses → m.bmb.losses = 0 ∧ m.fld F.MBUS_BMB_STATUS_ARB_FAIL = 1)))

/-- ALERT shows its level and, high, ends the row of reads. ALERT_RESPONSE_READ while the line is low and enabled shows
the level after it; an answer gives ADDR and VALID, a NACK counts in SPURIOUS; a read that leaves the line low adds to
the row, and the eighth makes the controller ignore the line until 1 s later. ALERT_IGNORE_END then watches it again. -/
def Obligations.AlertsAreReadAndAStuckLineIgnored : Prop :=
  ∀ (s : State) (t : Nat), s.Inv → s.asleep = false →
    let u := s.at t
    (∀ low, s.season domUnc = .summer → Completes (.alert t low) s (fun m =>
      m = { u with regs := m.regs, bmb := { s.bmb with alertReads := if low then s.bmb.alertReads else 0 } } ∧
      s.RegsBut m [F.MBUS_BMB_STATUS_ALERT_LIVE.cell] ∧ m.fld F.MBUS_BMB_STATUS_ALERT_LIVE = b2n low)) ∧
    (∀ ans low, s.bmbUsable = true → s.bit F.MBUS_BMB_CFG_ALERT_EN = true → s.bit F.MBUS_BMB_STATUS_ALERT_LIVE = true →
      s.bmb.ignoreUntil = none → Completes (.alertResponseRead t ans low) s (fun m =>
        m = { u with regs := m.regs, flt := m.flt, out := .bmb 0x0C [] 1 :: s.out,
                     bmb := { s.bmb with alertReads := m.bmb.alertReads, ignoreUntil := m.bmb.ignoreUntil } } ∧
        m.fld F.MBUS_BMB_STATUS_ALERT_LIVE = b2n low ∧
        (∀ d, ans = .ok d → m.fld F.MBUS_BMB_ALERT_ADDR = byteAt d 0 / 2 ∧ m.fld F.MBUS_BMB_ALERT_VALID = 1 ∧
          m.fld F.MBUS_BMB_ALERT_SPURIOUS = s.fld F.MBUS_BMB_ALERT_SPURIOUS) ∧
        (∀ n, ans = .nack n → m.fld F.MBUS_BMB_ALERT_ADDR = s.fld F.MBUS_BMB_ALERT_ADDR ∧
          m.fld F.MBUS_BMB_ALERT_SPURIOUS = satAdd F.MBUS_BMB_ALERT_SPURIOUS.width (s.fld F.MBUS_BMB_ALERT_SPURIOUS) 1) ∧
        (low = false → m.bmb.alertReads = 0 ∧ m.bmb.ignoreUntil = none) ∧
        (low = true → s.bmb.alertReads < 7 → m.bmb.alertReads = s.bmb.alertReads + 1 ∧ m.bmb.ignoreUntil = none) ∧
        (low = true → 7 ≤ s.bmb.alertReads → m.bmb.alertReads = 0 ∧ m.bmb.ignoreUntil = some (t + 1000000000)))) ∧
    (∀ e low, s.bmb.ignoreUntil = some e → e ≤ t → Completes (.alertIgnoreEnd t low) s (fun m =>
      m = { u with regs := m.regs, bmb := { s.bmb with ignoreUntil := none } } ∧ s.RegsBut m [F.MBUS_BMB_STATUS_ALERT_LIVE.cell] ∧
      m.fld F.MBUS_BMB_STATUS_ALERT_LIVE = b2n low))

/-- MOVE_QUEUE to a legal group appends the entry and answers the number queued; in a group at rest with an empty queue it
begins. MOVE_HALT of a moving group keeps the running move, drops the others and makes it halt. HOME of an enabled
axis of a group at rest begins its search and clears HOMED. AXIS_ENABLE with enable 0 of an axis whose group does not
move takes DRV_EN inactive and clears ENABLED; with enable 1 it takes DRV_EN active, its position taken from the
encoder where that is asked for and the axis is bound to one; an axis whose position and encoder differ by more than
WINDOW stays disabled, with POS_MISMATCH and the answer FAULT. Other groups, axes and all that is not motion keep
their value. -/
def Obligations.MotionCommandsTakeEffect : Prop :=
  ∀ (s : State) (p : Path) (pl : List Byte), s.Inv → s.groups.length = 4 → s.axes.length = 8 →
    let g := byteAt pl 0
    (s.takes p 0x0501 pl → s.moveBadAt pl = none → s.pacedHeld g = false → s.mediaHeld g = false → (s.group g).used = false →
      (s.group g).halting = false → (s.group g).homing = none → (s.group g).queue.length < 64 → s.groupFaulty g = false →
      let q := s.modGroup g (fun x => { x with queue := x.queue ++ [moveOf pl] })
      Answers (.moveQueue p pl) s p 0x0501 (fun m d => d = be 1 ((s.group g).queue.length + 1) ∧
        m = if (s.group g).run.isSome ∨ (s.group g).queue ≠ [] then q else q.startNext g none 65)) ∧
    (s.takes p 0x0502 pl → g < 4 → s.pacedHeld g = false → (s.group g).used = false → (s.group g).halting = false →
      Answers (.moveHalt p pl) s p 0x0502 (fun m d => d = [] ∧ m = { s with groups := m.groups } ∧ (∀ k, k ≠ g → m.group k = s.group k) ∧
        ((s.group g).run.isSome = true → m.group g = { s.group g with queue := (s.group g).queue.take 1, halting := true }))) ∧
    (s.takes p 0x0503 pl → g < 8 → let k := s.fld F.MOT_AXIS_CFG_GROUP g
      k < 4 → s.pulsesClash g (256 * s.fld F.MOT_AXIS_HOME_V_FAST g) = false → s.pacedHeld k = false → s.mediaHeld k = false →
      (s.group k).used = false → (s.group k).halting = false →
      s.groupBusy k = false → s.bit F.MOT_STATUS_ESTOP_LATCH = false → s.bit F.MOT_AXIS_STATUS_ENABLED g = true →
      Answers (.home p pl) s p 0x0503 (fun m d => d = [] ∧
        m = { s with regs := m.regs, axes := m.axes, groups := m.groups } ∧ s.RegsBut m [F.MOT_AXIS_STATUS_HOMED.cell g] ∧
        m.fld F.MOT_AXIS_STATUS_HOMED g = 0 ∧ (∃ h, (m.group k).homing = some h ∧ h.axis = g) ∧
        (∀ j, j ≠ k → m.group j = s.group j))) ∧
    (s.takes p 0x0504 pl → g < 8 → byteAt pl 2 ≤ 1 → let k := s.fld F.MOT_AXIS_CFG_GROUP g
      s.mediaHeld k = false → (k < 4 → (s.group k).used = false ∧ s.pacedHeld k = false) →
      (byteAt pl 1 = 0 → (k < 4 → s.groupMoving k = false) → Answers (.axisEnable p pl) s p 0x0504 (fun m d => d = [] ∧
        m = { s with regs := m.regs, axes := modifyNth (fun a => { a with canMove := false, enabling := none }) g s.axes,
                     out := .drvEn g (s.bit F.MOT_AXIS_CFG_EN_POL g) :: s.out } ∧
        s.RegsBut m [F.MOT_AXIS_STATUS_ENABLED.cell g, F.MOT_AXIS_STATUS_IREF.cell g, F.MOT_AXIS_STATUS_BOOSTING.cell g] ∧
        m.fld F.MOT_AXIS_STATUS_ENABLED g = 0)) ∧
      (byteAt pl 1 = 1 →
        let enc := s.bit F.MOT_AXIS_CFG_ENC_EN g
        let on := fun (f : Axis → Axis) (cells : List Nat) => Answers (.axisEnable p pl) s p 0x0504 (fun m d => d = [] ∧
          m = { s with regs := m.regs, axes := modifyNth f g s.axes, out := .drvEn g (!s.bit F.MOT_AXIS_CFG_EN_POL g) :: s.out } ∧
          s.RegsBut m (cells ++ [F.MOT_AXIS_STATUS_ENABLED.cell g, F.MOT_AXIS_STATUS_STALL.cell g, F.MOT_AXIS_STATUS_IREF.cell g,
            F.MOT_AXIS_STATUS_BOOSTING.cell g]) ∧ m.fld F.MOT_AXIS_STATUS_ENABLED g = 1 ∧ m.fld F.MOT_AXIS_STATUS_STALL g = 0)
        let free := fun (a : Axis) => { a with enabling := if a.canMove then none else some (s.tb + 1000000), ferrOver := 0 }
        let taken := fun (pos : Int) (a : Axis) => { free a with pos := pos, posRef := pos, encRef := s.encOf g }
        (enc = false → on free []) ∧
        (enc = true → byteAt pl 2 = 0 → (s.followErr g).natAbs ≤ s.fld F.MOT_AXIS_WINDOW_WINDOW g →
          on (taken (s.axis g).pos) []) ∧
        (enc = true → byteAt pl 2 = 1 →
          on (taken (wrapS 48 ((s.axis g).posRef + s.encSteps g))) [F.MOT_AXIS_STATUS_POS_MISMATCH.cell g]) ∧
        (enc = true → byteAt pl 2 = 0 → s.fld F.MOT_AXIS_WINDOW_WINDOW g < (s.followErr g).natAbs →
          exec (.axisEnable p pl) s = .next (s.rest (let m := (s.disableAxis g).setFld F.MOT_AXIS_STATUS_POS_MISMATCH 1 g
            { m with out := .reply p 0x0504 stFault 0xF3 [] :: m.out })))))

/-- LUM_SET answers OK with the duties of sections FIRST to FIRST + COUNT - 1 set and nothing else changed. LUM_DIAG of a
section, or with 0xFFFF of every section present (of the job's span where one is defined), begins its run on the
chains concerned and answers later; LUM_DIAG_TIMEOUT 100 ms after the start ends it, its chains await no stream and no
commit, and the status slots are answered. TILE_BROADCAST to a tile puts one transaction at the end of its segment's
queue, and the reply waits for the tile's; CFG_WRITE to the broadcast address with no geometry valid goes out on every
segment and is answered at once, and every tile present is known to have taken FIRST_SITE. Nothing else changes. -/
def Obligations.LightAndTileCommandsTakeEffect : Prop :=
  ∀ (s : State) (p : Path) (pl : List Byte) (t : Nat), s.Inv →
    let first := beAt pl 0 2
    let n := beAt pl 2 2
    (s.takes p 0x0601 pl → first + n ≤ 256 → Answers (.lumSet p pl) s p 0x0601 (fun m d => d = [] ∧ m = { s with regs := m.regs } ∧
      s.RegsBut m ((List.range n).flatMap (fun j => [F.LUM_SEC_DUTY0_FRONT.cell (first + j), F.LUM_SEC_DUTY0_REAR.cell (first + j),
        F.LUM_SEC_DUTY1_NIR.cell (first + j)])) ∧
      ∀ j, j < n → m.fld F.LUM_SEC_DUTY0_FRONT (first + j) = beAt pl (4 + 6 * j) 2 ∧
        m.fld F.LUM_SEC_DUTY0_REAR (first + j) = beAt pl (6 + 6 * j) 2 ∧ m.fld F.LUM_SEC_DUTY1_NIR (first + j) = beAt pl (8 + 6 * j) 2)) ∧
    (s.takes p 0x0602 pl → (first < 256 ∨ first = 0xFFFF) → s.opRuns = false → s.ops.diag = none →
      let secs := if first = 0xFFFF then (List.range 256).filter (fun d => s.sectionPresent d && (!s.job.defined || s.sectInSpan d)) else [first]
      let cs := (List.range 4).filter (fun c => secs.any (fun d => d / 64 = c))
      exec (.lumDiag p pl) s = .next (s.rest { s.begun p 0x0602 with
        ops := { s.ops with diag := some ⟨p, secs, cs.map (fun c => (c, 0)), cs.map (fun c => (c, s.tb)), s.tb⟩ } })) ∧
    (∀ x h, s.asleep = false → s.ops.diag = some x → x.t0 + 100000000 ≤ (s.at t).tb → (s.cmd x.path).run = some h → h.direct = true →
      Completes (.lumDiagTimeout t) s (fun m =>
        m = { (s.at t).modCmd x.path (fun c => { c with run := none }) with
          regs := m.regs, chains := m.chains, ops := { s.ops with diag := none },
          out := .reply x.path h.op stOk 0 (x.secs.flatMap (fun d => be 2 d ++ be 3 (s.fld F.LUM_SEC_STATUS_SLOT d) ++ be 1 0)) :: s.out } ∧
        s.RegsBut m (x.chains.map (fun c => F.LUM_CHAIN_STATUS_REFRESHING.cell c.1)) ∧
        (∀ c ∈ x.chains, c.1 < s.chains.length → (m.chain c.1).waiting = false ∧ (m.chain c.1).passed = false ∧
          (m.chain c.1).marked = false ∧ (m.chain c.1).markDue = none ∧ m.fld F.LUM_CHAIN_STATUS_REFRESHING c.1 = 0) ∧
        ∀ c, c ∉ x.chains.map (·.1) → m.chain c = s.chain c)) ∧
    (let a := first
     let op := byteAt pl 2
     let d := pl.drop 4
     s.takes p 0x0204 pl →
      (a < 511 → op ∈ hostTileOps → (op = 0x04 → byteAt d 0 = 1 → s.recFlag a 0 = false) → s.ops.tileCmd = none →
        exec (.tileBroadcast p pl) s = .next (s.rest { s.begun p 0x0204 with
          ops := { s.ops with tileCmd := some p }
          bcbs := modifyNth (fun x => { x with queue := x.queue ++ [⟨a, op, d, .command p, 4, 0, 0⟩] }) (a / 128) s.bcbs })) ∧
      (a = 511 → op = 0x04 → (∀ i, i < 512 → s.recFlag i 0 = false) → s.bcbs.length = 4 →
        Answers (.tileBroadcast p pl) s p 0x0204 (fun m r => r = [] ∧ m = { s with
            lanes := m.lanes
            bcbs := s.bcbs.map (fun b => { b with queue := b.queue ++ [⟨511, 4, d, .quiet, 1, 0, 0⟩] }) } ∧
          (byteAt d 0 ≠ 1 → m.lanes = s.lanes) ∧
          (byteAt d 0 = 1 → ∀ i, i < 512 → i < s.lanes.length → m.lane i =
            if s.bit F.TILE_STATUS_PRESENT i then { s.lane i with site := some (beAt d 1 2) } else s.lane i))))

/-- JOB_DEFINE whose header, pairs and limits are in order, on an idle device with room for the elastic buffer, defines
the job and answers T_MIN, the elastic size and the rate. JOB_ARM of a defined job begins to read the identity records
of the span and answers later. JOB_START with no commit window open on a driven chain leads to RUNNING with the zero
position taken when relative, in a SCAN job with PHASE 1 and the commanded velocity at VMAX; with a mark still to be
sent it waits for the window to close. JOB_STOP in RUNNING or HOLDING leads to DRAINING and answers the last line.
JOB_ABORT with no arming and no run leads to IDLE with no line left. SERVICE_BEGIN and SERVICE_END lead to SERVICE and
IDLE; SEASON_SET 0 leads every domain but AON into Winter after its reply. -/
def Obligations.JobCommandsMoveTheState : Prop :=
  ∀ (s : State) (p : Path) (pl : List Byte), s.Inv → s.seasons.length = 146 →
    (s.takes p 0x0301 pl → s.jobHeader pl = none → (∀ e ∈ pairsAt pl 16, s.jobPairOk e = true) → s.bmvUsed = false → s.opRuns = false →
      let u := s.jobTrial pl (pairsAt pl 16)
      (∀ c ∈ u.jobChecks, c.1 = true) → u.fld F.QDR_ELASTIC_BASE_ADDR + 0x100000 ≤ u.qdrEnd →
      Answers (.jobDefine p pl) s p 0x0301 (fun m d => m.op = s.op ∧ m.prod = {} ∧ m.seasons = s.seasons ∧
        m.job.defined = true ∧ m.job.scan = decide (byteAt pl 0 = 1) ∧ m.job.first = beAt pl 2 2 ∧ m.job.count = beAt pl 4 2 ∧
        m.job.rate = beAt pl 8 4 ∧ m.job.lineCount = beAt pl 12 4 ∧
        d = be 4 (m.fld F.SCHED_TMIN_NS) ++ be 4 (m.fld F.QDR_ELASTIC_SIZE_BYTES) ++ be 4 (m.fld F.XPT_RATE_MAX_LPS))) ∧
    (s.takes p 0x0302 pl → s.job.defined = true → s.opRuns = false → s.bmvUsed = false → s.qdrUsable = true →
      Completes (.jobArm p pl) s (fun m => m.op = s.op ∧ m.job = s.job ∧ m.out = s.out ∧ m.sessions = s.sessions ∧
        m.ops = { s.ops with arm := some ⟨p, s.span, [], false⟩ } ∧ (m.cmd p).run.isSome = true)) ∧
    (s.takes p 0x0303 pl → (∀ c ∈ s.driven, (s.chain c).markDue = none ∧
        ((s.chain c).marked = true → s.sched.lastGate + s.fld F.SCHED_LUM_GATE_W + 6000 ≤ s.tb)) →
      Answers (.jobStart p pl) s p 0x0303 (fun m d => d = [] ∧ m.op = .running ∧
        m.sched.active = true ∧ m.sched.cur = none ∧ m.sessions = s.sessions ∧ m.mem = s.mem ∧
        m.job = { s.job with phase := if s.bit F.SCHED_CTRL_PHASE_REL then s.masterPos * 2 ^ 16 else 0 } ∧
        (s.job.scan = true → m.fld F.SCAN_STATUS_PHASE = 1 ∧ m.fld F.SCAN_VCMD_PCS = s.fld F.SCAN_VMAX_PCS))) ∧
    (s.takes p 0x0303 pl → (∃ c ∈ s.driven, (s.chain c).markDue ≠ none) → Completes (.jobStart p pl) s (fun m =>
      m = { s.begun p 0x0303 with ops := { s.ops with startWait := some p } })) ∧
    (s.takes p 0x0304 pl → Answers (.jobStop p pl) s p 0x0304 (fun m d =>
      d = be 4 s.lastDelivered ++ be 2 (s.lastDelivered / 2 ^ 32) ∧ m.op = .draining ∧ m.sched.active = false ∧ m.job = s.job ∧
      m.mem = s.mem)) ∧
    (s.takes p 0x0305 pl → s.ops.arm = none → s.ops.eqx = none → Answers (.jobAbort p pl) s p 0x0305 (fun m d => d = [] ∧ m.op = .idle ∧
      m.sched.active = false ∧ m.sched.cur = none ∧ m.prod.elastic = [] ∧ m.prod.tree = [] ∧ (∀ k, k < 128 → m.season k = .winter))) ∧
    (s.takes p 0x0808 pl → s.opRuns = false → Answers (.serviceBegin p pl) s p 0x0808 (fun m d => d = [] ∧ m.op = .service ∧
      m.sessions = s.sessions ∧ m.job = s.job)) ∧
    (s.takes p 0x0809 pl → s.opRuns = false → s.ops.diag = none → s.bmvUsed = false → s.testsOn = false →
      Answers (.serviceEnd p pl) s p 0x0809 (fun m d => d = [] ∧ m.op = .idle ∧ (∀ k, k < 128 → m.season k = .winter))) ∧
    (s.takes p 0x0901 pl → byteAt pl 0 = 0 → (∀ g, g < 4 → s.groupBusy g = false) → s.opRuns = false → s.bmvUsed = false →
      Completes (.seasonSet p pl) s (fun m => m.op = .idle ∧ m.seasons = List.replicate 145 .winter ++ [.summer] ∧ m.tb = s.tb ∧
        .reply p 0x0901 stOk 0 [] ∈ m.out ∧ m.sessions = List.replicate 8 {} ∧ m.asleep = true))

/-- CAL_EQUINOX in IDLE, or in RUNNING of an INSPECT job at standstill, leads to CALIBRATING with BUSY set and answers
later. CAL_ALIGN and CAL_THERMAL whose operands are in order answer OK, lead to SERVICE and show BUSY and OP.
EQUINOX_CAPTURE_DONE after the last white line, with 48 frames of each kind and the lamp bright enough and not clipped
on every tile, begins the check of every bank of the work: none is VALID until it has been checked. ALIGN_CAPTURE_DONE
ends the alignment in IDLE: result 1 when every photosite of every tile has 16 edges, else 2 with reason 6.
ALIGN_TIMEOUT and THERMAL_TIMEOUT end with result 2, reason 1. THERMAL_POINT with no run and no point yet begins a
capture. -/
def Obligations.CalibrationsRunAndEnd : Prop :=
  ∀ (s : State) (p : Path) (pl : List Byte) (t : Nat), s.Inv →
    let u := s.at t
    let ended := fun (res why : Nat) (m : State) => m.op = .idle ∧ m.ops.align = none ∧ m.ops.therm = none ∧ m.ops.eqx = none ∧
      m.fld F.SYS_OP_STATUS_BUSY = 0 ∧ m.fld F.SYS_OP_STATUS_RESULT = res ∧ m.fld F.SYS_OP_STATUS_REASON = why
    (s.takes p 0x0401 pl → (s.op = .idle ∨ (s.op = .running ∧ s.bit F.SCHED_STATUS_STILL = true)) → s.opRuns = false → s.qdrUsable = true → s.bit F.PIPE_BANK_STATUS_ARMED = false →
      s.bit F.PIPE_BANK_STATUS_PENDING = false → s.bit F.PIPE_BANK_STATUS_VERIFY_BUSY = false →
      Completes (.calEquinox p pl) s (fun m => m.op = .calibrating ∧ m.fld F.PIPE_EQX_STATUS_BUSY = 1 ∧ m.sessions = s.sessions ∧
        (∃ e, m.ops.eqx = some e ∧ e.src = (if s.op = .idle then 1 else 2) ∧ e.path = p) ∧ (m.cmd p).run.isSome = true)) ∧
    (s.takes p 0x0402 pl → s.opRuns = false → s.bmvUsed = false → s.qdrUsable = true →
      let a : AlignOp := ⟨p, byteAt pl 0, byteAt pl 1, byteAt pl 2, beAt pl 4 2, beAt pl 6 2, beAt pl 8 2, beAt pl 10 2, beAt pl 12 8,
        beAt pl 20 4, beAt pl 24 4, s.tb, false, 0, 0⟩
      let outside := ((List.range a.count).map (· + a.first)).filter (fun i => decide (i < a.setFirst ∨ a.setFirst + a.setCount ≤ i))
      a.mode ≤ 2 → a.motion ≤ 1 → a.group ≤ 3 → byteAt pl 3 = 0 → 0 < a.count → a.first + a.count ≤ 512 →
      0x40000000 ≤ a.pitch → a.pitch ≤ 0x00FFFFFFFFFFFFFF → 1000 ≤ a.timeout → a.timeout ≤ 600000 →
      (a.motion = 1 → a.speed ≠ 0 ∧ s.groupBusy a.group = false) →
      (∀ i, a.first ≤ i → i < a.first + a.count → s.bit F.TILE_STATUS_PRESENT i = true ∧ s.bit F.TILE_STATUS_IDENT_OK i = true ∧
        s.bit F.TILE_STATUS_IDENT_IN_LIMITS i = true ∧ (a.mode = 2 → s.recFlag i 0 = true)) →
      (a.mode = 1 → a.setCount ≠ 0 ∧ a.first ≤ a.setFirst ∧ a.setFirst + a.setCount ≤ a.first + a.count ∧ 4 ≤ outside.length ∧
        ∀ i ∈ outside, s.recFlag i 0 = true) →
      Answers (.calAlign p pl) s p 0x0402 (fun m d => d = [] ∧ m.op = .service ∧
        m.ops.align = some a ∧ m.fld F.SYS_OP_STATUS_BUSY = 1 ∧ m.fld F.SYS_OP_STATUS_OP = 1)) ∧
    (s.takes p 0x0403 pl → s.opRuns = false → s.bmvUsed = false → s.qdrUsable = true →
      let first := beAt pl 0 2
      let count := beAt pl 2 2
      0 < count → first + count ≤ 512 → (∀ i, i < count → s.recFlag (first + i) 0 = true ∧ s.recFlag (first + i) 1 = true) →
      15 ≤ byteAt pl 4 → byteAt pl 4 ≤ 40 → byteAt pl 5 = 0 → 60 ≤ beAt pl 6 2 → beAt pl 6 2 ≤ 7200 → beAt pl 10 2 = 0 →
      Answers (.calThermal p pl) s p 0x0403 (fun m d => d = [] ∧ m.op = .service ∧
        (∃ h, m.ops.therm = some h ∧ h.first = first ∧ h.count = count ∧ h.sweepK = byteAt pl 4 ∧ h.points = []) ∧
        m.fld F.SYS_OP_STATUS_BUSY = 1 ∧ m.fld F.SYS_OP_STATUS_OP = 2)) ∧
    (s.asleep = false →
      (∀ e, s.ops.eqx = some e → e.phase = 5 → e.src ≠ 4 → s.sched.expo = none →
        (∀ i ∈ s.workTiles, (s.lane i).slot = none ∧ 48 ≤ (s.sums i).kD ∧ 48 ≤ (s.sums i).kW ∧
          (s.sums i).ldark + 0x100 ≤ (s.sums i).lref) → e.lampClip = false →
        Completes (.equinoxCaptureDone t) s (fun m => m.ops = { s.ops with eqx := some { e with phase := 6, checking := s.workTiles } } ∧
          (m.bit F.PIPE_BANK_STATUS_VERIFY_BUSY = true ↔ s.ops.checks ≠ [] ∨ s.workTiles ≠ []) ∧
          (∀ i ∈ s.workTiles, m.bit (fldValid (1 - s.active i)) i = false) ∧ m.op = s.op)) ∧
      (∀ a, s.ops.align = some a → a.capturing = true →
        (∃ i ∈ s.workTiles, (s.eng i).tracks = [] ∨ ∃ x ∈ (s.eng i).tracks, x.cross.length ≠ 16) → Completes (.alignCaptureDone t) s (ended 2 6)) ∧
      (∀ a, s.ops.align = some a → a.capturing = true →
        (∀ i ∈ s.workTiles, (s.eng i).tracks ≠ [] ∧ ∀ x ∈ (s.eng i).tracks, x.cross.length = 16) →
        Completes (.alignCaptureDone t) s (ended 1 0)) ∧
      (∀ a, s.ops.align = some a → a.capturing = true → (∀ i ∈ s.workTiles, ∀ x ∈ (s.eng i).tracks, x.cross = []) → a.t0 + 1000000 * a.timeout ≤ u.tb →
        Completes (.alignTimeout t) s (ended 2 1)) ∧
      (∀ h, s.ops.therm = some h → h.points = [] → s.ops.eqx = none → Completes (.thermalPoint t) s (fun m =>
        m.ops.therm = some h ∧ (∃ e, m.ops.eqx = some e ∧ e.src = 4) ∧ m.op = s.op)) ∧
      (∀ h, s.ops.therm = some h → h.t0 + 1000000000 * h.timeout ≤ u.tb → Completes (.thermalTimeout t) s (ended 2 1)))

/-- COEF_LOAD of the next piece of an object of a PRESENT record (a compatibility object: of a span tile of such a job)
that is not the last holds it in the path's stage; the last one of an object that checks clears the stage and writes
it: geometry and base bank into the record, with their flags, a compatibility bank, or that built from B and W lines,
into the tile's image. COEF_SAVE with no record unsaved and no power failure answers 0 and changes no memory; with one
record unsaved, energy for it and programming that succeeds it answers 1, both copies in flash are the same and the
record is saved; in a power failure it is DEFERRED. REF_RASTER_PUT holds a piece that is not the last, and its last
piece writes the row and makes it known. VERDICT_CONFIG of ANA_REF_COL stores what the last entry writes, and of a
first address outside the ANA block is refused and changes nothing. STATS_READ waits; STATS_TIMEOUT after 100 ms
answers it. CONFIG_STORE with energy and programming that succeeds writes the configuration, one GEN on, into one
block of flash, never over the newer of two valid ones, and nothing else; when programming fails twice it answers
FAULT. -/
def Obligations.RecordsRowsAndConfigAreStored : Prop :=
  ∀ (s : State) (p : Path) (pl : List Byte) (t : Nat), s.Inv →
    let num := s.env.holdupCode * 5 * s.fld F.PWR_HOLDUP_V_DIV
    let den := 2 ^ 23 * 4 * 2 ^ s.fld F.MON_URG_HOLDUP_CFG_GAIN * 256
    let vmin := s.fld F.PWR_HOLDUP_V_VMIN_MV
    let avail := s.fld F.PWR_HOLDUP_C_UF * (num * num * 1000000 - vmin * vmin * (den * den)) * 1000 / (2 * (den * den))
    let energy := fun (ers pages wireNs : Nat) => s.env.pwrFail = false ∧ 3 * (s.fld F.PWR_STORE_P_P_MW *
      (ers * s.fld F.PWR_FLASH_T_T_ER32_MS * 1000000 + pages * s.fld F.PWR_FLASH_T_T_PP_US * 1000 + wireNs) * 1000) ≤ 2 * avail
    (let i := beAt pl 0 2
     let kind := byteAt pl 2
     let off := beAt pl 4 4
     let held := match (s.cmd p).coef with
       | some x => if off ≠ 0 ∧ x.tile = i ∧ x.kind = kind then x.data else []
       | none => []
     let x : Stage := ⟨i, kind, held ++ pl.drop 8⟩
     s.takes p 0x0404 pl → i < 512 → kind ≤ 3 → (2 ≤ kind → s.compat = true ∧ s.inSpan i = true) → s.qdrUsable = true →
      s.recPresent i = true → off = held.length →
      (byteAt pl 3 = 0 → x.data.length ≤ coefSize kind → Answers (.coefLoad p pl) s p 0x0404 (fun m d => d = [] ∧
        m = s.modCmd p (fun c => { c with coef := some x }))) ∧
      (byteAt pl 3 = 1 → x.data.length = coefSize kind → s.coefOk x = true →
        Answers (.coefLoad p pl) s p 0x0404 (fun m d => d = [] ∧ (m.cmd p).coef = none ∧ m.recPresent i = true ∧
          (kind ≤ 1 → m.regs = s.regs ∧ m.job = s.job ∧ m.recFlag i kind = true ∧
            m.readMem (recAddr i + (if kind = 0 then 64 else 128)) x.data.length = x.data) ∧
          (kind = 2 → m.readMem (s.imageAddr i 2) 11520 = x.data ∧ i ∈ m.job.images) ∧
          (kind = 3 → m.readMem (s.imageAddr i 2) (s.bankOfLines i x.data).1.length = (s.bankOfLines i x.data).1 ∧ i ∈ m.job.images ∧
            m.fld F.PIPE_COEF_CLAMP_CNT_COUNT =
              satAdd F.PIPE_COEF_CLAMP_CNT_COUNT.width (s.fld F.PIPE_COEF_CLAMP_CNT_COUNT) (s.bankOfLines i x.data).2)))) ∧
    (s.takes p 0x0405 pl → byteAt pl 0 = 0 →
      ((∀ i, i < 512 → s.recPresent i = true → s.recUnsaved i = false) → s.env.pwrFail = false →
        Answers (.coefSave p pl) s p 0x0405 (fun m d => d = be 2 0 ∧ m = { s with regs := m.regs } ∧ m.fld F.PWR_HOLDUP_LAST_RESULT = 1)) ∧
      (∀ i, i < 512 → (∀ j, j < 512 → ((s.recPresent j = true ∧ s.recUnsaved j = true) ↔ j = i)) →
        energy 2 182 116480 → Config.progOk s.free = true → Config.progOk (s.free + 3) = true →
        Answers (.coefSave p pl) s p 0x0405 (fun m d => d = be 2 1 ∧ m.recPresent i = true ∧ m.recUnsaved i = false ∧
          m.readMem (flashCal 0 i) 32768 = m.readMem (flashCal 1 i) 32768)) ∧
      (s.env.pwrFail = true → ∃ m : State, exec (.coefSave p pl) s = .next (s.rest { m with out := .reply p 0x0405 stDeferred 0 [] :: s.out }) ∧
        m = { s with regs := m.regs } ∧ m.fld F.PWR_HOLDUP_LAST_RESULT = 3)) ∧
    (let r := beAt pl 0 4
     let off := beAt pl 4 4
     let size := 180 * s.job.count
     let held := match (s.cmd p).raster with
       | some x => if off ≠ 0 ∧ x.tile = r ∧ x.kind = 0 then x.data else []
       | none => []
     let data := held ++ pl.drop 12
     s.takes p 0x0701 pl → beAt pl 9 3 = 0 → s.qdrUsable = true → off = held.length → (off = 0 → s.rowPinned r = false) →
      (byteAt pl 8 = 0 → data.length ≤ size → Answers (.refRasterPut p pl) s p 0x0701 (fun m d => d = [] ∧
        m = s.modCmd p (fun c => { c with raster := some ⟨r, 0, data⟩ }))) ∧
      (byteAt pl 8 = 1 → data.length = size → Answers (.refRasterPut p pl) s p 0x0701 (fun m d => d = [] ∧ r ∈ m.ana.refRows ∧
        (m.cmd p).raster = none ∧ m.readMem (s.refAddr r) size = data ∧ m.regs = s.regs ∧
        ∀ a, a < s.refAddr r ∨ s.refAddr r + size ≤ a → m.readMem a 1 = s.readMem a 1))) ∧
    (s.takes p 0x0702 pl → s.mayWrite p →
      ((∀ e ∈ pairsAt pl 0, e.1 = 0xF0014) → Answers (.verdictConfig p pl) s p 0x0702 (fun m d => d = [] ∧ m = { s with regs := m.regs } ∧
        s.RegsBut m [F.ANA_REF_COL_COL_OFF.cell] ∧
        ((pairsAt pl 0).getLast?).map (fun e => e.2 % 2 ^ 16) = some (m.fld F.ANA_REF_COL_COL_OFF))) ∧
      (∀ j e, (pairsAt pl 0)[j]? = some e → (e.1 < 0xF0000 ∨ 0xFFFFF < e.1) →
        (∀ x ∈ (pairsAt pl 0).take j, 0xF0000 ≤ x.1 ∧ x.1 ≤ 0xFFFFF) → exec (.verdictConfig p pl) s =
          .next (s.rest { s with out := .reply p 0x0702 stBadParam (min 255 j) [] :: s.out }))) ∧
    (s.takes p 0x0703 pl → s.ops.stats = none →
      exec (.statsRead p pl) s = .next (s.rest { s.begun p 0x0703 with ops := { s.ops with stats := some (p, s.tb) } })) ∧
    (∀ x h, s.asleep = false → s.ops.stats = some x → x.2 + 100000000 ≤ (s.at t).tb → (s.cmd x.1).run = some h → h.direct = true →
      exec (.statsTimeout t) s = .next (s.rest { (s.at t).modCmd x.1 (fun c => { c with run := none }) with
        ops := { s.ops with stats := none }, out := .reply x.1 h.op stOk 0 (s.statsReply (s.prod.last.getD 0) true) :: s.out })) ∧
    (let gen := fun (b : Nat) => if cfgValid (s.cfgBlock b) then cfgGen (s.cfgBlock b) else 0
     let g := (max (gen 0) (gen 1) + 1) % 2 ^ 32
     s.takes p 0x0801 pl → energy 2 256 163840 →
      ((Config.progOk s.free = true ∨ Config.progOk (s.free + 1) = true) → Answers (.configStore p pl) s p 0x0801 (fun m d => d = [] ∧
        m = { s with regs := m.regs, mem := m.mem, bad := m.bad, free := m.free } ∧
        ∃ k, k < 2 ∧ (∀ b, b < 2 → cfgValid (s.cfgBlock b) = true → gen (1 - b) < gen b → k ≠ b) ∧
          m.readMem (flashConfig k) (m.newBlock g).length = m.newBlock g ∧
          (∀ a, a < flashConfig k ∨ flashConfig k + max 65536 (m.newBlock g).length ≤ a → m.readMem a 1 = s.readMem a 1))) ∧
      (Config.progOk s.free = false → Config.progOk (s.free + 1) = false → ∃ m : State,
        exec (.configStore p pl) s = .next (s.rest { m with out := .reply p 0x0801 stFault 0 [] :: s.out }) ∧
          m = { s with regs := m.regs, mem := m.mem, bad := m.bad, free := m.free }))

/-- FW_BEGIN of a legal size begins an update and leads to SERVICE outside BOOT. FW_CHUNK of a kernel package's next bytes
holds them. FW_COMMIT of a complete package in SERVICE answers what its check gives: DEFERRED keeps the update, any
other answer ends it with its code and leads to IDLE. ATTEST answers the report and counts where the identity area
holds, else FAULT. DUMP_READ and FAULT_LOG_READ answer bytes and change nothing. RESERVE_BW of MASK 0 ends the
subscription and answers rate 0. -/
def Obligations.UpdatesAndReportsAnswer : Prop :=
  ∀ (s : State) (p : Path) (pl : List Byte), s.Inv →
    (s.takes p 0x0802 pl → s.op = .idle → 0 < beAt pl 0 4 → beAt pl 0 4 ≤ 8388608 → s.opRuns = false → s.bmvUsed = false →
      Answers (.fwBegin p pl) s p 0x0802 (fun m d => d = [] ∧ m.op = .service ∧
        m.ops = { s.ops with update := some ⟨p, beAt pl 0 4, 0, 0, []⟩ })) ∧
    (∀ v, s.takes p 0x0803 pl → s.ops.update = some v → v.path = p → v.kind = 2 → 0 < v.got → beAt pl 0 4 = v.got →
      v.got + (pl.drop 4).length ≤ v.size → Answers (.fwChunk p pl) s p 0x0803 (fun m d => d = [] ∧
        m.ops = { s.ops with update := some { v with got := v.got + (pl.drop 4).length, data := v.data ++ pl.drop 4 } } ∧
        m.fld F.SEC_STATUS_UPDATE = 2 ∧ m.mem = s.mem)) ∧
    (∀ v, s.takes p 0x0804 pl → s.op = .service → s.ops.update = some v → v.path = p → v.got = v.size →
      let r := s.commitPack v (match p with | .sess k => k | _ => 8)
      ∃ m : State, exec (.fwCommit p pl) s = .next (s.rest { m with out := .reply p 0x0804 r.2.1 0 [] :: m.out }) ∧
        (r.2.1 ≠ stDeferred → m.op = .idle ∧ m.ops.update = none ∧ m.fld F.SEC_STATUS_UPDATE = 0 ∧
          m.fld F.SEC_STATUS_UPDATE_RESULT = r.2.2 % 2 ^ F.SEC_STATUS_UPDATE_RESULT.width) ∧
        (r.2.1 = stDeferred → m.op = .service ∧ m.ops.update = some v)) ∧
    (s.takes p 0x0103 pl →
      (Config.identityOk (s.readMem flashIdent 65536) = true → Answers (.attest p pl) s p 0x0103 (fun m d =>
        some d = (s.attest pl).2 ∧ m = { s with regs := m.regs } ∧ s.RegsBut m [F.SEC_ATTEST_CNT_COUNT.cell] ∧
        m.fld F.SEC_ATTEST_CNT_COUNT = satAdd F.SEC_ATTEST_CNT_COUNT.width (s.fld F.SEC_ATTEST_CNT_COUNT) 1)) ∧
      (Config.identityOk (s.readMem flashIdent 65536) = false →
        exec (.attest p pl) s = .next (s.rest { s with out := .reply p 0x0103 stFault 0 [] :: s.out }))) ∧
    (s.takes p 0x0805 pl → s.qdrUsable = true → beAt pl 4 4 % 8 = 0 → 8 ≤ beAt pl 4 4 → beAt pl 4 4 ≤ 1048576 →
      beAt pl 0 4 + beAt pl 4 4 ≤ 0x400000 → Answers (.dumpRead p pl) s p 0x0805 (fun m d => m = s ∧
        d = s.dumpBytes (beAt pl 0 4) (beAt pl 4 4) ∧ d.length = beAt pl 4 4)) ∧
    (s.takes p 0x0806 pl → 1 ≤ beAt pl 2 2 → beAt pl 2 2 ≤ 1024 → Answers (.faultLogRead p pl) s p 0x0806 (fun m d => m = s ∧
      d = s.logEntries (beAt pl 0 2) (beAt pl 2 2))) ∧
    (∀ k, p = .sess k → k < s.sessions.length → s.takes p 0x0104 pl → byteAt pl 0 = 0 → byteAt pl 1 ≤ 1 → beAt pl 2 2 < 1024 →
      (s.modTx k (fun x => { x with rend := 0, reserved := false, lag := beAt pl 2 2, owed := [], segs := [], cutting := none,
                                    served := 0 })).admitted = true →
      Answers (.reserveBw p pl) s p 0x0104 (fun m d => d = be 4 0 ∧ (m.session k).tx.rend = 0 ∧ (m.session k).tx.reserved = false ∧
        (m.session k).tx.owed = [] ∧ (∀ j, j ≠ k → m.session j = s.session j)))

/-- REG_WRITE and REGISTER_WRITE by a path that may write, of the registers MOT_CFG and ANA_REF_COL, store what the last
entry for each writes, and nothing else changes; a list whose first address with no register is entry j, the others
before it of these two registers, answers BAD_PARAM with DETAIL j and writes nothing. REG_MODIFY of ANA_REF_COL
answers the old value and changes the bits of MASK. REG_READ of registers that exist answers four bytes for each, of
MOT_CFG and ANA_REF_COL their values, changing nothing. SEL_WRITE sets the path's select and no other and marks one
out of range. LO_READ_LATCH of TB_NOW_LO gives the low half of the time and latches the high half; READ_CLEAR of the
clipping counter gives its count and clears it. -/
def Obligations.RegisterAccessesReadAndWrite : Prop :=
  ∀ (s : State) (p : Path) (pl : List Byte), s.Inv → s.recoveryPath p = false →
    let plain := fun (a : Nat) => a = 0x60008 ∨ a = 0xF0014
    let cells := [F.MOT_CFG_ESTOP_DRV_DIS.cell, F.ANA_REF_COL_COL_OFF.cell]
    let wrote := fun (es : List (Nat × Nat)) (m : State) => m = { s with regs := m.regs } ∧ s.RegsBut m cells ∧
      m.fld F.MOT_CFG_ESTOP_DRV_DIS =
        (((es.filter (fun e => e.1 = 0x60008)).getLast?).map (fun e => e.2 % 2)).getD (s.fld F.MOT_CFG_ESTOP_DRV_DIS) ∧
      m.fld F.ANA_REF_COL_COL_OFF =
        (((es.filter (fun e => e.1 = 0xF0014)).getLast?).map (fun e => e.2 % 2 ^ 16)).getD (s.fld F.ANA_REF_COL_COL_OFF)
    (s.takes p 0x0202 pl → s.mayWrite p → s.season domUnc = .summer →
      ((∀ e ∈ pairsAt pl 0, plain e.1) → Answers (.regWrite p pl) s p 0x0202 (fun m d => d = [] ∧ wrote (pairsAt pl 0) m)) ∧
      (∀ (j : Nat) (e : Nat × Nat), (pairsAt pl 0)[j]? = some e → regAt e.1 = none → (∀ x ∈ (pairsAt pl 0).take j, plain x.1) →
        exec (.regWrite p pl) s = .next (s.rest { s with out := .reply p 0x0202 stBadParam (min 255 j) [] :: s.out }))) ∧
    (∀ a v, s.takes p 0x0202 (zeros 8) → s.mayWrite p → s.season domUnc = .summer → a < 2 ^ 32 → v < 2 ^ 32 →
      (plain a → Answers (.registerWrite p a v) s p 0x0202 (fun m d => d = [] ∧ wrote [(a, v)] m)) ∧
      (regAt a = none → exec (.registerWrite p a v) s =
        .next (s.rest { s with out := .reply p 0x0202 stBadParam 0 [] :: s.out }))) ∧
    (s.takes p 0x0203 pl → s.mayWrite p → beAt pl 0 4 = 0xF0014 → assocGet (latchKey 0xF0014 0 0) (s.bank p).latches = none →
      let old := s.fld F.ANA_REF_COL_COL_OFF
      let mask := beAt pl 4 4
      old < 2 ^ 16 → Answers (.regModify p pl) s p 0x0203 (fun m d => d = be 4 old ∧ m = { s with regs := m.regs } ∧
        s.RegsBut m [F.ANA_REF_COL_COL_OFF.cell] ∧ m.fld F.ANA_REF_COL_COL_OFF =
          Nat.lor (Nat.land old (Nat.xor mask 0xFFFFFFFF)) (Nat.land (beAt pl 8 4) mask) % 2 ^ 16)) ∧
    (let as := (chunksOf 4 256 pl).map ofBe
     s.takes p 0x0201 pl →
      ((∀ a ∈ as, (regAt a).isSome = true) → Answers (.regRead p pl) s p 0x0201 (fun m d => d.length = 4 * as.length ∧ m.mem = s.mem)) ∧
      ((∀ a ∈ as, plain a ∧ assocGet (latchKey a 0 0) (s.bank p).latches = none) → s.season domUnc = .summer →
        s.fld F.MOT_CFG_ESTOP_DRV_DIS < 2 → s.fld F.ANA_REF_COL_COL_OFF < 2 ^ 16 →
        Answers (.regRead p pl) s p 0x0201 (fun m d => m = s ∧
          d = as.flatMap (fun a => be 4 (if a = 0x60008 then s.fld F.MOT_CFG_ESTOP_DRV_DIS else s.fld F.ANA_REF_COL_COL_OFF))))) ∧
    (∀ j v, s.takes p 0x0202 (zeros 8) → j < 7 → v < 2 ^ 16 → pathIdx p < s.banks.length → (s.bank p).sels.length = 7 →
      Answers (.selWrite p j v) s p 0x0202 (fun m d => d = [] ∧ m = { s with banks := m.banks } ∧ m.selOf p j = v ∧
        (∀ i, i ≠ j → m.selOf p i = s.selOf p i) ∧ (v ≠ 0xFFFF → selCount j ≤ v → (m.bank p).selRange = true))) ∧
    (s.asleep = false → s.pathOpen p = true → (s.op ≠ .boot ∨ p = .fw) →
      (assocGet (latchKey 0x40060 0 0) (s.bank p).latches = none → Completes (.loReadLatch p 0x40060) s (fun m =>
        m = { s with banks := m.banks, out := .value p 0x40060 (s.tb % 2 ^ 32) :: s.out } ∧ (pathIdx p < s.banks.length →
          assocGet (latchKey 0x40064 0 0) (m.bank p).latches = some (s.tb / 2 ^ 32 % 2 ^ 32)))) ∧
      (assocGet (latchKey 0x30028 0 0) (s.bank p).latches = none → s.fld F.PIPE_SAT_CNT_COUNT < 2 ^ 32 →
        Completes (.readClear p 0x30028) s (fun m =>
          m = { s with regs := m.regs, out := .value p 0x30028 (s.fld F.PIPE_SAT_CNT_COUNT) :: s.out } ∧
          s.RegsBut m [F.PIPE_SAT_CNT_COUNT.cell] ∧ m.fld F.PIPE_SAT_CNT_COUNT = 0)))

/-- Through a path that may write, with tile i or port q selected: TRAIN begins training and, with no PRBS test on, sends
the lane's tile its first three commands; LOOPBACK and PRBS take the code given and leave the other, a checker whose
sequence changes starts unlocked; INJECT counts one PRBS error in a locked checker and with PRBS off spoils the next
frame, nothing else changing in a powered quad; LANE_EQ_WRITE stores CTLE and sends the taps. PORT_LOOPBACK and
PORT_PRBS take the code, a changed sequence starts its checkers unlocked, and PORT_INJECT counts one error in a locked
checker; nothing else changes. -/
def Obligations.LinkAndPortTestsAct : Prop :=
  ∀ (s : State) (p : Path), s.Inv → s.takes p 0x0202 (zeros 8) → s.mayWrite p → s.op = .service → s.lanes.length = 512 →
    s.seasons.length = 146 → s.bcbs.length = 4 → s.ports.length = 17 →
    (let i := s.selOf p 0
     let loop := s.fld F.TILE_LANE_CTRL_LOOPBACK i
     let on := s.fld F.TILE_LANE_CTRL_PRBS i
     let sent := fun (m : State) (qs : List (Nat × List Byte × Origin)) => (m.bcb (i / 128)).queue =
       (s.bcb (i / 128)).queue ++ qs.map (fun x => ⟨i, x.1, x.2.1, x.2.2, 4, 0, 0⟩)
     i < 512 → loop < 4 → on < 4 →
      Answers (.train p) s p 0x0202 (fun m d => d = [] ∧ m.op = s.op ∧ m.season (i / 4) = .summer ∧
        (m.lane i).train = some ⟨0, 0, 0, 0, 1, true, true, false, false, 0, 0, false, false⟩ ∧
        m.fld F.TILE_LANE_STATUS_TRAINING i = 1 ∧ m.fld F.TILE_LANE_STATUS_BLOCK_LOCK i = 0 ∧ m.fld F.TILE_LANE_EQ_CTLE i = 0 ∧
        (on = 0 → sent m [(0x03, [0], .training), (0x03, [1], .training), (0x08, [0], .training)])) ∧
      (∀ c, Answers (.loopback p c) s p 0x0202 (fun m d => d = [] ∧ m.op = s.op ∧ m.fld F.TILE_LANE_CTRL_LOOPBACK i = c % 4 ∧
        m.fld F.TILE_LANE_CTRL_PRBS i = on)) ∧
      (∀ c, Answers (.prbs p c) s p 0x0202 (fun m d => d = [] ∧ m.op = s.op ∧ m.fld F.TILE_LANE_CTRL_PRBS i = c % 4 ∧
        m.fld F.TILE_LANE_CTRL_LOOPBACK i = loop ∧
        (prbsMode (c % 4) ≠ prbsMode on → (m.lane i).prbs = {} ∧ m.fld F.TILE_LANE_STATUS_PRBS_LOCK i = 0))) ∧
      (s.season (i / 4) = .summer → s.bit F.TILE_LANE_STATUS_PRBS_LOCK i = true → (on = 1 ∨ on = 2) →
        Answers (.inject p) s p 0x0202 (fun m d => d = [] ∧ m = { s with regs := m.regs, lanes := m.lanes } ∧
          s.RegsBut m [F.TILE_PRBS_ERR_COUNT.cell i] ∧ (∀ j, j ≠ i → m.lane j = s.lane j) ∧
          m.fld F.TILE_PRBS_ERR_COUNT i = satAdd F.TILE_PRBS_ERR_COUNT.width (s.fld F.TILE_PRBS_ERR_COUNT i) 1)) ∧
      (on = 0 → Answers (.inject p) s p 0x0202 (fun m d => d = [] ∧ m.op = s.op ∧ (m.lane i).injectNext = true ∧
        (s.season (i / 4) = .summer → m = { s with regs := m.regs, lanes := m.lanes } ∧ s.RegsBut m [] ∧
          ∀ j, j ≠ i → m.lane j = s.lane j))) ∧
      (∀ v, v < 2 ^ 32 → Answers (.laneEqWrite p v) s p 0x0202 (fun m d => d = [] ∧ m.op = s.op ∧ m.fld F.TILE_LANE_EQ_CTLE i = v % 8 ∧
        sent m [(0x08, [BitVec.ofNat 8 (bitsOf v 4 4 * 16 + bitsOf v 8 4)], .setting)]))) ∧
    (let q := s.selOf p 5
     let loop := s.fld F.NET_PORT_TEST_LOOPBACK q
     let on := s.fld F.NET_PORT_TEST_PRBS q
     q < 17 → s.linkMuted q = false → s.pathOn q = false → loop < 4 → on < 4 →
      (∀ c, Answers (.portLoopback p c) s p 0x0202 (fun m d => d = [] ∧ m = { s with regs := m.regs } ∧
        s.RegsBut m [F.NET_PORT_TEST_LOOPBACK.cell q] ∧ m.fld F.NET_PORT_TEST_LOOPBACK q = c % 4)) ∧
      (∀ c, Answers (.portPrbs p c) s p 0x0202 (fun m d => d = [] ∧ m = { s with regs := m.regs, ports := m.ports } ∧
        s.RegsBut m [F.NET_PORT_TEST_PRBS.cell q, F.NET_PORT_STATUS_PRBS_LOCK.cell q] ∧ m.fld F.NET_PORT_TEST_PRBS q = c % 4 ∧
        (∀ j, j ≠ q → m.port j = s.port j) ∧
        (if c % 4 = on then m.ports = s.ports ∧ m.fld F.NET_PORT_STATUS_PRBS_LOCK q = s.fld F.NET_PORT_STATUS_PRBS_LOCK q
         else (m.port q).prbs = List.replicate 4 {} ∧ m.fld F.NET_PORT_STATUS_PRBS_LOCK q = 0))) ∧
      (on ≠ 0 → s.bit F.NET_PORT_STATUS_PRBS_LOCK q = true → Answers (.portInject p) s p 0x0202 (fun m d => d = [] ∧
        m = { s with regs := m.regs } ∧ s.RegsBut m [F.NET_PRBS_ERR_COUNT.cell q] ∧
        m.fld F.NET_PRBS_ERR_COUNT q = satAdd F.NET_PRBS_ERR_COUNT.width (s.fld F.NET_PRBS_ERR_COUNT q) 1)))

/-- ARM arms an event swap with PENDING clear, and a line swap with PENDING set in a job; DISARM leaves no swap armed or
pending; a committed line carries no swap any more after either, which is the model's choice for ARM (assumption log
164). VERIFY puts one check of the bank it names on every engine in Summer where that bank is not active and none of
it is under way. LUT_DATA_WRITE stores two entries and moves on. ENC_POS_WRITE and AXIS_POS_WRITE set the position
from the held HI half and the value, and take the held half. CLK_CFG_WRITE in IDLE and LUM_SEC_DUTY_WRITE store their
fields and nothing else. -/
def Obligations.BankPositionAndClockWritesAct : Prop :=
  ∀ (s : State) (p : Path) (v : Nat), s.Inv → s.takes p 0x0202 (zeros 8) → s.mayWrite p → v < 2 ^ 32 →
    s.encs.length = 8 → s.axes.length = 8 → pathIdx p < s.banks.length →
    let unmarked : Sched := { s.sched with cur := s.sched.cur.map (fun (c : Commit) => { c with swap := false }) }
    ((s.op = .calibrating → p = .fw) →
      (bitAt v 9 = false → bitAt v 11 = false → v % 4 = 1 → Answers (.arm p v) s p 0x0202 (fun m d => d = [] ∧
        m = { s with regs := m.regs, sched := unmarked } ∧
        m.fld F.PIPE_BANK_STATUS_ARMED = 1 ∧ m.fld F.PIPE_BANK_STATUS_PENDING = 0 ∧ m.fld F.PIPE_BANK_CTRL_SWAP_EV = bitsOf v 2 6)) ∧
      (bitAt v 9 = false → bitAt v 11 = false → v % 4 = 2 → s.op.inJob = true → Answers (.arm p v) s p 0x0202 (fun m d => d = [] ∧
        m = { s with regs := m.regs, sched := unmarked } ∧ m.fld F.PIPE_BANK_STATUS_ARMED = 1 ∧ m.fld F.PIPE_BANK_STATUS_PENDING = 1)) ∧
      Answers (.disarm p v) s p 0x0202 (fun m d => d = [] ∧ m = { s with regs := m.regs, sched := unmarked, ops := m.ops } ∧
        m.fld F.PIPE_BANK_STATUS_ARMED = 0 ∧ m.fld F.PIPE_BANK_STATUS_PENDING = 0) ∧
      (bitAt v 8 = false → bitAt v 11 = false → s.bit F.PIPE_BANK_STATUS_PENDING = false → Answers (.verify p v) s p 0x0202 (fun m d =>
        d = [] ∧ m = { s with regs := m.regs, ops := { s.ops with checks := m.ops.checks } } ∧
        m.ops.checks = s.ops.checks ++ (((List.range 512).filter (fun i => s.season (i / 4) = .summer &&
          decide (s.active i ≠ bitsOf v 10 1))).map (fun i => (i, bitsOf v 10 1))).filter (fun x => !s.ops.checks.contains x) ∧
        (m.bit F.PIPE_BANK_STATUS_VERIFY_BUSY = true ↔ m.ops.checks ≠ [] ∨ ∃ e, s.ops.eqx = some e ∧ e.checking ≠ [])))) ∧
    (s.calm = true → Answers (.lutDataWrite p v) s p 0x0202 (fun m d =>
      let a := s.fld F.PIPE_LUT_ADDR_CH * 4096 + s.fld F.PIPE_LUT_ADDR_INDEX
      d = [] ∧ m = { s with regs := m.regs, ana := m.ana } ∧ m.ana = { s.ana with luts := m.ana.luts } ∧
        assocGet a m.ana.luts = some (v % 65536) ∧ assocGet (a + 1) m.ana.luts = some (v / 65536) ∧
        (∀ k, k ≠ a → k ≠ a + 1 → assocGet k m.ana.luts = assocGet k s.ana.luts) ∧
        s.RegsBut m [F.PIPE_LUT_ADDR_INDEX.cell, F.PIPE_LUT_ADDR_CH.cell] ∧
        m.fld F.PIPE_LUT_ADDR_INDEX = (a + 2) % 4096 ∧ m.fld F.PIPE_LUT_ADDR_CH = (a + 2) / 4096 % 4)) ∧
    (s.season domUnc = .summer → ∀ k hi, k < 8 → (k = s.masterIdx → s.calm = true) →
      assocGet (latchKey 0x4010C k 0) (s.bank p).held = some hi →
      Answers (.encPosWrite p k v) s p 0x0202 (fun m d => d = [] ∧ (m.enc k) = { s.enc k with pos := toSigned 48 (hi * 2 ^ 32 + v) } ∧
        (∀ j, j ≠ k → m.enc j = s.enc j) ∧ assocGet (latchKey 0x4010C k 0) (m.bank p).held = none ∧
        (k ≠ s.masterIdx → m = { s with encs := m.encs, banks := m.banks }))) ∧
    (s.season domUnc = .summer → ∀ hi, let i := s.selOf p 2
      i < 8 → s.groupBusy (s.fld F.MOT_AXIS_CFG_GROUP i) = false → assocGet (latchKey 0x6011C 0 i) (s.bank p).held = some hi →
      Answers (.axisPosWrite p v) s p 0x0202 (fun m d => d = [] ∧ m = { s with axes := m.axes, banks := m.banks } ∧
        (m.axis i).pos = toSigned 48 (hi * 2 ^ 32 + v) ∧ (m.axis i).posRef = (m.axis i).pos ∧ (∀ j, j ≠ i → m.axis j = s.axis j) ∧
        assocGet (latchKey 0x6011C 0 i) (m.bank p).held = none)) ∧
    (s.season domUnc = .summer → s.op = .idle → Answers (.clkCfgWrite p v) s p 0x0202 (fun m d => d = [] ∧ m = { s with regs := m.regs } ∧
      s.RegsBut m [F.CLK_CFG_CORE_SSC.cell, F.CLK_CFG_BREF_SSC.cell, F.CLK_CFG_CTRL_SSC.cell] ∧
      m.fld F.CLK_CFG_CORE_SSC = v % 2 ∧ m.fld F.CLK_CFG_BREF_SSC = v / 2 % 2 ∧ m.fld F.CLK_CFG_CTRL_SSC = v / 4 % 2)) ∧
    (s.season domUnc = .summer → let i := s.selOf p 1
     i < 256 →
      Answers (.lumSecDutyWrite p 0 v) s p 0x0202 (fun m d => d = [] ∧ m = { s with regs := m.regs } ∧
        s.RegsBut m [F.LUM_SEC_DUTY0_FRONT.cell i, F.LUM_SEC_DUTY0_REAR.cell i] ∧ m.fld F.LUM_SEC_DUTY0_FRONT i = v % 65536 ∧
        m.fld F.LUM_SEC_DUTY0_REAR i = v / 65536) ∧
      Answers (.lumSecDutyWrite p 1 v) s p 0x0202 (fun m d => d = [] ∧ m = { s with regs := m.regs } ∧
        s.RegsBut m [F.LUM_SEC_DUTY1_NIR.cell i] ∧ m.fld F.LUM_SEC_DUTY1_NIR i = v % 65536))

/-- LEAD_EXPIRY, once LEAD is over, begins the conversion: four filter times of its entry until its result.
CONVERSION_END, once it is due, shows code (of a CHOP entry's second half: the mean of its two halves), entry, BREAK,
CLIP and NEW, with OVERRUN and its count where NEW stood, and the sequence goes on to the next entry, after the last
to entry 0; the first half of a CHOP entry shows nothing and is kept. URGENT_DONE, once due, shows its code and kind
and leaves MON_DATA alone. EXCITATION_SHORT of a channel that is on switches it off, marks it SHORT and its
conversions BREAK. WIRE_BREAK on an input that an excited conversion watches sets its LIVE and LATCH bits and marks
the conversion. MON_DATA_READ gives MON_DATA and clears NEW. -/
def Obligations.MonitorConvertsAndShowsResults : Prop :=
  ∀ (s : State) (t k : Nat), s.Inv → s.asleep = false → k < 4 → s.mon.convs.length = 4 →
    let u := s.at t
    let c := s.conv k
    (c.phase = 2 → c.due ≤ u.tb → Completes (.leadExpiry t k) s (fun m => m = { u with regs := m.regs, mon := m.mon } ∧
      m.conv k = { c with phase := 3, since := u.tb, due := u.tb + 4 * (320 * (32 * 2 ^ c.cfg.osr)) } ∧
      (∀ j, j ≠ k → m.conv j = s.conv j) ∧ m.fld F.MON_CONV_STATUS_SETTLING k = 1 ∧ m.fld F.MON_CONV_STATUS_WAIT_EX k = 0 ∧
      s.RegsBut m [F.MON_CONV_STATUS_SETTLING.cell k, F.MON_CONV_STATUS_WAIT_EX.cell k])) ∧
    (∀ code brk clip, c.phase = 3 → c.urgent = none → c.due ≤ u.tb → (c.cfg.chop = true → c.half = true) →
      let n := s.fld F.MON_CONV_STATUS_ENTRY k
      Completes (.conversionEnd t k code brk clip) s (fun m => m = { u with regs := m.regs, mon := m.mon, out := m.out } ∧
        m.fld F.MON_DATA_RESULT k = ofSigned 24 (if c.cfg.chop then rheDiv (c.first + (if c.cfg.refEx then 1 else -1) * clampS 24 code) 2
          else clampS 24 code) ∧
        m.fld F.MON_DATA_NEW k = 1 ∧ m.fld F.MON_DATA_ENTRY k = n % 2 ^ F.MON_DATA_ENTRY.width ∧
        m.fld F.MON_DATA_BREAK k = b2n (brk || c.brk) ∧
        m.fld F.MON_DATA_CLIP k = b2n (clip || decide (clampS 24 code ≠ code) || c.clip) ∧
        m.fld F.MON_CONV_STATUS_OVERRUN k = (if s.bit F.MON_DATA_NEW k then 1 else s.fld F.MON_CONV_STATUS_OVERRUN k) ∧
        m.fld F.MON_OVERRUN_CNT_COUNT k = (if s.bit F.MON_DATA_NEW k then satAdd 32 (s.fld F.MON_OVERRUN_CNT_COUNT k) 1
          else s.fld F.MON_OVERRUN_CNT_COUNT k) ∧
        m.fld F.MON_CONV_STATUS_ENTRY k = (if s.fld F.MON_CONV_CFG_LEN k ≤ n then 0 else n + 1) % 2 ^ F.MON_CONV_STATUS_ENTRY.width)) ∧
    (∀ code brk clip, c.phase = 3 → c.urgent = none → c.due ≤ u.tb → c.cfg.chop = true → c.half = false →
      Completes (.conversionEnd t k code brk clip) s (fun m => m = { u with regs := m.regs, mon := m.mon, out := m.out } ∧
        (m.conv k).half = true ∧ (m.conv k).first = clampS 24 code ∧
        m.fld F.MON_DATA_RESULT k = s.fld F.MON_DATA_RESULT k ∧ m.fld F.MON_DATA_NEW k = s.fld F.MON_DATA_NEW k ∧
        m.fld F.MON_CONV_STATUS_ENTRY k = s.fld F.MON_CONV_STATUS_ENTRY k)) ∧
    (∀ code brk clip kind, c.urgent = some kind → kind < 2 → c.due ≤ u.tb → Completes (.urgentDone t k code brk clip) s (fun m =>
      m = { u with regs := m.regs, mon := m.mon, out := m.out, env := m.env, flt := m.flt } ∧
      (kind = 0 → m.env.holdupCode = (clampS 24 code).toNat) ∧
      m.fld F.MON_URG_DATA_RESULT k = ofSigned 24 (clampS 24 code) ∧ m.fld F.MON_URG_DATA_KIND k = kind ∧
      m.fld F.MON_URG_DATA_NEW k = 1 ∧ m.fld F.MON_URG_DATA_BREAK k = b2n brk ∧
      m.fld F.MON_DATA_RESULT k = s.fld F.MON_DATA_RESULT k ∧ m.fld F.MON_DATA_NEW k = s.fld F.MON_DATA_NEW k)) ∧
    (∀ x, x < 8 → s.uncUp = true → s.exOn x = true → Completes (.excitationShort t x) s (fun m =>
      m = { u with regs := m.regs, mon := m.mon, out := m.out, flt := m.flt } ∧ m.exShort x = true ∧
      m.exOn x = false ∧ (∀ y, y < 8 → y ≠ x → m.exOn y = s.exOn y ∧ m.exShort y = s.exShort y) ∧
      (∀ j, j < 4 → s.usesEx j x = true → (m.conv j).brk = true))) ∧
    (∀ a, a < 32 → (c.phase = 2 ∨ (c.phase = 3 ∧ c.urgent = none)) → c.cfg.use = true → s.exOn c.cfg.ex = true →
      (c.cfg.inp = a ∨ c.cfg.inn = a) →
      Completes (.wireBreak t a) s (fun m => m = { u with regs := m.regs, mon := m.mon, flt := m.flt } ∧
        bitAt (m.fld F.MON_BRK_LIVE_AIN) a = true ∧ bitAt (m.fld F.MON_BRK_LATCH_AIN) a = true ∧ (m.conv k).brk = true)) ∧
    (assocGet (latchKey 0x70048 k 0) (s.bank .fw).latches = none → s.season domUnc = .summer → Completes (.monDataRead k) s (fun m =>
      ∃ v, m = { s with regs := m.regs, mon := m.mon, out := .value .fw (0x70048 + 0x20 * k) v :: s.out } ∧
        v % 2 ^ 24 = s.fld F.MON_DATA_RESULT k % 2 ^ 24 ∧ m.bit F.MON_DATA_NEW k = false))

/-- HOLDUP_REQUEST and HEADROOM_REQUEST by firmware put the request to the converter configured for it, which begins it at
once unless an urgent conversion runs there, and then leaves what runs alone. FORCED_READ gives the last output and
changes nothing, but after the first output since the filter was reset and before the result it shows SETTLING and
takes one free value. EX_CFG_WRITE sets HOLD_ON, and a channel that no conversion uses and that is not short goes on
or off with it; one in use stays as it is. -/
def Obligations.MonitorRequestsAndForcedReads : Prop :=
  ∀ (s : State) (p : Path), s.Inv → s.season domUnc = .summer → s.mon.convs.length = 4 →
    let asked := fun (m : State) (k kind : Nat) => m = { s with regs := m.regs, mon := m.mon } ∧
      s.RegsBut m [F.MON_CONV_STATUS_URGENT.cell k, F.MON_CONV_STATUS_WAIT_EX.cell k, F.MON_CONV_STATUS_SETTLING.cell k] ∧
      (∀ j, j ≠ k → m.conv j = s.conv j) ∧
      (if (s.conv k).urgent = none then (m.conv k).urgent = some kind ∧ m.fld F.MON_CONV_STATUS_URGENT k = 1
       else m.regs = s.regs ∧ (m.conv k).urgent = (s.conv k).urgent ∧ (m.conv k).due = (s.conv k).due)
    (s.takes .fw 0x0202 (zeros 8) →
      (let k := s.fld F.MON_URG_HOLDUP_CFG_CONV
       k < 4 → Answers .holdupRequest s .fw 0x0202 (fun m d => d = [] ∧ asked m k 0 ∧ (m.conv k).urgHold = true)) ∧
      (∀ chain, chain < 4 → let k := s.fld F.MON_URG_HEAD_CFG_CONV
        k < 4 → Answers (.headroomRequest chain) s .fw 0x0202 (fun m d => d = [] ∧ asked m k 1 ∧
          (m.conv k).urgHead = some (((s.conv k).urgHead).getD chain)))) ∧
    (∀ k, k < 4 → s.asleep = false → s.pathOpen p = true → (s.op ≠ .boot ∨ p = .fw) →
      assocGet (latchKey 0x7004C k 0) (s.bank p).latches = none →
      let out1 := ((s.conv k).phase = 3 ∨ (s.conv k).urgent ≠ none) ∧ (s.conv k).since + s.outputNs k ≤ s.tb
      (¬ out1 → s.fld F.MON_FORCE_OUTPUT k < 2 ^ 24 → Completes (.forcedRead p k) s (fun m =>
        ∃ v, m = { s with out := .value p (0x7004C + 0x20 * k) v :: s.out } ∧ v % 2 ^ 24 = s.fld F.MON_FORCE_OUTPUT k ∧
          bitAt v 28 = false)) ∧
      (out1 → Completes (.forcedRead p k) s (fun m =>
        ∃ v, m = { s with free := s.free + 1, out := .value p (0x7004C + 0x20 * k) v :: s.out } ∧
          v % 2 ^ 24 = Config.freeValue s.free % 2 ^ 24 ∧ bitAt v 28 = true))) ∧
    (∀ x v, x < 8 → v < 2 ^ 32 → s.takes p 0x0202 (zeros 8) → s.mayWrite p → s.calm = true →
      Answers (.exCfgWrite p x v) s p 0x0202 (fun m d => d = [] ∧
        m.fld F.MON_EX_CFGx_HOLD_ON x = v % 2 ∧ (∀ y, y < 8 → y ≠ x → m.exOn y = s.exOn y) ∧
        (if (List.range 4).any (fun k => s.usesEx k x) then m = { s with regs := m.regs } ∧ m.exOn x = s.exOn x
         else m = { s with regs := m.regs, out := m.out } ∧ (s.exShort x = false → m.exOn x = decide (v % 2 = 1)))))

/-- DESKEW_TRACK of one channel moves each of its delays towards what was measured by at most one tap, marks TRACK_LIMIT
where it is told to, and changes memory in the channel's block of the scratch region only. SCRUB_READ of a good word
goes on to the next word; with one bit flipped it counts a corrected error with its address on the word's channel and
leaves memory as it was; at the end of line memory it begins again and counts a pass. -/
def Obligations.LineMemoryIsTrackedAndScrubbed : Prop :=
  ∀ (s : State) (t : Nat), s.Inv → s.asleep = false → s.qdrUsable = true →
    let u := s.at t
    let moved := fun (m : State) (f : Fld) (c new : Nat) => m.fld f c = max (s.fld f c - 1) (min (s.fld f c + 1) new) % 2 ^ f.width
    (∀ d, d.ch < 4 → Completes (.deskewTrack t [d]) s (fun m =>
      m = { u with regs := m.regs, mem := m.mem, bad := m.bad, free := s.free + 64, flt := m.flt } ∧
      (∀ a, a < 0x1BFFF00 + 64 * d.ch ∨ 0x1BFFF40 + 64 * d.ch ≤ a → m.readMem a 1 = s.readMem a 1) ∧
      (d.limit = false → m.flt = s.flt ∧ s.RegsBut m [F.QCH_DESKEW_READ_MIN.cell d.ch, F.QCH_DESKEW_READ_MAX.cell d.ch,
        F.QCH_DESKEW_WRITE_MIN.cell d.ch, F.QCH_DESKEW_WRITE_MAX.cell d.ch]) ∧
      (d.limit = true → m.fld F.QCH_STATUS_TRACK_LIMIT d.ch = 1) ∧
      moved m F.QCH_DESKEW_READ_MIN d.ch d.rdMin ∧ moved m F.QCH_DESKEW_READ_MAX d.ch d.rdMax ∧
      moved m F.QCH_DESKEW_WRITE_MIN d.ch d.wrMin ∧ moved m F.QCH_DESKEW_WRITE_MAX d.ch d.wrMax)) ∧
    (s.bit F.QDR_SCRUB_EN = true → s.scrub ∉ s.bad →
      let next := fun (m : State) => if s.scrub + 8 < s.qdrEnd then m.scrub = s.scrub + 8
        else m.scrub = 0 ∧ m.fld F.QDR_STATUS_SCRUB_PASSES = (s.fld F.QDR_STATUS_SCRUB_PASSES + 1) % 2 ^ F.QDR_STATUS_SCRUB_PASSES.width
      Completes (.scrubRead t [] 0) s (fun m => m = { u with regs := m.regs, scrub := m.scrub } ∧ next m) ∧
      (∀ b, b < 72 → Completes (.scrubRead t [b] 0) s (fun m => m = { u with regs := m.regs, scrub := m.scrub, free := s.free + 1 } ∧
        next m ∧
        m.fld F.QCH_CE_CNT_COUNT (qdrCh s.scrub) = satAdd F.QCH_CE_CNT_COUNT.width (s.fld F.QCH_CE_CNT_COUNT (qdrCh s.scrub)) 1 ∧
        m.fld F.QCH_CE_ADDR_ADDR (qdrCh s.scrub) = s.scrub % 2 ^ F.QCH_CE_ADDR_ADDR.width)))

/-- BMV_SUBMIT of a descriptor that passes the checks to BMV6 or BMV7 at rest makes it PENDING with its fields loaded. GO
of a channel at rest loads the control word and makes it PENDING if it passes the checks, else shows which failed; of
a channel PENDING or RUNNING it changes nothing. BMV_CHANNEL_START starts the PENDING channel of lowest number when
the mover is free; one of no blocks is done at once. ABORT returns PENDING to IDLE and halts RUNNING with ERR 7.
BMV_BUS_ERROR of an access outside line memory, or to a source in it with repeats left, that is no restore's, counts
its repeats; after the last one (outside line memory) the channel halts with ERR 5, in a tail error 6, and its
address. BMV_COMPLETE of a copy of one pass into line memory, from line memory without an uncorrectable word or from
flash, writes the destination and nothing else and ends DONE. -/
def Obligations.BlockMoverMovesAndReports : Prop :=
  ∀ (s : State) (p : Path) (pl : List Byte) (t c v : Nat), s.Inv → c < 8 → v < 2 ^ 18 →
    let u := s.at t
    let st := s.fld F.BMV_STATUS_STATE c
    (let b := byteAt pl 0
     let op := byteAt pl 1
     let n := 64 * beAt pl 16 4
     let src := fun (i : Nat) => (byteAt pl 4 * 2 ^ 32 + beAt pl 5 4 + i * beAt pl 20 4) % 2 ^ 40
     let dst := fun (i : Nat) => (byteAt pl 9 * 2 ^ 32 + beAt pl 10 4 + i * beAt pl 24 4) % 2 ^ 40
     let inner := fun (a : Nat) => 1 ≤ a / 2 ^ 36 ∧ a / 2 ^ 36 ≤ 3
     s.takes p 0x0807 pl → (b = 6 ∨ b = 7) → op ≤ 3 → beAt pl 2 2 ≤ 511 → beAt pl 14 2 = 0 → beAt pl 16 4 < 2 ^ 24 → byteAt pl 36 ≤ 1 →
      byteAt pl 37 ≤ 63 → beAt pl 38 2 = 0 → s.fld F.BMV_STATUS_STATE b ≠ 1 → s.fld F.BMV_STATUS_STATE b ≠ 2 → s.qdrUsable = true →
      dst 0 % 8 = 0 → beAt pl 24 4 % 8 = 0 → (op % 2 = 0 → src 0 % 8 = 0 ∧ beAt pl 20 4 % 8 = 0) →
      (∀ i, i ≤ beAt pl 2 2 → dst i / 2 ^ 36 < 5 ∧ ¬ inner (dst i) ∧ s.rangeOk (dst i) n = true ∧
        (op % 2 = 0 → src i / 2 ^ 36 < 5 ∧ ¬ inner (src i) ∧ s.rangeOk (src i) n = true) ∧
        (op < 2 → dst i / 2 ^ 36 ≠ 4 ∧ s.fld F.QDR_ELASTIC_BASE_ADDR ≤ dst i)) →
      Answers (.bmvSubmit p pl) s p 0x0807 (fun m d => d = [] ∧ m = { s with regs := m.regs } ∧
        m.fld F.BMV_STATUS_STATE b = 1 ∧ m.fld F.BMV_STATUS_ERR b = 0 ∧ m.fld F.BMV_LEN_BLOCKS b = beAt pl 16 4 ∧
        m.fld F.BMV_CTRL_OP b = op ∧ m.fld F.BMV_CTRL_REPEAT b = beAt pl 2 2 ∧ m.bmvDst b 0 = dst 0 ∧ m.bmvSrc b 0 = src 0)) ∧
    (s.takes .fw 0x0202 (zeros 8) →
      (st ≠ 1 → st ≠ 2 → Answers (.go c v) s .fw 0x0202 (fun m d => d = [] ∧ m = { s with regs := m.regs } ∧
        m.fld F.BMV_CTRL_OP c = v % 4 ∧ m.fld F.BMV_CTRL_REPEAT c = v / 4 % 512 ∧ m.fld F.BMV_CTRL_EV c = v / 2 ^ 11 % 64 ∧
        m.fld F.BMV_CTRL_EV_EN c = v / 2 ^ 17 % 2 ∧ m.fld F.BMV_STATUS_ERR c = m.bmvCheck c ∧
        m.fld F.BMV_STATUS_STATE c = if m.bmvCheck c = 0 then 1 else st)) ∧
      ((st = 1 ∨ st = 2) → Answers (.go c v) s .fw 0x0202 (fun m d => d = [] ∧ m = s))) ∧
    (s.takes .fw 0x0202 (zeros 8) → s.bmvWord c < 2 ^ 18 →
      (st = 1 → Answers (.abort c) s .fw 0x0202 (fun m d => d = [] ∧ m = { s with regs := m.regs } ∧
        s.RegsBut m [F.BMV_STATUS_STATE.cell c] ∧ m.fld F.BMV_STATUS_STATE c = 0)) ∧
      (st = 2 → Answers (.abort c) s .fw 0x0202 (fun m d => d = [] ∧ m = { s with regs := m.regs } ∧
        s.RegsBut m [F.BMV_STATUS_STATE.cell c, F.BMV_STATUS_ERR.cell c, F.BMV_ENGINE_BUSY.cell] ∧ m.fld F.BMV_STATUS_STATE c = 4 ∧
        m.fld F.BMV_STATUS_ERR c = 7))) ∧
    (s.asleep = false → s.bit F.BMV_ENGINE_BUSY = false → st = 1 → (∀ j, j < c → s.fld F.BMV_STATUS_STATE j ≠ 1) →
      (0 < s.fld F.BMV_LEN_BLOCKS c → Completes (.bmvChannelStart t) s (fun m => m = { u with regs := m.regs } ∧
        s.RegsBut m [F.BMV_ENGINE_CH.cell, F.BMV_ENGINE_BUSY.cell, F.BMV_STATUS_STATE.cell c, F.BMV_REMAIN_BLOCKS.cell c,
          F.BMV_REMAIN_PASS_PASSES.cell c] ∧
        m.fld F.BMV_STATUS_STATE c = 2 ∧ m.fld F.BMV_ENGINE_CH = c ∧ m.bit F.BMV_ENGINE_BUSY = true)) ∧
      (s.fld F.BMV_LEN_BLOCKS c = 0 → (c ≠ 0 ∨ s.restoring = false) → s.bit F.BMV_CTRL_EV_EN c = false →
        Completes (.bmvChannelStart t) s (fun m => m = { u with regs := m.regs } ∧ m.fld F.BMV_STATUS_STATE c = 3 ∧
          m.bit F.BMV_ENGINE_BUSY = false))) ∧
    (s.asleep = false → st = 2 → (c ≠ 0 ∨ s.restoring = false) → ∀ blk (what : BmvAccess),
      blk < s.fld F.BMV_LEN_BLOCKS c * (s.fld F.BMV_CTRL_REPEAT c + 1) →
      (what = .source → s.bmvReads c = true) → (what = .tail → s.bmvWrites c = true) →
      let len := s.fld F.BMV_LEN_BLOCKS c
      let a := (if what = .source then s.bmvSrc c (blk / len) else s.bmvDst c (blk / len)) + s.bmvAt c (blk / len) (blk % len) 1
      (∀ again, again < s.fld F.BMV_CFG_RETRY →
        (2 ^ 36 ≤ a → Completes (.bmvBusError t c blk again what) s (fun m => m = { u with regs := m.regs } ∧
          m.fld F.BMV_STATUS_RETRIES c = (again + 1) % 2 ^ F.BMV_STATUS_RETRIES.width ∧ s.RegsBut m [F.BMV_STATUS_RETRIES.cell c])) ∧
        (a < 2 ^ 36 → what = .source → Completes (.bmvBusError t c blk again what) s (fun m => m = { u with regs := m.regs } ∧
          m.fld F.BMV_STATUS_RETRIES c = (again + 1) % 2 ^ F.BMV_STATUS_RETRIES.width ∧
          m.fld F.QCH_AP_ERR_CNT_COUNT (qdrCh a) = satAdd 32 (s.fld F.QCH_AP_ERR_CNT_COUNT (qdrCh a)) (2 * (again + 1)) ∧
          s.RegsBut m [F.BMV_STATUS_RETRIES.cell c, F.QCH_AP_ERR_CNT_COUNT.cell (qdrCh a)]))) ∧
      (2 ^ 36 ≤ a → Completes (.bmvBusError t c blk (s.fld F.BMV_CFG_RETRY) what) s (fun m =>
        m = { u with regs := m.regs, mem := m.mem, bad := m.bad, flt := m.flt } ∧
        m.fld F.BMV_STATUS_STATE c = 4 ∧ m.fld F.BMV_STATUS_ERR c = (if what = .tail then 6 else 5) ∧
        m.fld F.BMV_FAIL_LO_ADDR c = a % 2 ^ 32 ∧ m.fld F.BMV_FAIL_HI_ADDR c = a / 2 ^ 32 % 2 ^ 8))) ∧
    (let src := s.bmvSrc c 0
     let dst := s.bmvDst c 0
     let n := 64 * s.fld F.BMV_LEN_BLOCKS c
     s.asleep = false → st = 2 → (c ≠ 0 ∨ s.restoring = false) → s.fld F.BMV_CTRL_OP c = 0 → s.fld F.BMV_CTRL_REPEAT c = 0 →
      s.bit F.BMV_CTRL_EV_EN c = false → dst / 2 ^ 36 = 0 → (src / 2 ^ 36 = 0 ∨ src / 2 ^ 36 = 4) →
      (∀ w ∈ s.bad, w + 8 ≤ src ∨ src + n ≤ w) → Completes (.bmvComplete t c) s (fun m =>
        m = { u with regs := m.regs, mem := m.mem, bad := m.bad } ∧ m.readMem dst n = s.readMem src n ∧
        (∀ a, a < dst ∨ dst + n ≤ a → m.readMem a 1 = s.readMem a 1) ∧
        s.RegsBut m [F.BMV_STATUS_STATE.cell c, F.BMV_REMAIN_BLOCKS.cell c, F.BMV_REMAIN_PASS_PASSES.cell c, F.BMV_ENGINE_BUSY.cell,
          F.BMV_STATUS_DONE_CNT.cell c] ∧
        m.fld F.BMV_STATUS_STATE c = 3))

/-- Phase 1 that nothing refuses holds the lowest free index for 1 s and answers OK with free SESSION_ID and N_D. Phase 2
with the proof of the role's key opens the session, keeps its seal key and answers P_D; a wrong proof gives the place
up and the role answers BUSY for 100 ms. SESSION_CLOSE on its own path, or by the BMP, and IDLE_TIMEOUT end a session
and leave the others open; OPEN_HOLD_EXPIRY frees a held place; AUTH_BUSY_EXPIRY ends the BUSY of a role. -/
def Obligations.SessionsOpenAndEnd : Prop :=
  ∀ (s : State) (p : Path) (t k q : Nat) (src : HostAddr) (pl : List Byte), s.Inv → s.sessions.length = 8 → s.asleep = false → k < 8 →
    let u := s.at t
    let x := (s.session k).id
    (s.op ≠ .boot → pl.length = 28 → s.openRefuse pl = none → s.freeIndex = some k → Completes (.sessionOpenPhase1 q src pl) s (fun m =>
      (m.session k).id.st = 1 ∧ (m.session k).id.role = byteAt pl 0 ∧ (m.session k).id.holdUntil = s.tb + 1000000000 ∧ m.free = s.free + 2 ∧
      m.out = .reply (.sess 0xFF) 0x0101 stOk 0 (be 1 k ++ zeros 3 ++ be 4 (m.session k).id.id ++ (m.session k).id.nD) :: s.out ∧
      (∀ j, j ≠ k → m.session j = s.session j))) ∧
    (∀ key, s.op ≠ .boot → pl.length = 20 → allZero (slice pl 1 3) = true → s.portUp q = true → bitAt x.ports q = true → x.st = 1 →
      s.roleKey x.role = some key →
      (byteAt pl 0 = x.role → slice pl 4 16 = x.proofH key → s.tb ≤ x.holdUntil → Completes (.sessionOpenPhase2 k q src pl) s (fun m =>
        (m.session k).id.st = 2 ∧ (m.session k).id.ks = x.sealKey key ∧ (m.session k).id.lastValid = s.tb ∧ m.pathOf k q = some src ∧
        (∃ l, m.out = .reply (.sess k) 0x0101 stOk 0 (x.proofD key) :: l))) ∧
      (slice pl 4 16 ≠ x.proofH key → Completes (.sessionOpenPhase2 k q src pl) s (fun m => m.session k = {} ∧
        (x.role, s.tb + 100000000) ∈ m.ops.openBusy ∧ m.out = .reply (.sess k) 0x0101 stAuth 0 [] :: s.out))) ∧
    (p = .sess k → s.takes p 0x0102 pl → Completes (.sessionClose p pl) s (fun m => m.session k = {} ∧ m.cmd p = {} ∧
      .reply p 0x0102 stOk 0 [] ∈ m.out ∧ (∀ j, j ≠ k → (m.session j).id = (s.session j).id))) ∧
    (p = .bmp → s.takes p 0x0102 pl → byteAt pl 0 = k → x.st = 2 → Completes (.sessionClose p pl) s (fun m => m.session k = {} ∧
      .reply p 0x0102 stOk 0 [] ∈ m.out ∧ (∀ j, j ≠ k → (m.session j).id = (s.session j).id))) ∧
    (x.st = 2 → x.lastValid + x.idleMs * 1000000 ≤ u.tb → Completes (.idleTimeout t k) s (fun m => m.session k = {} ∧
      (∀ j, j ≠ k → (m.session j).id = (s.session j).id))) ∧
    (x.st = 1 → x.holdUntil ≤ u.tb → Completes (.openHoldExpiry t k) s (fun m =>
      m = { u with sessions := m.sessions, ops := { s.ops with openLate := m.ops.openLate } } ∧ m.session k = {} ∧
      (k, x.role, x.id) ∈ m.ops.openLate ∧ (∀ j, j ≠ k → m.session j = s.session j))) ∧
    (∀ role, exec (.authBusyExpiry t role) s = .next (s.rest { u with ops := { s.ops with
      openBusy := s.ops.openBusy.filter (fun e => !(decide (e.1 = role) && decide (e.2 ≤ u.tb))) } }))

/-- A frame that its port does not take, too long, with a wrong FCS, fragmented or with an extension header, only counts
in NET_RX_DROP_CNT. Of a frame that the port takes and that holds a Moevo segment: CMD_SEGMENT with the next SEQ of an
open session queues its command and touches the session; a valid ACK leaves in the stream it names exactly the
segments that it does not cover and leaves the other stream alone; a valid CREDIT sets the limit; no other session
changes. RTO_EXPIRY with retransmissions left makes the segment due. SEND_SEGMENT on a port that is up sends what
entered class 1 first, a RSP segment or up to 512 records in an EVT segment, else the LINE segment of the OWNER.
FAILBACK moves to PRIMARY with a record. THIN_EPISODE_CLEAR ends the episodes that are over. -/
def Obligations.SegmentsAreTakenSentAndRepeated : Prop :=
  ∀ (s : State) (t k q : Nat) (f : Frame) (b : List Byte), s.Inv → s.sessions.length = 8 → s.cmds.length = 10 → s.asleep = false → k < 8 →
    s.portUp q = true →
    let u := s.at t
    let x := (s.session k).id
    let taken := f.octets ≤ 9216 ∧ f.fcs = false ∧ f.frag = false ∧ f.ext = false
    let moevo := f.src.enc = .raw ∨ ∃ c, (s.port q).live = some c ∧ f.dstPort = c.udp ∧ f.sum = false
    let ours := segSess b = k ∧ x.st = 2 ∧ segId b = x.id ∧ bitAt x.ports q = true
    let valid := fun (type : Nat) => ours ∧ (if x.isSealed then segForm b type 16 = true ∧ bitAt (byteAt b 3) 1 = true ∧
        b.drop (b.length - 16) = (Config.hmacSha256 x.ks (b.take (b.length - 16))).take 16 else segForm b type 4 = true ∧ crc32Ok b = true) ∧
      ∀ c, (s.session k).tx.ctl = some c → seqBelow c (segSeq b) = true
    let others := fun (m : State) => ∀ j, j ≠ k → m.session j = s.session j
    (¬ taken → s.bit F.NET_PORT_STATUS_FEC_LOCK q = false → ∀ c ∈ [Instr.cmdSegment t q f b, .ack t q f b, .credit t q f b],
      Completes c s (fun m => m = { u with regs := m.regs } ∧ s.RegsBut m [F.NET_RX_DROP_CNT_COUNT.cell q] ∧
        m.fld F.NET_RX_DROP_CNT_COUNT q = satAdd F.NET_RX_DROP_CNT_COUNT.width (s.fld F.NET_RX_DROP_CNT_COUNT q) 1)) ∧
    (taken → moevo → segForm b 0x01 4 = true → crc32Ok b = true → ours →
      segSeq b = (s.cmd (.sess k)).next → (∀ c ∈ (s.cmd (.sess k)).queue, c.seq ≠ segSeq b) →
      Completes (.cmdSegment t q f b) s (fun m => (m.session k).id.lastValid = u.tb ∧ others m ∧
        s.RegsBut m [F.NET_FEC_CE_CNT_COUNT.cell q, F.NET_FEC_UE_CNT_COUNT.cell q] ∧
        (m.cmd (.sess k)).queue = (s.cmd (.sess k)).queue ++ [QCmd.mk (segSeq b) q (slice b 16 (segLen b))])) ∧
    (taken → moevo → valid 0x05 → byteAt b 17 ≤ 16 → beAt b 18 2 = 0 → segLen b = 8 + 8 * byteAt b 17 →
      let left := fun (seq : Nat) => !ackCovers (beAt b 20 4) (ackBlocks b) seq
      (byteAt b 16 = 3 → Completes (.ack t q f b) s (fun m => others m ∧ (m.session k).tx.evts = (s.session k).tx.evts ∧
        (m.session k).tx.segs.map (·.seq) = ((s.session k).tx.segs.map (·.seq)).filter left)) ∧
      (byteAt b 16 = 4 → Completes (.ack t q f b) s (fun m => others m ∧ (m.session k).tx.segs = (s.session k).tx.segs ∧
        (m.session k).tx.evts.map (·.seq) = ((s.session k).tx.evts.map (·.seq)).filter left))) ∧
    (taken → moevo → valid 0x06 → segLen b = 8 → beAt b 20 4 = 0 → Completes (.credit t q f b) s (fun m => others m ∧
      (m.session k).tx.limit = beAt b 16 4 ∧ (m.session k).tx.segs = (s.session k).tx.segs ∧
      (m.session k).tx.evts = (s.session k).tx.evts)) ∧
    (∀ seq g, x.st = 2 → (s.session k).tx.segs.find? (fun g => decide (g.seq = seq) && !g.due && decide (g.sentAt + x.rto * 1000 ≤ u.tb)) = some g →
      g.retx < x.retryMax → Completes (.rtoExpiry t k false seq) s (fun m => m = { u with sessions := m.sessions } ∧
        (m.session k).tx = { (s.session k).tx with segs := (s.session k).tx.segs.map (fun (y : LSeg) =>
          if y.seq = seq then { y with due := true } else y) } ∧ (m.session k).id = x ∧ others m)) ∧
    (∀ seq g, x.st = 2 → (s.session k).tx.evts.find? (fun g => decide (g.seq = seq) && !g.due && decide (g.sentAt + x.rto * 1000 ≤ u.tb)) = some g →
      g.retx < x.retryMax → Completes (.rtoExpiry t k true seq) s (fun m => m = { u with sessions := m.sessions } ∧
        (m.session k).tx = { (s.session k).tx with evts := (s.session k).tx.evts.map (fun (y : ESeg) =>
          if y.seq = seq then { y with due := true } else y) } ∧ (m.session k).id = x ∧ others m)) ∧
    (let first := leastOf (fun c => c.1) (u.openSessions.flatMap (fun k => u.ctrlOf k q))
     ∀ c dest, (s.port q).live = some c → s.pathOf k q = some dest →
      let sent := fun (cls type seq : Nat) (body : List Byte) => Out.segment q dest (if c.vlan then some (nthD 0 c.pcp cls, c.vid) else none)
        (nthD 0 c.dscp cls) (segmentOf type k 0 seq x.id body) :: s.out
      (∀ n r, first = some (n, k, Sum.inl r) → Completes (.sendSegment t q) s (fun m => m = { u with sessions := m.sessions, out := m.out } ∧
        others m ∧ (m.session k).id = x ∧ m.out = sent 0 0x02 r.seq r.bytes ∧
        (m.session k).tx = { (s.session k).tx with rsps := (s.session k).tx.rsps.filter (fun y => y.seq ≠ r.seq) })) ∧
      (∀ n, first = some (n, k, Sum.inr none) → Completes (.sendSegment t q) s (fun m => m = { u with sessions := m.sessions, out := m.out } ∧
        others m ∧ (m.session k).id = x ∧
        m.out = sent 0 0x04 (s.session k).tx.evtSeq (((s.session k).tx.recs.take 512).flatMap (·.bytes)) ∧
        (m.session k).tx.recs = (s.session k).tx.recs.drop 512 ∧
        (m.session k).tx.evts = (s.session k).tx.evts ++ [⟨(s.session k).tx.evtSeq, (s.session k).tx.recs.take 512, u.tb, 0, false, q, none⟩])) ∧
      (first = none → (u.openSessions.filter (fun k => u.lineWaits k q)).find? (fun k => decide (u.roleOf k = 0)) = some k →
        exec (.sendSegment t q) s = .next (s.rest (u.sendLine k q)))) ∧
    (x.st = 2 → x.sendPort ≠ x.primary → x.primary ∈ s.livePorts k → x.primarySeen = true →
      (s.port x.primary).upAt + s.fld F.XPT_FAILBACK_MS * 1000000 ≤ u.tb → Completes (.failback t k) s (fun m =>
        m = { u with sessions := m.sessions } ∧ (m.session k).id = { x with sendPort := x.primary } ∧
        (m.session k).tx.recs.length = (s.session k).tx.recs.length + 1 ∧ others m)) ∧
    (∀ l, s.sessOpen k = true → s.prod.last = some l → Completes (.thinEpisodeClear k) s (fun m => m = { s with sessions := m.sessions } ∧
      (m.session k).tx.episodes = (s.session k).tx.episodes.filter (fun e => decide (l < e.newest + 1024)) ∧ others m))

/-- PORT_DOWN of a port that is up clears UP, sets DOWN_LATCH, counts, and the port has no live configuration and may come
up 10 ms after the condition arose at the earliest (the model's choice of 9.99 ms after a declared down, assumption
log 190). PORT_UP of a port with a mode, control running and that time over, sets UP and takes the port's registers.
ARP_REQUEST and NEIGHBOUR_SOLICITATION for an address of the port's own that is not 0 are answered with its MAC
address; for any other nothing happens. -/
def Obligations.PortsGoDownAndUpAndAnswer : Prop :=
  ∀ (s : State) (t q : Nat), s.Inv → s.asleep = false → q < 17 → s.ports.length = 17 →
    let u := s.at t
    (s.portUp q = true → Completes (.portDown t q) s (fun m => m.portUp q = false ∧ m.fld F.NET_PORT_STATUS_DOWN_LATCH q = 1 ∧
      m.port q = { s.port q with live := none, upAt := u.tb + 9990000 } ∧ (∀ j, j ≠ q → m.port j = s.port j) ∧ m.op = s.op ∧ m.mem = s.mem ∧
      m.fld F.NET_LINK_DOWN_CNT_COUNT q = satAdd F.NET_LINK_DOWN_CNT_COUNT.width (s.fld F.NET_LINK_DOWN_CNT_COUNT q) 1)) ∧
    (s.portUp q = false → s.portMode q ≠ 0 → s.linkMuted q = false → s.controlUp = true → (s.port q).upAt ≤ u.tb → Completes (.portUp t q) s (fun m =>
      m.portUp q = true ∧ m.port q = { s.port q with live := some (s.portCfg q), upAt := u.tb } ∧ (∀ j, j ≠ q → m.port j = s.port j) ∧
      m.op = s.op ∧ m.mem = s.mem)) ∧
    (∀ c mac ip target, (s.port q).live = some c →
      (target = c.ip4 → c.ip4 ≠ 0 → exec (.arpRequest q mac ip target) s = .next (s.rest (s.emit (.arpReply q c.mac c.ip4 mac ip)))) ∧
      (target ≠ c.ip4 ∨ c.ip4 = 0 → exec (.arpRequest q mac ip target) s = .next (s.rest s)) ∧
      ((target = c.ip6 ∧ c.ip6 ≠ 0) ∨ target = linkLocal c.mac →
        exec (.neighbourSolicitation q mac ip target) s = .next (s.rest (s.emit (.neighbourAdv q c.mac target mac ip)))) ∧
      ((target ≠ c.ip6 ∨ c.ip6 = 0) → target ≠ linkLocal c.mac → exec (.neighbourSolicitation q mac ip target) s = .next (s.rest s)))

/-- BMP_MBOX_IN of a whole packet to a ready mailbox queues it; to one that is not ready the first byte is NACKed.
BMP_MBOX_OUT gives bytes of the reply, 0xFF and OUT_UNDERRUN beyond it. BMP_REG_ACCESS writes TILE_SEL of the BMP's
own bank, reads ANA_REF_COL, reads an absent address as 0 with DIRECT_ERR and BAD_PARAM, sets a known pointer alone
and NACKs an unknown one, and reads OUT_LEN. BMP_RESET clears the mailbox, the kept replies and the bank of the BMP
and no other. A broken byte of a packet, PKT_TIMEOUT and an SCL timeout discard the packet under assembly and count
it. -/
def Obligations.ManagementPortTakesAndGivesBytes : Prop :=
  ∀ (s : State) (t : Nat), s.Inv → s.asleep = false → s.cmds.length = 10 → s.banks.length = 10 →
    let u := s.at t
    let discarded := fun (ptr : Nat) (m : State) =>
      m = { u with regs := m.regs, bmp := { s.bmp with inb := [], ptr := ptr } } ∧ m.fld F.MBUS_BMP_STATUS_IN_DISCARD = 1 ∧
      m.fld F.MBUS_BMP_DISCARD_CNT_COUNT = satAdd F.MBUS_BMP_DISCARD_CNT_COUNT.width (s.fld F.MBUS_BMP_DISCARD_CNT_COUNT) 1
    (∀ b, s.bmp.inb = [] → s.bmp.skip = false →
      (s.bmpInReady = true → 16 ≤ b.length → pktLen b ≤ 8192 → b.length = 32 + pktLen b → Completes (.bmpMboxIn b true) s (fun m =>
        m = { s.modCmd .bmp (fun c => { c with queue := c.queue ++ [QCmd.mk 0 0 b] }) with
          bmp := { s.bmp with ptr := 0x10, lastByte := s.tb } })) ∧
      (s.bmpInReady = false → b ≠ [] →
        exec (.bmpMboxIn b true) s = .next (s.rest { s with bmp := { s.bmp with ptr := 0x10 }, out := .bmpNack :: s.out }))) ∧
    (∀ n, Completes (.bmpMboxOut n) s (fun m => m = { s with regs := m.regs, bmp := m.bmp, out := m.out } ∧
      s.RegsBut m [F.MBUS_BMP_STATUS_OUT_UNDERRUN.cell] ∧ m.bmp.ptr = 0x11 ∧ m.bmp.waiting = s.bmp.waiting.drop n ∧
      m.out = .bmp (s.bmp.waiting.take n ++ List.replicate (n - s.bmp.waiting.length) 0xFF) :: s.out ∧
      m.fld F.MBUS_BMP_STATUS_OUT_UNDERRUN = (if s.bmp.waiting.length < n then 1 else s.fld F.MBUS_BMP_STATUS_OUT_UNDERRUN))) ∧
    (∀ v, v < 2 ^ 16 → s.op ≠ .boot → (s.bank .bmp).sels.length = 7 →
      Completes (.bmpRegAccess (.write (be 3 0x20000 ++ be 4 v))) s (fun m =>
        m = { s with banks := m.banks, bmp := { s.bmp with ptr := 0x20, regAddr := 0x20000 } } ∧ m.selOf .bmp 0 = v ∧
        ∀ j, j ≠ 0 → m.selOf .bmp j = s.selOf .bmp j)) ∧
    (∀ v, exec (.bmpRegAccess (.point v)) s = .next (s.rest (if v ∈ [0x00, 0x01, 0x10, 0x11, 0x20, 0x3F]
      then { s with bmp := { s.bmp with ptr := v } } else { s with out := .bmpNack :: s.out }))) ∧
    (s.bmp.ptr = 0x01 → exec (.bmpRegAccess (.read 2)) s = .next (s.rest { s with out := .bmp (be 2 s.bmp.waiting.length) :: s.out })) ∧
    (s.bmp.ptr = 0x20 → s.op ≠ .boot →
      (s.bmp.regAddr = 0xF0014 → assocGet (latchKey 0xF0014 0 0) (s.bank .bmp).latches = none → s.fld F.ANA_REF_COL_COL_OFF < 2 ^ 16 →
        exec (.bmpRegAccess (.read 4)) s = .next (s.rest { s with out := .bmp (be 4 (s.fld F.ANA_REF_COL_COL_OFF)) :: s.out })) ∧
      (regAt s.bmp.regAddr = none → Completes (.bmpRegAccess (.read 4)) s (fun m =>
        m = { s with regs := m.regs, out := .bmp [0, 0, 0, 0] :: s.out } ∧ m.fld F.MBUS_BMP_STATUS_DIRECT_ERR = 1 ∧
        m.fld F.MBUS_BMP_STATUS_DIRECT_STATUS = stBadParam))) ∧
    (Completes .bmpReset s (fun m => m = { s.modCmd .bmp (fun c => { c with queue := [], kept := [], anyOnce := true }) with
        banks := m.banks, bmp := { dropReply := (s.cmd .bmp).run.isSome } } ∧ (∀ j, j < 7 → m.selOf .bmp j = 0) ∧
      ∀ x, x ≠ .bmp → m.bank x = s.bank x)) ∧
    (Completes (.bmpBrokenByte .mbox) s (fun m => m = { s with regs := m.regs, bmp := { s.bmp with inb := [], ptr := 0 } } ∧
      m.fld F.MBUS_BMP_STATUS_IN_DISCARD = 1)) ∧
    (∀ w ∈ [BmpByte.reg, .other], exec (.bmpBrokenByte w) s = .next (s.rest { s with bmp := { s.bmp with ptr := 0 } })) ∧
    (s.bmp.inb ≠ [] →
      (s.bmp.lastByte + s.fld F.MBUS_BMP_CFG_PKT_TIMEOUT_MS * 1000000 ≤ u.tb → Completes (.pktTimeout t) s (discarded s.bmp.ptr)) ∧
      Completes (.bmpSclTimeout t) s (discarded 0))
end

