-- ==== Sys2Proof/Laws/Bytes.lean ====
section
/-! SUPPORT. A CRC-32C fits its four bytes, and bytes written from a number give it back. -/

namespace Sys2Proof.Machine

theorem crc32Bit_lt {c : Nat} (h : c < 2 ^ 32) : crc32Bit c < 2 ^ 32 := by
  unfold crc32Bit
  split
  · exact Nat.xor_lt_two_pow (by omega) (by decide)
  · omega

theorem crc32Byte_lt {c : Nat} (b : Byte) (h : c < 2 ^ 32) : crc32Byte c b < 2 ^ 32 := by
  unfold crc32Byte
  repeat apply crc32Bit_lt
  exact Nat.xor_lt_two_pow h (by have := b.isLt; omega)

theorem crc32Fold_lt : ∀ (l : List Byte) (c : Nat), c < 2 ^ 32 → l.foldl crc32Byte c < 2 ^ 32
  | [], _, h => h
  | b :: l, _, h => crc32Fold_lt l _ (crc32Byte_lt b h)

theorem crc32c_lt (l : List Byte) : crc32c l < 2 ^ 32 :=
  Nat.xor_lt_two_pow (crc32Fold_lt l _ (by decide)) (by decide)

theorem ofLe_le4 {c : Nat} (h : c < 2 ^ 32) : ofLe (le 4 c) = c := by
  simp [le, ofLe]; omega

end Sys2Proof.Machine
end

