-- ==== Sys2Proof/Laws/Memory.lean ====
section
/-! SUPPORT. Memory: what a byte reads after bytes are written, and that every operation keeps the canonical form. -/

namespace Sys2Proof.Machine

theorem Memory.wfFrom_mono {m : List Host.Cell} {a b : Nat} (hab : b ≤ a) (h : Memory.wfFrom a m = true) :
    Memory.wfFrom b m = true := by
  cases m with
  | nil => rfl
  | cons c m =>
    obtain ⟨k, v⟩ := c
    simp only [Memory.wfFrom, Bool.and_eq_true, decide_eq_true_eq] at h ⊢
    exact ⟨⟨by omega, h.1.2⟩, h.2⟩

/-- What is listed at or above `n` is in its form from `n` on. -/
theorem Memory.wfFrom_dropWhile {n : Nat} : ∀ {m : List Host.Cell} {lo : Nat}, Memory.wfFrom lo m = true →
    Memory.wfFrom (max lo n) (m.dropWhile (fun c => c.1 < n)) = true
  | [], _, _ => rfl
  | (a, b) :: m, lo, h => by
    have h' := h
    simp only [Memory.wfFrom, Bool.and_eq_true, decide_eq_true_eq] at h
    by_cases ha : a < n
    · simp only [List.dropWhile_cons, ha, decide_true, if_true]
      exact Memory.wfFrom_mono (by omega) (Memory.wfFrom_dropWhile (n := n) h.2)
    · simp only [List.dropWhile_cons, ha, decide_false, Bool.false_eq_true, if_false]
      simp only [Memory.wfFrom, Bool.and_eq_true, decide_eq_true_eq]
      exact ⟨⟨by omega, h.1.2⟩, h.2⟩

/-- What is listed below `n`, followed by what is in its form from `n` on, is in its form. -/
theorem Memory.wfFrom_takeWhile_append {n : Nat} {r : List Host.Cell} : ∀ {m : List Host.Cell} {lo : Nat},
    Memory.wfFrom lo m = true → Memory.wfFrom (max lo n) r = true →
    Memory.wfFrom lo (m.takeWhile (fun c => c.1 < n) ++ r) = true
  | [], _, _, hr => Memory.wfFrom_mono (by omega) hr
  | (a, b) :: m, lo, h, hr => by
    simp only [Memory.wfFrom, Bool.and_eq_true, decide_eq_true_eq] at h
    by_cases ha : a < n
    · simp only [List.takeWhile_cons, ha, decide_true, if_true, List.cons_append, Memory.wfFrom, Bool.and_eq_true,
        decide_eq_true_eq]
      refine ⟨h.1, Memory.wfFrom_takeWhile_append h.2 ?_⟩
      have : max (a + 1) n = max lo n := by omega
      rw [this]
      exact hr
    · simp only [List.takeWhile_cons, ha, decide_false, Bool.false_eq_true, if_false, List.nil_append]
      exact Memory.wfFrom_mono (by omega) hr

theorem Memory.wfFrom_cells_append {r : List Host.Cell} : ∀ (l : List Byte) (a lo : Nat), lo ≤ a →
    Memory.wfFrom (a + l.length) r = true → Memory.wfFrom lo (Memory.cells a l ++ r) = true
  | [], a, lo, hlo, hr => Memory.wfFrom_mono hlo (by simpa [Memory.cells] using hr)
  | b :: l, a, lo, hlo, hr => by
    have hr' : Memory.wfFrom (a + 1 + l.length) r = true := by
      have : a + (b :: l).length = a + 1 + l.length := by simp; omega
      rwa [this] at hr
    unfold Memory.cells
    split
    · exact Memory.wfFrom_cells_append l (a + 1) lo (by omega) hr'
    · rename_i hb
      simp only [List.cons_append, Memory.wfFrom, Bool.and_eq_true, decide_eq_true_eq]
      exact ⟨⟨hlo, by simpa [bne] using hb⟩, Memory.wfFrom_cells_append l (a + 1) (a + 1) (Nat.le_refl _) hr'⟩

/-- A write keeps the canonical form. -/
theorem Memory.wf_write {m : List Host.Cell} (a : Nat) (l : List Byte) (h : Memory.wf m = true) :
    Memory.wf (Memory.write m a l) = true := by
  unfold Memory.write Memory.wf
  rw [List.append_assoc]
  refine Memory.wfFrom_takeWhile_append h ?_
  have e : max 0 a = a := by omega
  rw [e]
  refine Memory.wfFrom_cells_append l a a (Nat.le_refl _) ?_
  exact Memory.wfFrom_mono (by omega) (Memory.wfFrom_dropWhile (n := a + l.length) h)

/-- A clear keeps the canonical form. -/
theorem Memory.wf_clear {m : List Host.Cell} (a n : Nat) (h : Memory.wf m = true) : Memory.wf (Memory.clear m a n) = true := by
  unfold Memory.clear Memory.wf
  refine Memory.wfFrom_takeWhile_append h ?_
  exact Memory.wfFrom_mono (by omega) (Memory.wfFrom_dropWhile (n := a + n) h)

theorem Memory.wfFrom_insert {a : Nat} {b : Byte} : ∀ {m : List Host.Cell} {lo : Nat}, lo ≤ a → Memory.wfFrom lo m = true →
    Memory.wfFrom lo (Memory.insert a b m) = true
  | [], lo, hlo, _ => by
    unfold Memory.insert
    split
    · rfl
    · rename_i hb
      simp only [Memory.wfFrom, Bool.and_eq_true, decide_eq_true_eq, and_true]
      exact ⟨hlo, by simpa [bne] using hb⟩
  | (k, c) :: m, lo, hlo, h => by
    have h' := h
    simp only [Memory.wfFrom, Bool.and_eq_true, decide_eq_true_eq] at h
    unfold Memory.insert
    split
    · split
      · exact h'
      · rename_i hak hb
        simp only [Memory.wfFrom, Bool.and_eq_true, decide_eq_true_eq]
        exact ⟨⟨hlo, by simpa [bne] using hb⟩, ⟨by omega, h.1.2⟩, h.2⟩
    · split
      · rename_i hak
        subst hak
        split
        · exact Memory.wfFrom_mono (by omega) h.2
        · rename_i hb
          simp only [Memory.wfFrom, Bool.and_eq_true, decide_eq_true_eq]
          exact ⟨⟨hlo, by simpa [bne] using hb⟩, h.2⟩
      · simp only [Memory.wfFrom, Bool.and_eq_true, decide_eq_true_eq]
        exact ⟨h.1, Memory.wfFrom_insert (by omega) h.2⟩

theorem Memory.wf_foldr_insert (m : List Host.Cell) :
    Memory.wf (m.foldr (fun c acc => Memory.insert c.1 c.2 acc) []) = true := by
  induction m with
  | nil => rfl
  | cons c m ih => exact Memory.wfFrom_insert (Nat.zero_le _) ih

theorem Memory.wf_tidy (m : List Host.Cell) : Memory.wf (Memory.tidy m) = true := by
  unfold Memory.tidy
  split
  · assumption
  · exact Memory.wf_foldr_insert m

theorem Memory.tidy_of_wf {m : List Host.Cell} (h : Memory.wf m = true) : Memory.tidy m = m := by simp [Memory.tidy, h]

/-! What a byte reads. -/

theorem Memory.get_below {x : Nat} : ∀ {m : List Host.Cell} {lo : Nat}, x < lo → Memory.wfFrom lo m = true →
    Memory.get x m = Memory.dflt x
  | [], _, _, _ => rfl
  | (k, b) :: m, lo, hx, h => by
    simp only [Memory.wfFrom, Bool.and_eq_true, decide_eq_true_eq] at h
    have h1 : ¬ k = x := by omega
    simp [Memory.get, h1, Memory.get_below (show x < k + 1 by omega) h.2]

theorem Memory.get_takeWhile_append {n x : Nat} {r : List Host.Cell} (hx : x < n) : ∀ {m : List Host.Cell} {lo : Nat},
    Memory.wfFrom lo m = true → Memory.wfFrom n r = true →
    Memory.get x (m.takeWhile (fun c => c.1 < n) ++ r) = Memory.get x m
  | [], _, _, hr => by simp [Memory.get, Memory.get_below hx hr]
  | (k, b) :: m, lo, h, hr => by
    simp only [Memory.wfFrom, Bool.and_eq_true, decide_eq_true_eq] at h
    by_cases hk : k < n
    · simp only [List.takeWhile_cons, hk, decide_true, if_true, List.cons_append, Memory.get]
      rw [Memory.get_takeWhile_append hx h.2 hr]
    · have h1 : ¬ k = x := by omega
      simp only [List.takeWhile_cons, hk, decide_false, Bool.false_eq_true, if_false, List.nil_append, Memory.get, h1,
        Memory.get_below hx hr]
      exact (Memory.get_below (show x < k + 1 by omega) h.2).symm

theorem Memory.get_append_above {n x : Nat} {r : List Host.Cell} (hx : n ≤ x) : ∀ {m : List Host.Cell},
    Memory.get x (m.takeWhile (fun c => c.1 < n) ++ r) = Memory.get x r
  | [] => by simp
  | (k, b) :: m => by
    by_cases hk : k < n
    · have h1 : ¬ k = x := by omega
      simp only [List.takeWhile_cons, hk, decide_true, if_true, List.cons_append, Memory.get, h1, if_false]
      exact Memory.get_append_above hx
    · simp [hk]

theorem Memory.get_dropWhile {n x : Nat} (hx : n ≤ x) : ∀ {m : List Host.Cell},
    Memory.get x (m.dropWhile (fun c => c.1 < n)) = Memory.get x m
  | [] => by simp
  | (k, b) :: m => by
    by_cases hk : k < n
    · have h1 : ¬ k = x := by omega
      simp only [List.dropWhile_cons, hk, decide_true, if_true, Memory.get, h1, if_false]
      exact Memory.get_dropWhile hx
    · simp [hk]

theorem Memory.get_cells {r : List Host.Cell} : ∀ (l : List Byte) (a x : Nat), a ≤ x → x < a + l.length →
    Memory.wfFrom (a + l.length) r = true → Memory.get x (Memory.cells a l ++ r) = nthD 0 l (x - a)
  | [], a, x, _, hx, _ => by simp at hx; omega
  | b :: l, a, x, hax, hx, hr => by
    have hlen : a + (b :: l).length = a + 1 + l.length := by simp; omega
    rw [hlen] at hx hr
    unfold Memory.cells
    by_cases hxa : x = a
    · subst hxa
      split
      · rename_i hb
        rw [Memory.get_below (lo := x + 1) (by omega) (Memory.wfFrom_cells_append l (x + 1) (x + 1) (Nat.le_refl _) hr)]
        simp [nthD, hb]
      · simp [Memory.get, nthD]
    · have e : nthD 0 (b :: l) (x - a) = nthD 0 l (x - (a + 1)) := by
        have : x - a = (x - (a + 1)) + 1 := by omega
        rw [this]
        simp [nthD]
      rw [e]
      split
      · exact Memory.get_cells l (a + 1) x (by omega) hx hr
      · have h1 : ¬ a = x := fun h => hxa h.symm
        simp only [List.cons_append, Memory.get, h1, if_false]
        exact Memory.get_cells l (a + 1) x (by omega) hx hr

theorem Memory.get_cells_above {r : List Host.Cell} : ∀ (l : List Byte) (a x : Nat), a + l.length ≤ x →
    Memory.get x (Memory.cells a l ++ r) = Memory.get x r
  | [], _, _, _ => by simp [Memory.cells]
  | b :: l, a, x, hx => by
    have hx' : a + 1 + l.length ≤ x := by simp at hx; omega
    have h1 : ¬ a = x := by omega
    unfold Memory.cells
    split
    · exact Memory.get_cells_above l (a + 1) x hx'
    · simp only [List.cons_append, Memory.get, h1, if_false]
      exact Memory.get_cells_above l (a + 1) x hx'

theorem Memory.wfFrom_tail {m : List Host.Cell} (a : Nat) (l : List Byte) (h : Memory.wf m = true) :
    Memory.wfFrom (a + l.length) (m.dropWhile (fun c => c.1 < a + l.length)) = true :=
  Memory.wfFrom_mono (by omega) (Memory.wfFrom_dropWhile (n := a + l.length) h)

/-- A byte that a write covers reads what was written. -/
theorem Memory.get_write_in {m : List Host.Cell} (a : Nat) (l : List Byte) (x : Nat) (h : Memory.wf m = true) (h1 : a ≤ x)
    (h2 : x < a + l.length) : Memory.get x (Memory.write m a l) = nthD 0 l (x - a) := by
  unfold Memory.write
  rw [List.append_assoc, Memory.get_append_above h1]
  exact Memory.get_cells l a x h1 h2 (Memory.wfFrom_tail a l h)

/-- A byte that a write does not cover reads what it read. -/
theorem Memory.get_write_out {m : List Host.Cell} (a : Nat) (l : List Byte) (x : Nat) (h : Memory.wf m = true)
    (hx : x < a ∨ a + l.length ≤ x) : Memory.get x (Memory.write m a l) = Memory.get x m := by
  unfold Memory.write
  rw [List.append_assoc]
  rcases hx with hx | hx
  · exact Memory.get_takeWhile_append hx h
      (Memory.wfFrom_cells_append l a a (Nat.le_refl _) (Memory.wfFrom_tail a l h))
  · rw [Memory.get_append_above (by omega), Memory.get_cells_above l a x hx]
    exact Memory.get_dropWhile hx

theorem Memory.readGo_eq : ∀ (n a : Nat) (m : List Host.Cell), Memory.wfFrom a m = true →
    Memory.readGo n a m = (List.range' a n).map (fun x => Memory.get x m)
  | 0, _, _, _ => by simp [Memory.readGo]
  | n + 1, a, [], h => by
    simp only [Memory.readGo, List.range'_succ, List.map_cons, Memory.get]
    rw [Memory.readGo_eq n (a + 1) [] rfl]
    simp [Memory.get]
  | n + 1, a, (k, b) :: m, h => by
    simp only [Memory.wfFrom, Bool.and_eq_true, decide_eq_true_eq] at h
    unfold Memory.readGo
    split
    · rename_i e
      subst e
      rw [Memory.readGo_eq n (k + 1) m h.2, List.range'_succ, List.map_cons]
      simp only [Memory.get, if_true, List.cons.injEq, true_and]
      apply List.map_congr_left
      intro x hx
      have : ¬ k = x := by
        have := (List.mem_range'_1.1 hx).1
        omega
      simp [this]
    · rename_i e
      have hm : Memory.wfFrom (a + 1) ((k, b) :: m) = true := by
        simp only [Memory.wfFrom, Bool.and_eq_true, decide_eq_true_eq]
        exact ⟨⟨by omega, h.1.2⟩, h.2⟩
      rw [Memory.readGo_eq n (a + 1) ((k, b) :: m) hm, List.range'_succ, List.map_cons]
      rw [Memory.get_below (lo := a + 1) (by omega) hm]

/-- A read gives each byte in turn. -/
theorem Memory.read_eq {m : List Host.Cell} (a n : Nat) (h : Memory.wf m = true) :
    Memory.read m a n = (List.range' a n).map (fun x => Memory.get x m) := by
  unfold Memory.read
  have hd : Memory.wfFrom a (m.dropWhile (fun c => c.1 < a)) = true :=
    Memory.wfFrom_mono (by omega) (Memory.wfFrom_dropWhile (n := a) h)
  rw [Memory.readGo_eq n a _ hd]
  apply List.map_congr_left
  intro x hx
  exact Memory.get_dropWhile (List.mem_range'_1.1 hx).1

theorem Memory.length_readGo : ∀ (n a : Nat) (m : List Host.Cell), (Memory.readGo n a m).length = n
  | 0, _, _ => rfl
  | n + 1, a, [] => by simp [Memory.readGo, Memory.length_readGo n]
  | n + 1, a, (k, b) :: m => by
    unfold Memory.readGo
    split <;> simp [Memory.length_readGo n]

/-- A read of what was just written gives it back. -/
theorem Memory.read_write {m : List Host.Cell} (a : Nat) (l : List Byte) (h : Memory.wf m = true) :
    Memory.read (Memory.write m a l) a l.length = l := by
  rw [Memory.read_eq a l.length (Memory.wf_write a l h)]
  apply List.ext_getElem
  · simp
  · intro i h1 h2
    simp only [List.getElem_map, List.getElem_range']
    rw [Memory.get_write_in a l (a + 1 * i) h (by omega) (by omega)]
    have : a + 1 * i - a = i := by omega
    rw [this]
    simp [nthD, h2]

end Sys2Proof.Machine
end

