-- ==== Sys2Proof/Laws/Regs.lean ====
section
/-! SUPPORT. The register file: what a field reads after a field is stored, and that every operation keeps the file's form. -/

namespace Sys2Proof.Machine

theorem Regs.wfFrom_mono {m : List (Nat × Nat)} {a b : Nat} (hab : b ≤ a) (h : Regs.wfFrom a m = true) : Regs.wfFrom b m = true := by
  cases m with
  | nil => rfl
  | cons c m =>
    obtain ⟨k, v⟩ := c
    simp only [Regs.wfFrom, Bool.and_eq_true, decide_eq_true_eq] at h ⊢
    exact ⟨by omega, h.2⟩

theorem Regs.wfFrom_set {k v : Nat} : ∀ {m : List (Nat × Nat)} {lo : Nat}, lo ≤ k → Regs.wfFrom lo m = true →
    Regs.wfFrom lo (Regs.set k v m) = true
  | [], lo, hk, _ => by simp [Regs.set, Regs.wfFrom, hk]
  | (a, w) :: m, lo, hk, h => by
    simp only [Regs.wfFrom, Bool.and_eq_true, decide_eq_true_eq] at h
    unfold Regs.set
    split
    · simp only [Regs.wfFrom, Bool.and_eq_true, decide_eq_true_eq]
      exact ⟨hk, by omega, h.2⟩
    · split
      · rename_i h1 h2
        subst h2
        simp only [Regs.wfFrom, Bool.and_eq_true, decide_eq_true_eq]
        exact ⟨hk, h.2⟩
      · simp only [Regs.wfFrom, Bool.and_eq_true, decide_eq_true_eq]
        exact ⟨h.1, Regs.wfFrom_set (by omega) h.2⟩

theorem Regs.wfFrom_del {k : Nat} : ∀ {m : List (Nat × Nat)} {lo : Nat}, Regs.wfFrom lo m = true →
    Regs.wfFrom lo (Regs.del k m) = true
  | [], _, _ => rfl
  | (a, w) :: m, lo, h => by
    have h' := h
    simp only [Regs.wfFrom, Bool.and_eq_true, decide_eq_true_eq] at h
    unfold Regs.del
    split
    · exact Regs.wfFrom_mono (by omega) h.2
    · split
      · exact h'
      · simp only [Regs.wfFrom, Bool.and_eq_true, decide_eq_true_eq]
        exact ⟨h.1, Regs.wfFrom_del h.2⟩

theorem Regs.wf_set {k v : Nat} {m : List (Nat × Nat)} (h : Regs.wf m = true) : Regs.wf (Regs.set k v m) = true :=
  Regs.wfFrom_set (Nat.zero_le k) h

theorem Regs.wf_del {k : Nat} {m : List (Nat × Nat)} (h : Regs.wf m = true) : Regs.wf (Regs.del k m) = true :=
  Regs.wfFrom_del h

theorem Regs.get_below {k : Nat} : ∀ {m : List (Nat × Nat)} {lo : Nat}, k < lo → Regs.wfFrom lo m = true → Regs.get k m = none
  | [], _, _, _ => rfl
  | (a, w) :: m, lo, hk, h => by
    simp only [Regs.wfFrom, Bool.and_eq_true, decide_eq_true_eq] at h
    have h1 : ¬ a = k := by omega
    have h2 : k < a := by omega
    simp [Regs.get, h1, h2]

theorem Regs.get_set_same {k v : Nat} : ∀ {m : List (Nat × Nat)}, Regs.get k (Regs.set k v m) = some v
  | [] => by simp [Regs.set, Regs.get]
  | (a, w) :: m => by
    unfold Regs.set
    split
    · simp [Regs.get]
    · split
      · simp [Regs.get]
      · have h1 : ¬ a = k := by omega
        have h2 : ¬ k < a := by omega
        simp [Regs.get, h1, h2, Regs.get_set_same]

theorem Regs.get_set_other {k j v : Nat} (hj : j ≠ k) : ∀ {m : List (Nat × Nat)} {lo : Nat}, Regs.wfFrom lo m = true →
    Regs.get j (Regs.set k v m) = Regs.get j m
  | [], _, _ => by
    have : ¬ k = j := fun h => hj h.symm
    simp [Regs.set, Regs.get, this]
  | (a, w) :: m, lo, h => by
    simp only [Regs.wfFrom, Bool.and_eq_true, decide_eq_true_eq] at h
    have hkj : ¬ k = j := fun e => hj e.symm
    unfold Regs.set
    split
    · rename_i hka
      by_cases hlt : j < k
      · have h1 : ¬ a = j := by omega
        have h2 : j < a := by omega
        simp [Regs.get, hkj, hlt, h1, h2]
      · simp [Regs.get, hkj, hlt]
    · split
      · rename_i h1 h2
        subst h2
        by_cases hlt : j < k
        · simp [Regs.get, hkj, hlt]
        · simp [Regs.get, hkj, hlt]
      · by_cases haj : a = j
        · simp [Regs.get, haj]
        · by_cases hlt : j < a
          · simp [Regs.get, haj, hlt]
          · simp [Regs.get, haj, hlt, Regs.get_set_other hj h.2]

theorem Regs.get_del_same {k : Nat} : ∀ {m : List (Nat × Nat)} {lo : Nat}, Regs.wfFrom lo m = true → Regs.get k (Regs.del k m) = none
  | [], _, _ => rfl
  | (a, w) :: m, lo, h => by
    simp only [Regs.wfFrom, Bool.and_eq_true, decide_eq_true_eq] at h
    unfold Regs.del
    split
    · rename_i e
      subst e
      exact Regs.get_below (Nat.lt_succ_self k) h.2
    · split
      · have h1 : ¬ a = k := by omega
        rename_i hlt
        simp [Regs.get, h1, hlt]
      · have h1 : ¬ a = k := by omega
        rename_i hlt
        simp [Regs.get, h1, hlt, Regs.get_del_same h.2]

theorem Regs.get_del_other {k j : Nat} (hj : j ≠ k) : ∀ {m : List (Nat × Nat)} {lo : Nat}, Regs.wfFrom lo m = true →
    Regs.get j (Regs.del k m) = Regs.get j m
  | [], _, _ => rfl
  | (a, w) :: m, lo, h => by
    simp only [Regs.wfFrom, Bool.and_eq_true, decide_eq_true_eq] at h
    unfold Regs.del
    split
    · rename_i e
      subst e
      have h1 : ¬ k = j := fun e => hj e.symm
      by_cases hlt : j < k
      · simp [Regs.get, h1, hlt, Regs.get_below (show j < k + 1 by omega) h.2]
      · simp [Regs.get, h1, hlt]
    · split
      · rfl
      · by_cases haj : a = j
        · simp [Regs.get, haj]
        · by_cases hlt : j < a
          · simp [Regs.get, haj, hlt]
          · simp [Regs.get, haj, hlt, Regs.get_del_other hj h.2]

theorem Regs.wf_foldr_set (m : List (Nat × Nat)) : Regs.wf (m.foldr (fun c acc => Regs.set c.1 c.2 acc) []) = true := by
  induction m with
  | nil => rfl
  | cons c m ih => exact Regs.wf_set ih

theorem Regs.wf_tidy (m : List (Nat × Nat)) : Regs.wf (Regs.tidy m) = true := by
  unfold Regs.tidy
  split
  · assumption
  · exact Regs.wf_foldr_set m

theorem Regs.tidy_of_wf {m : List (Nat × Nat)} (h : Regs.wf m = true) : Regs.tidy m = m := by simp [Regs.tidy, h]

/-! Fields. -/

theorem State.setFldAt_wf {s : State} (f : Fld) (k inst v : Nat) (h : Regs.wf s.regs = true) :
    Regs.wf (s.setFldAt f k inst v).regs = true := by
  unfold State.setFldAt
  split
  · exact Regs.wf_del h
  · exact Regs.wf_set h

theorem State.get_setFldAt_other {s : State} (f : Fld) (k inst v x : Nat) (h : Regs.wf s.regs = true) (hx : x ≠ f.key k inst) :
    Regs.get x (s.setFldAt f k inst v).regs = Regs.get x s.regs := by
  unfold State.setFldAt
  split
  · exact Regs.get_del_other hx h
  · exact Regs.get_set_other hx h

theorem State.fldAt_setFldAt_same {s : State} (f : Fld) (k inst v : Nat) (h : Regs.wf s.regs = true) :
    (s.setFldAt f k inst v).fldAt f k inst = v % 2 ^ f.width := by
  unfold State.setFldAt State.fldAt
  split
  · rename_i e
    simp [Regs.get_del_same (lo := 0) h, e]
  · simp [Regs.get_set_same]

theorem State.setFld_wf {s : State} (f : Fld) (v i : Nat) (h : Regs.wf s.regs = true) : Regs.wf (s.setFld f v i).regs = true := by
  unfold State.setFld
  split <;> exact State.setFldAt_wf _ _ _ _ h

theorem State.get_setFld_other {s : State} (f : Fld) (v i x : Nat) (h : Regs.wf s.regs = true) (hx : x ≠ f.cell i) :
    Regs.get x (s.setFld f v i).regs = Regs.get x s.regs := by
  unfold Fld.cell at hx
  unfold State.setFld
  split
  · rename_i e
    exact State.get_setFldAt_other _ _ _ _ _ h (by simpa [e] using hx)
  · rename_i e
    exact State.get_setFldAt_other _ _ _ _ _ h (by simpa [e] using hx)

theorem State.fld_setFld_same {s : State} (f : Fld) (v i : Nat) (h : Regs.wf s.regs = true) :
    (s.setFld f v i).fld f i = v % 2 ^ f.width := by
  unfold State.setFld State.fld
  split <;> exact State.fldAt_setFldAt_same _ _ _ _ h

theorem State.fld_congr {s m : State} (f : Fld) (i : Nat) (h : Regs.get (f.cell i) m.regs = Regs.get (f.cell i) s.regs) :
    m.fld f i = s.fld f i := by
  unfold Fld.cell at h
  unfold State.fld
  split
  · rename_i e
    simp only [e, if_true] at h
    simp [State.fldAt, h]
  · rename_i e
    simp only [e, if_false] at h
    simp [State.fldAt, h]

theorem State.fld_setFld_other {s : State} (f g : Fld) (v i j : Nat) (h : Regs.wf s.regs = true) (hx : g.cell j ≠ f.cell i) :
    (s.setFld f v i).fld g j = s.fld g j :=
  State.fld_congr g j (State.get_setFld_other f v i _ h hx)

end Sys2Proof.Machine
end

