-- ==== Sys2Proof/Laws/State.lean ====
section
/-! SUPPORT. What each update of the state leaves in each field. -/

namespace Sys2Proof.Machine

@[simp] theorem State.at_pending (s : State) (t : Nat) : (s.at t).pending = s.pending := rfl
@[simp] theorem State.at_free (s : State) (t : Nat) : (s.at t).free = s.free := rfl
@[simp] theorem State.at_out (s : State) (t : Nat) : (s.at t).out = s.out := rfl
@[simp] theorem State.at_env (s : State) (t : Nat) : (s.at t).env = s.env := rfl
@[simp] theorem State.at_tb (s : State) (t : Nat) : (s.at t).tb = s.tb + (t - s.tb) / s.tbStep * s.tbStep := rfl
@[simp] theorem State.at_op (s : State) (t : Nat) : (s.at t).op = s.op := rfl
@[simp] theorem State.at_seasons (s : State) (t : Nat) : (s.at t).seasons = s.seasons := rfl
@[simp] theorem State.at_regs (s : State) (t : Nat) : (s.at t).regs = s.regs := rfl
@[simp] theorem State.at_mem (s : State) (t : Nat) : (s.at t).mem = s.mem := rfl
@[simp] theorem State.at_bad (s : State) (t : Nat) : (s.at t).bad = s.bad := rfl
@[simp] theorem State.at_scrub (s : State) (t : Nat) : (s.at t).scrub = s.scrub := rfl
@[simp] theorem State.at_banks (s : State) (t : Nat) : (s.at t).banks = s.banks := rfl
@[simp] theorem State.at_cmds (s : State) (t : Nat) : (s.at t).cmds = s.cmds := rfl
@[simp] theorem State.at_bmp (s : State) (t : Nat) : (s.at t).bmp = s.bmp := rfl
@[simp] theorem State.at_job (s : State) (t : Nat) : (s.at t).job = s.job := rfl
@[simp] theorem State.at_ops (s : State) (t : Nat) : (s.at t).ops = s.ops := rfl
@[simp] theorem State.at_lanes (s : State) (t : Nat) : (s.at t).lanes = s.lanes := rfl
@[simp] theorem State.at_bar (s : State) (t : Nat) : (s.at t).bar = s.bar := rfl
@[simp] theorem State.at_bcbs (s : State) (t : Nat) : (s.at t).bcbs = s.bcbs := rfl
@[simp] theorem State.at_encs (s : State) (t : Nat) : (s.at t).encs = s.encs := rfl
@[simp] theorem State.at_sched (s : State) (t : Nat) : (s.at t).sched = s.sched := rfl
@[simp] theorem State.at_chains (s : State) (t : Nat) : (s.at t).chains = s.chains := rfl
@[simp] theorem State.at_drivers (s : State) (t : Nat) : (s.at t).drivers = s.drivers := rfl
@[simp] theorem State.at_engs (s : State) (t : Nat) : (s.at t).engs = s.engs := rfl
@[simp] theorem State.at_prod (s : State) (t : Nat) : (s.at t).prod = s.prod := rfl
@[simp] theorem State.at_ana (s : State) (t : Nat) : (s.at t).ana = s.ana := rfl
@[simp] theorem State.at_groups (s : State) (t : Nat) : (s.at t).groups = s.groups := rfl
@[simp] theorem State.at_axes (s : State) (t : Nat) : (s.at t).axes = s.axes := rfl
@[simp] theorem State.at_scan (s : State) (t : Nat) : (s.at t).scan = s.scan := rfl
@[simp] theorem State.at_mon (s : State) (t : Nat) : (s.at t).mon = s.mon := rfl
@[simp] theorem State.at_sessions (s : State) (t : Nat) : (s.at t).sessions = s.sessions := rfl
@[simp] theorem State.at_ports (s : State) (t : Nat) : (s.at t).ports = s.ports := rfl
@[simp] theorem State.at_bmb (s : State) (t : Nat) : (s.at t).bmb = s.bmb := rfl
@[simp] theorem State.at_sec (s : State) (t : Nat) : (s.at t).sec = s.sec := rfl
@[simp] theorem State.at_flt (s : State) (t : Nat) : (s.at t).flt = s.flt := rfl

@[simp] theorem State.emit_pending (s : State) (o : Out) : (s.emit o).pending = s.pending := rfl
@[simp] theorem State.emit_free (s : State) (o : Out) : (s.emit o).free = s.free := rfl
@[simp] theorem State.emit_out (s : State) (o : Out) : (s.emit o).out = o :: s.out := rfl
@[simp] theorem State.emit_env (s : State) (o : Out) : (s.emit o).env = s.env := rfl
@[simp] theorem State.emit_tb (s : State) (o : Out) : (s.emit o).tb = s.tb := rfl
@[simp] theorem State.emit_op (s : State) (o : Out) : (s.emit o).op = s.op := rfl
@[simp] theorem State.emit_seasons (s : State) (o : Out) : (s.emit o).seasons = s.seasons := rfl
@[simp] theorem State.emit_regs (s : State) (o : Out) : (s.emit o).regs = s.regs := rfl
@[simp] theorem State.emit_mem (s : State) (o : Out) : (s.emit o).mem = s.mem := rfl
@[simp] theorem State.emit_bad (s : State) (o : Out) : (s.emit o).bad = s.bad := rfl
@[simp] theorem State.emit_scrub (s : State) (o : Out) : (s.emit o).scrub = s.scrub := rfl
@[simp] theorem State.emit_banks (s : State) (o : Out) : (s.emit o).banks = s.banks := rfl
@[simp] theorem State.emit_cmds (s : State) (o : Out) : (s.emit o).cmds = s.cmds := rfl
@[simp] theorem State.emit_bmp (s : State) (o : Out) : (s.emit o).bmp = s.bmp := rfl
@[simp] theorem State.emit_job (s : State) (o : Out) : (s.emit o).job = s.job := rfl
@[simp] theorem State.emit_ops (s : State) (o : Out) : (s.emit o).ops = s.ops := rfl
@[simp] theorem State.emit_lanes (s : State) (o : Out) : (s.emit o).lanes = s.lanes := rfl
@[simp] theorem State.emit_bar (s : State) (o : Out) : (s.emit o).bar = s.bar := rfl
@[simp] theorem State.emit_bcbs (s : State) (o : Out) : (s.emit o).bcbs = s.bcbs := rfl
@[simp] theorem State.emit_encs (s : State) (o : Out) : (s.emit o).encs = s.encs := rfl
@[simp] theorem State.emit_sched (s : State) (o : Out) : (s.emit o).sched = s.sched := rfl
@[simp] theorem State.emit_chains (s : State) (o : Out) : (s.emit o).chains = s.chains := rfl
@[simp] theorem State.emit_drivers (s : State) (o : Out) : (s.emit o).drivers = s.drivers := rfl
@[simp] theorem State.emit_engs (s : State) (o : Out) : (s.emit o).engs = s.engs := rfl
@[simp] theorem State.emit_prod (s : State) (o : Out) : (s.emit o).prod = s.prod := rfl
@[simp] theorem State.emit_ana (s : State) (o : Out) : (s.emit o).ana = s.ana := rfl
@[simp] theorem State.emit_groups (s : State) (o : Out) : (s.emit o).groups = s.groups := rfl
@[simp] theorem State.emit_axes (s : State) (o : Out) : (s.emit o).axes = s.axes := rfl
@[simp] theorem State.emit_scan (s : State) (o : Out) : (s.emit o).scan = s.scan := rfl
@[simp] theorem State.emit_mon (s : State) (o : Out) : (s.emit o).mon = s.mon := rfl
@[simp] theorem State.emit_sessions (s : State) (o : Out) : (s.emit o).sessions = s.sessions := rfl
@[simp] theorem State.emit_ports (s : State) (o : Out) : (s.emit o).ports = s.ports := rfl
@[simp] theorem State.emit_bmb (s : State) (o : Out) : (s.emit o).bmb = s.bmb := rfl
@[simp] theorem State.emit_sec (s : State) (o : Out) : (s.emit o).sec = s.sec := rfl
@[simp] theorem State.emit_flt (s : State) (o : Out) : (s.emit o).flt = s.flt := rfl

@[simp] theorem State.setFldAt_pending (s : State) (f : Fld) (k j v : Nat) : (s.setFldAt f k j v).pending = s.pending := rfl
@[simp] theorem State.setFldAt_free (s : State) (f : Fld) (k j v : Nat) : (s.setFldAt f k j v).free = s.free := rfl
@[simp] theorem State.setFldAt_out (s : State) (f : Fld) (k j v : Nat) : (s.setFldAt f k j v).out = s.out := rfl
@[simp] theorem State.setFldAt_env (s : State) (f : Fld) (k j v : Nat) : (s.setFldAt f k j v).env = s.env := rfl
@[simp] theorem State.setFldAt_tb (s : State) (f : Fld) (k j v : Nat) : (s.setFldAt f k j v).tb = s.tb := rfl
@[simp] theorem State.setFldAt_op (s : State) (f : Fld) (k j v : Nat) : (s.setFldAt f k j v).op = s.op := rfl
@[simp] theorem State.setFldAt_seasons (s : State) (f : Fld) (k j v : Nat) : (s.setFldAt f k j v).seasons = s.seasons := rfl
@[simp] theorem State.setFldAt_mem (s : State) (f : Fld) (k j v : Nat) : (s.setFldAt f k j v).mem = s.mem := rfl
@[simp] theorem State.setFldAt_bad (s : State) (f : Fld) (k j v : Nat) : (s.setFldAt f k j v).bad = s.bad := rfl
@[simp] theorem State.setFldAt_scrub (s : State) (f : Fld) (k j v : Nat) : (s.setFldAt f k j v).scrub = s.scrub := rfl
@[simp] theorem State.setFldAt_banks (s : State) (f : Fld) (k j v : Nat) : (s.setFldAt f k j v).banks = s.banks := rfl
@[simp] theorem State.setFldAt_cmds (s : State) (f : Fld) (k j v : Nat) : (s.setFldAt f k j v).cmds = s.cmds := rfl
@[simp] theorem State.setFldAt_bmp (s : State) (f : Fld) (k j v : Nat) : (s.setFldAt f k j v).bmp = s.bmp := rfl
@[simp] theorem State.setFldAt_job (s : State) (f : Fld) (k j v : Nat) : (s.setFldAt f k j v).job = s.job := rfl
@[simp] theorem State.setFldAt_ops (s : State) (f : Fld) (k j v : Nat) : (s.setFldAt f k j v).ops = s.ops := rfl
@[simp] theorem State.setFldAt_lanes (s : State) (f : Fld) (k j v : Nat) : (s.setFldAt f k j v).lanes = s.lanes := rfl
@[simp] theorem State.setFldAt_bar (s : State) (f : Fld) (k j v : Nat) : (s.setFldAt f k j v).bar = s.bar := rfl
@[simp] theorem State.setFldAt_bcbs (s : State) (f : Fld) (k j v : Nat) : (s.setFldAt f k j v).bcbs = s.bcbs := rfl
@[simp] theorem State.setFldAt_encs (s : State) (f : Fld) (k j v : Nat) : (s.setFldAt f k j v).encs = s.encs := rfl
@[simp] theorem State.setFldAt_sched (s : State) (f : Fld) (k j v : Nat) : (s.setFldAt f k j v).sched = s.sched := rfl
@[simp] theorem State.setFldAt_chains (s : State) (f : Fld) (k j v : Nat) : (s.setFldAt f k j v).chains = s.chains := rfl
@[simp] theorem State.setFldAt_drivers (s : State) (f : Fld) (k j v : Nat) : (s.setFldAt f k j v).drivers = s.drivers := rfl
@[simp] theorem State.setFldAt_engs (s : State) (f : Fld) (k j v : Nat) : (s.setFldAt f k j v).engs = s.engs := rfl
@[simp] theorem State.setFldAt_prod (s : State) (f : Fld) (k j v : Nat) : (s.setFldAt f k j v).prod = s.prod := rfl
@[simp] theorem State.setFldAt_ana (s : State) (f : Fld) (k j v : Nat) : (s.setFldAt f k j v).ana = s.ana := rfl
@[simp] theorem State.setFldAt_groups (s : State) (f : Fld) (k j v : Nat) : (s.setFldAt f k j v).groups = s.groups := rfl
@[simp] theorem State.setFldAt_axes (s : State) (f : Fld) (k j v : Nat) : (s.setFldAt f k j v).axes = s.axes := rfl
@[simp] theorem State.setFldAt_scan (s : State) (f : Fld) (k j v : Nat) : (s.setFldAt f k j v).scan = s.scan := rfl
@[simp] theorem State.setFldAt_mon (s : State) (f : Fld) (k j v : Nat) : (s.setFldAt f k j v).mon = s.mon := rfl
@[simp] theorem State.setFldAt_sessions (s : State) (f : Fld) (k j v : Nat) : (s.setFldAt f k j v).sessions = s.sessions := rfl
@[simp] theorem State.setFldAt_ports (s : State) (f : Fld) (k j v : Nat) : (s.setFldAt f k j v).ports = s.ports := rfl
@[simp] theorem State.setFldAt_bmb (s : State) (f : Fld) (k j v : Nat) : (s.setFldAt f k j v).bmb = s.bmb := rfl
@[simp] theorem State.setFldAt_sec (s : State) (f : Fld) (k j v : Nat) : (s.setFldAt f k j v).sec = s.sec := rfl
@[simp] theorem State.setFldAt_flt (s : State) (f : Fld) (k j v : Nat) : (s.setFldAt f k j v).flt = s.flt := rfl

/-- Storing a field changes the register file and nothing else. -/
theorem State.setFld_regs_only (s : State) (f : Fld) (v i : Nat) : s.setFld f v i = { s with regs := (s.setFld f v i).regs } := by
  unfold State.setFld
  split <;> rfl

theorem State.count_regs_only (s : State) (f : Fld) (i n : Nat) : s.count f i n = { s with regs := (s.count f i n).regs } := by
  unfold State.count
  rw [State.setFld_regs_only]

@[simp] theorem State.setFld_pending (s : State) (f : Fld) (v i : Nat) : (s.setFld f v i).pending = s.pending := by rw [State.setFld_regs_only]
@[simp] theorem State.setFld_free (s : State) (f : Fld) (v i : Nat) : (s.setFld f v i).free = s.free := by rw [State.setFld_regs_only]
@[simp] theorem State.setFld_out (s : State) (f : Fld) (v i : Nat) : (s.setFld f v i).out = s.out := by rw [State.setFld_regs_only]
@[simp] theorem State.setFld_env (s : State) (f : Fld) (v i : Nat) : (s.setFld f v i).env = s.env := by rw [State.setFld_regs_only]
@[simp] theorem State.setFld_tb (s : State) (f : Fld) (v i : Nat) : (s.setFld f v i).tb = s.tb := by rw [State.setFld_regs_only]
@[simp] theorem State.setFld_op (s : State) (f : Fld) (v i : Nat) : (s.setFld f v i).op = s.op := by rw [State.setFld_regs_only]
@[simp] theorem State.setFld_seasons (s : State) (f : Fld) (v i : Nat) : (s.setFld f v i).seasons = s.seasons := by rw [State.setFld_regs_only]
@[simp] theorem State.setFld_mem (s : State) (f : Fld) (v i : Nat) : (s.setFld f v i).mem = s.mem := by rw [State.setFld_regs_only]
@[simp] theorem State.setFld_bad (s : State) (f : Fld) (v i : Nat) : (s.setFld f v i).bad = s.bad := by rw [State.setFld_regs_only]
@[simp] theorem State.setFld_scrub (s : State) (f : Fld) (v i : Nat) : (s.setFld f v i).scrub = s.scrub := by rw [State.setFld_regs_only]
@[simp] theorem State.setFld_banks (s : State) (f : Fld) (v i : Nat) : (s.setFld f v i).banks = s.banks := by rw [State.setFld_regs_only]
@[simp] theorem State.setFld_cmds (s : State) (f : Fld) (v i : Nat) : (s.setFld f v i).cmds = s.cmds := by rw [State.setFld_regs_only]
@[simp] theorem State.setFld_bmp (s : State) (f : Fld) (v i : Nat) : (s.setFld f v i).bmp = s.bmp := by rw [State.setFld_regs_only]
@[simp] theorem State.setFld_job (s : State) (f : Fld) (v i : Nat) : (s.setFld f v i).job = s.job := by rw [State.setFld_regs_only]
@[simp] theorem State.setFld_ops (s : State) (f : Fld) (v i : Nat) : (s.setFld f v i).ops = s.ops := by rw [State.setFld_regs_only]
@[simp] theorem State.setFld_lanes (s : State) (f : Fld) (v i : Nat) : (s.setFld f v i).lanes = s.lanes := by rw [State.setFld_regs_only]
@[simp] theorem State.setFld_bar (s : State) (f : Fld) (v i : Nat) : (s.setFld f v i).bar = s.bar := by rw [State.setFld_regs_only]
@[simp] theorem State.setFld_bcbs (s : State) (f : Fld) (v i : Nat) : (s.setFld f v i).bcbs = s.bcbs := by rw [State.setFld_regs_only]
@[simp] theorem State.setFld_encs (s : State) (f : Fld) (v i : Nat) : (s.setFld f v i).encs = s.encs := by rw [State.setFld_regs_only]
@[simp] theorem State.setFld_sched (s : State) (f : Fld) (v i : Nat) : (s.setFld f v i).sched = s.sched := by rw [State.setFld_regs_only]
@[simp] theorem State.setFld_chains (s : State) (f : Fld) (v i : Nat) : (s.setFld f v i).chains = s.chains := by rw [State.setFld_regs_only]
@[simp] theorem State.setFld_drivers (s : State) (f : Fld) (v i : Nat) : (s.setFld f v i).drivers = s.drivers := by rw [State.setFld_regs_only]
@[simp] theorem State.setFld_engs (s : State) (f : Fld) (v i : Nat) : (s.setFld f v i).engs = s.engs := by rw [State.setFld_regs_only]
@[simp] theorem State.setFld_prod (s : State) (f : Fld) (v i : Nat) : (s.setFld f v i).prod = s.prod := by rw [State.setFld_regs_only]
@[simp] theorem State.setFld_ana (s : State) (f : Fld) (v i : Nat) : (s.setFld f v i).ana = s.ana := by rw [State.setFld_regs_only]
@[simp] theorem State.setFld_groups (s : State) (f : Fld) (v i : Nat) : (s.setFld f v i).groups = s.groups := by rw [State.setFld_regs_only]
@[simp] theorem State.setFld_axes (s : State) (f : Fld) (v i : Nat) : (s.setFld f v i).axes = s.axes := by rw [State.setFld_regs_only]
@[simp] theorem State.setFld_scan (s : State) (f : Fld) (v i : Nat) : (s.setFld f v i).scan = s.scan := by rw [State.setFld_regs_only]
@[simp] theorem State.setFld_mon (s : State) (f : Fld) (v i : Nat) : (s.setFld f v i).mon = s.mon := by rw [State.setFld_regs_only]
@[simp] theorem State.setFld_sessions (s : State) (f : Fld) (v i : Nat) : (s.setFld f v i).sessions = s.sessions := by rw [State.setFld_regs_only]
@[simp] theorem State.setFld_ports (s : State) (f : Fld) (v i : Nat) : (s.setFld f v i).ports = s.ports := by rw [State.setFld_regs_only]
@[simp] theorem State.setFld_bmb (s : State) (f : Fld) (v i : Nat) : (s.setFld f v i).bmb = s.bmb := by rw [State.setFld_regs_only]
@[simp] theorem State.setFld_sec (s : State) (f : Fld) (v i : Nat) : (s.setFld f v i).sec = s.sec := by rw [State.setFld_regs_only]
@[simp] theorem State.setFld_flt (s : State) (f : Fld) (v i : Nat) : (s.setFld f v i).flt = s.flt := by rw [State.setFld_regs_only]

@[simp] theorem State.count_pending (s : State) (f : Fld) (i n : Nat) : (s.count f i n).pending = s.pending := by rw [State.count_regs_only]
@[simp] theorem State.count_free (s : State) (f : Fld) (i n : Nat) : (s.count f i n).free = s.free := by rw [State.count_regs_only]
@[simp] theorem State.count_out (s : State) (f : Fld) (i n : Nat) : (s.count f i n).out = s.out := by rw [State.count_regs_only]
@[simp] theorem State.count_env (s : State) (f : Fld) (i n : Nat) : (s.count f i n).env = s.env := by rw [State.count_regs_only]
@[simp] theorem State.count_tb (s : State) (f : Fld) (i n : Nat) : (s.count f i n).tb = s.tb := by rw [State.count_regs_only]
@[simp] theorem State.count_op (s : State) (f : Fld) (i n : Nat) : (s.count f i n).op = s.op := by rw [State.count_regs_only]
@[simp] theorem State.count_seasons (s : State) (f : Fld) (i n : Nat) : (s.count f i n).seasons = s.seasons := by rw [State.count_regs_only]
@[simp] theorem State.count_mem (s : State) (f : Fld) (i n : Nat) : (s.count f i n).mem = s.mem := by rw [State.count_regs_only]
@[simp] theorem State.count_bad (s : State) (f : Fld) (i n : Nat) : (s.count f i n).bad = s.bad := by rw [State.count_regs_only]
@[simp] theorem State.count_scrub (s : State) (f : Fld) (i n : Nat) : (s.count f i n).scrub = s.scrub := by rw [State.count_regs_only]
@[simp] theorem State.count_banks (s : State) (f : Fld) (i n : Nat) : (s.count f i n).banks = s.banks := by rw [State.count_regs_only]
@[simp] theorem State.count_cmds (s : State) (f : Fld) (i n : Nat) : (s.count f i n).cmds = s.cmds := by rw [State.count_regs_only]
@[simp] theorem State.count_bmp (s : State) (f : Fld) (i n : Nat) : (s.count f i n).bmp = s.bmp := by rw [State.count_regs_only]
@[simp] theorem State.count_job (s : State) (f : Fld) (i n : Nat) : (s.count f i n).job = s.job := by rw [State.count_regs_only]
@[simp] theorem State.count_ops (s : State) (f : Fld) (i n : Nat) : (s.count f i n).ops = s.ops := by rw [State.count_regs_only]
@[simp] theorem State.count_lanes (s : State) (f : Fld) (i n : Nat) : (s.count f i n).lanes = s.lanes := by rw [State.count_regs_only]
@[simp] theorem State.count_bar (s : State) (f : Fld) (i n : Nat) : (s.count f i n).bar = s.bar := by rw [State.count_regs_only]
@[simp] theorem State.count_bcbs (s : State) (f : Fld) (i n : Nat) : (s.count f i n).bcbs = s.bcbs := by rw [State.count_regs_only]
@[simp] theorem State.count_encs (s : State) (f : Fld) (i n : Nat) : (s.count f i n).encs = s.encs := by rw [State.count_regs_only]
@[simp] theorem State.count_sched (s : State) (f : Fld) (i n : Nat) : (s.count f i n).sched = s.sched := by rw [State.count_regs_only]
@[simp] theorem State.count_chains (s : State) (f : Fld) (i n : Nat) : (s.count f i n).chains = s.chains := by rw [State.count_regs_only]
@[simp] theorem State.count_drivers (s : State) (f : Fld) (i n : Nat) : (s.count f i n).drivers = s.drivers := by rw [State.count_regs_only]
@[simp] theorem State.count_engs (s : State) (f : Fld) (i n : Nat) : (s.count f i n).engs = s.engs := by rw [State.count_regs_only]
@[simp] theorem State.count_prod (s : State) (f : Fld) (i n : Nat) : (s.count f i n).prod = s.prod := by rw [State.count_regs_only]
@[simp] theorem State.count_ana (s : State) (f : Fld) (i n : Nat) : (s.count f i n).ana = s.ana := by rw [State.count_regs_only]
@[simp] theorem State.count_groups (s : State) (f : Fld) (i n : Nat) : (s.count f i n).groups = s.groups := by rw [State.count_regs_only]
@[simp] theorem State.count_axes (s : State) (f : Fld) (i n : Nat) : (s.count f i n).axes = s.axes := by rw [State.count_regs_only]
@[simp] theorem State.count_scan (s : State) (f : Fld) (i n : Nat) : (s.count f i n).scan = s.scan := by rw [State.count_regs_only]
@[simp] theorem State.count_mon (s : State) (f : Fld) (i n : Nat) : (s.count f i n).mon = s.mon := by rw [State.count_regs_only]
@[simp] theorem State.count_sessions (s : State) (f : Fld) (i n : Nat) : (s.count f i n).sessions = s.sessions := by rw [State.count_regs_only]
@[simp] theorem State.count_ports (s : State) (f : Fld) (i n : Nat) : (s.count f i n).ports = s.ports := by rw [State.count_regs_only]
@[simp] theorem State.count_bmb (s : State) (f : Fld) (i n : Nat) : (s.count f i n).bmb = s.bmb := by rw [State.count_regs_only]
@[simp] theorem State.count_sec (s : State) (f : Fld) (i n : Nat) : (s.count f i n).sec = s.sec := by rw [State.count_regs_only]
@[simp] theorem State.count_flt (s : State) (f : Fld) (i n : Nat) : (s.count f i n).flt = s.flt := by rw [State.count_regs_only]

@[simp] theorem State.writeMem_pending (s : State) (a : Nat) (l : List Byte) : (s.writeMem a l).pending = s.pending := rfl
@[simp] theorem State.writeMem_free (s : State) (a : Nat) (l : List Byte) : (s.writeMem a l).free = s.free := rfl
@[simp] theorem State.writeMem_out (s : State) (a : Nat) (l : List Byte) : (s.writeMem a l).out = s.out := rfl
@[simp] theorem State.writeMem_env (s : State) (a : Nat) (l : List Byte) : (s.writeMem a l).env = s.env := rfl
@[simp] theorem State.writeMem_tb (s : State) (a : Nat) (l : List Byte) : (s.writeMem a l).tb = s.tb := rfl
@[simp] theorem State.writeMem_op (s : State) (a : Nat) (l : List Byte) : (s.writeMem a l).op = s.op := rfl
@[simp] theorem State.writeMem_seasons (s : State) (a : Nat) (l : List Byte) : (s.writeMem a l).seasons = s.seasons := rfl
@[simp] theorem State.writeMem_regs (s : State) (a : Nat) (l : List Byte) : (s.writeMem a l).regs = s.regs := rfl
@[simp] theorem State.writeMem_mem (s : State) (a : Nat) (l : List Byte) : (s.writeMem a l).mem = Memory.write s.mem a l := rfl
@[simp] theorem State.writeMem_scrub (s : State) (a : Nat) (l : List Byte) : (s.writeMem a l).scrub = s.scrub := rfl
@[simp] theorem State.writeMem_banks (s : State) (a : Nat) (l : List Byte) : (s.writeMem a l).banks = s.banks := rfl
@[simp] theorem State.writeMem_cmds (s : State) (a : Nat) (l : List Byte) : (s.writeMem a l).cmds = s.cmds := rfl
@[simp] theorem State.writeMem_bmp (s : State) (a : Nat) (l : List Byte) : (s.writeMem a l).bmp = s.bmp := rfl
@[simp] theorem State.writeMem_job (s : State) (a : Nat) (l : List Byte) : (s.writeMem a l).job = s.job := rfl
@[simp] theorem State.writeMem_ops (s : State) (a : Nat) (l : List Byte) : (s.writeMem a l).ops = s.ops := rfl
@[simp] theorem State.writeMem_lanes (s : State) (a : Nat) (l : List Byte) : (s.writeMem a l).lanes = s.lanes := rfl
@[simp] theorem State.writeMem_bar (s : State) (a : Nat) (l : List Byte) : (s.writeMem a l).bar = s.bar := rfl
@[simp] theorem State.writeMem_bcbs (s : State) (a : Nat) (l : List Byte) : (s.writeMem a l).bcbs = s.bcbs := rfl
@[simp] theorem State.writeMem_encs (s : State) (a : Nat) (l : List Byte) : (s.writeMem a l).encs = s.encs := rfl
@[simp] theorem State.writeMem_sched (s : State) (a : Nat) (l : List Byte) : (s.writeMem a l).sched = s.sched := rfl
@[simp] theorem State.writeMem_chains (s : State) (a : Nat) (l : List Byte) : (s.writeMem a l).chains = s.chains := rfl
@[simp] theorem State.writeMem_drivers (s : State) (a : Nat) (l : List Byte) : (s.writeMem a l).drivers = s.drivers := rfl
@[simp] theorem State.writeMem_engs (s : State) (a : Nat) (l : List Byte) : (s.writeMem a l).engs = s.engs := rfl
@[simp] theorem State.writeMem_prod (s : State) (a : Nat) (l : List Byte) : (s.writeMem a l).prod = s.prod := rfl
@[simp] theorem State.writeMem_ana (s : State) (a : Nat) (l : List Byte) : (s.writeMem a l).ana = s.ana := rfl
@[simp] theorem State.writeMem_groups (s : State) (a : Nat) (l : List Byte) : (s.writeMem a l).groups = s.groups := rfl
@[simp] theorem State.writeMem_axes (s : State) (a : Nat) (l : List Byte) : (s.writeMem a l).axes = s.axes := rfl
@[simp] theorem State.writeMem_scan (s : State) (a : Nat) (l : List Byte) : (s.writeMem a l).scan = s.scan := rfl
@[simp] theorem State.writeMem_mon (s : State) (a : Nat) (l : List Byte) : (s.writeMem a l).mon = s.mon := rfl
@[simp] theorem State.writeMem_sessions (s : State) (a : Nat) (l : List Byte) : (s.writeMem a l).sessions = s.sessions := rfl
@[simp] theorem State.writeMem_ports (s : State) (a : Nat) (l : List Byte) : (s.writeMem a l).ports = s.ports := rfl
@[simp] theorem State.writeMem_bmb (s : State) (a : Nat) (l : List Byte) : (s.writeMem a l).bmb = s.bmb := rfl
@[simp] theorem State.writeMem_sec (s : State) (a : Nat) (l : List Byte) : (s.writeMem a l).sec = s.sec := rfl
@[simp] theorem State.writeMem_flt (s : State) (a : Nat) (l : List Byte) : (s.writeMem a l).flt = s.flt := rfl

@[simp] theorem State.modBank_pending (s : State) (p : Path) (f : Bank → Bank) : (s.modBank p f).pending = s.pending := rfl
@[simp] theorem State.modBank_free (s : State) (p : Path) (f : Bank → Bank) : (s.modBank p f).free = s.free := rfl
@[simp] theorem State.modBank_out (s : State) (p : Path) (f : Bank → Bank) : (s.modBank p f).out = s.out := rfl
@[simp] theorem State.modBank_env (s : State) (p : Path) (f : Bank → Bank) : (s.modBank p f).env = s.env := rfl
@[simp] theorem State.modBank_tb (s : State) (p : Path) (f : Bank → Bank) : (s.modBank p f).tb = s.tb := rfl
@[simp] theorem State.modBank_op (s : State) (p : Path) (f : Bank → Bank) : (s.modBank p f).op = s.op := rfl
@[simp] theorem State.modBank_seasons (s : State) (p : Path) (f : Bank → Bank) : (s.modBank p f).seasons = s.seasons := rfl
@[simp] theorem State.modBank_regs (s : State) (p : Path) (f : Bank → Bank) : (s.modBank p f).regs = s.regs := rfl
@[simp] theorem State.modBank_mem (s : State) (p : Path) (f : Bank → Bank) : (s.modBank p f).mem = s.mem := rfl
@[simp] theorem State.modBank_bad (s : State) (p : Path) (f : Bank → Bank) : (s.modBank p f).bad = s.bad := rfl
@[simp] theorem State.modBank_scrub (s : State) (p : Path) (f : Bank → Bank) : (s.modBank p f).scrub = s.scrub := rfl
@[simp] theorem State.modBank_banks (s : State) (p : Path) (f : Bank → Bank) : (s.modBank p f).banks = modifyNth f (pathIdx p) s.banks := rfl
@[simp] theorem State.modBank_cmds (s : State) (p : Path) (f : Bank → Bank) : (s.modBank p f).cmds = s.cmds := rfl
@[simp] theorem State.modBank_bmp (s : State) (p : Path) (f : Bank → Bank) : (s.modBank p f).bmp = s.bmp := rfl
@[simp] theorem State.modBank_job (s : State) (p : Path) (f : Bank → Bank) : (s.modBank p f).job = s.job := rfl
@[simp] theorem State.modBank_ops (s : State) (p : Path) (f : Bank → Bank) : (s.modBank p f).ops = s.ops := rfl
@[simp] theorem State.modBank_lanes (s : State) (p : Path) (f : Bank → Bank) : (s.modBank p f).lanes = s.lanes := rfl
@[simp] theorem State.modBank_bar (s : State) (p : Path) (f : Bank → Bank) : (s.modBank p f).bar = s.bar := rfl
@[simp] theorem State.modBank_bcbs (s : State) (p : Path) (f : Bank → Bank) : (s.modBank p f).bcbs = s.bcbs := rfl
@[simp] theorem State.modBank_encs (s : State) (p : Path) (f : Bank → Bank) : (s.modBank p f).encs = s.encs := rfl
@[simp] theorem State.modBank_sched (s : State) (p : Path) (f : Bank → Bank) : (s.modBank p f).sched = s.sched := rfl
@[simp] theorem State.modBank_chains (s : State) (p : Path) (f : Bank → Bank) : (s.modBank p f).chains = s.chains := rfl
@[simp] theorem State.modBank_drivers (s : State) (p : Path) (f : Bank → Bank) : (s.modBank p f).drivers = s.drivers := rfl
@[simp] theorem State.modBank_engs (s : State) (p : Path) (f : Bank → Bank) : (s.modBank p f).engs = s.engs := rfl
@[simp] theorem State.modBank_prod (s : State) (p : Path) (f : Bank → Bank) : (s.modBank p f).prod = s.prod := rfl
@[simp] theorem State.modBank_ana (s : State) (p : Path) (f : Bank → Bank) : (s.modBank p f).ana = s.ana := rfl
@[simp] theorem State.modBank_groups (s : State) (p : Path) (f : Bank → Bank) : (s.modBank p f).groups = s.groups := rfl
@[simp] theorem State.modBank_axes (s : State) (p : Path) (f : Bank → Bank) : (s.modBank p f).axes = s.axes := rfl
@[simp] theorem State.modBank_scan (s : State) (p : Path) (f : Bank → Bank) : (s.modBank p f).scan = s.scan := rfl
@[simp] theorem State.modBank_mon (s : State) (p : Path) (f : Bank → Bank) : (s.modBank p f).mon = s.mon := rfl
@[simp] theorem State.modBank_sessions (s : State) (p : Path) (f : Bank → Bank) : (s.modBank p f).sessions = s.sessions := rfl
@[simp] theorem State.modBank_ports (s : State) (p : Path) (f : Bank → Bank) : (s.modBank p f).ports = s.ports := rfl
@[simp] theorem State.modBank_bmb (s : State) (p : Path) (f : Bank → Bank) : (s.modBank p f).bmb = s.bmb := rfl
@[simp] theorem State.modBank_sec (s : State) (p : Path) (f : Bank → Bank) : (s.modBank p f).sec = s.sec := rfl
@[simp] theorem State.modBank_flt (s : State) (p : Path) (f : Bank → Bank) : (s.modBank p f).flt = s.flt := rfl

@[simp] theorem State.modCmd_pending (s : State) (p : Path) (f : CmdPath → CmdPath) : (s.modCmd p f).pending = s.pending := rfl
@[simp] theorem State.modCmd_free (s : State) (p : Path) (f : CmdPath → CmdPath) : (s.modCmd p f).free = s.free := rfl
@[simp] theorem State.modCmd_out (s : State) (p : Path) (f : CmdPath → CmdPath) : (s.modCmd p f).out = s.out := rfl
@[simp] theorem State.modCmd_env (s : State) (p : Path) (f : CmdPath → CmdPath) : (s.modCmd p f).env = s.env := rfl
@[simp] theorem State.modCmd_tb (s : State) (p : Path) (f : CmdPath → CmdPath) : (s.modCmd p f).tb = s.tb := rfl
@[simp] theorem State.modCmd_op (s : State) (p : Path) (f : CmdPath → CmdPath) : (s.modCmd p f).op = s.op := rfl
@[simp] theorem State.modCmd_seasons (s : State) (p : Path) (f : CmdPath → CmdPath) : (s.modCmd p f).seasons = s.seasons := rfl
@[simp] theorem State.modCmd_regs (s : State) (p : Path) (f : CmdPath → CmdPath) : (s.modCmd p f).regs = s.regs := rfl
@[simp] theorem State.modCmd_mem (s : State) (p : Path) (f : CmdPath → CmdPath) : (s.modCmd p f).mem = s.mem := rfl
@[simp] theorem State.modCmd_bad (s : State) (p : Path) (f : CmdPath → CmdPath) : (s.modCmd p f).bad = s.bad := rfl
@[simp] theorem State.modCmd_scrub (s : State) (p : Path) (f : CmdPath → CmdPath) : (s.modCmd p f).scrub = s.scrub := rfl
@[simp] theorem State.modCmd_banks (s : State) (p : Path) (f : CmdPath → CmdPath) : (s.modCmd p f).banks = s.banks := rfl
@[simp] theorem State.modCmd_cmds (s : State) (p : Path) (f : CmdPath → CmdPath) : (s.modCmd p f).cmds = modifyNth f (pathIdx p) s.cmds := rfl
@[simp] theorem State.modCmd_bmp (s : State) (p : Path) (f : CmdPath → CmdPath) : (s.modCmd p f).bmp = s.bmp := rfl
@[simp] theorem State.modCmd_job (s : State) (p : Path) (f : CmdPath → CmdPath) : (s.modCmd p f).job = s.job := rfl
@[simp] theorem State.modCmd_ops (s : State) (p : Path) (f : CmdPath → CmdPath) : (s.modCmd p f).ops = s.ops := rfl
@[simp] theorem State.modCmd_lanes (s : State) (p : Path) (f : CmdPath → CmdPath) : (s.modCmd p f).lanes = s.lanes := rfl
@[simp] theorem State.modCmd_bar (s : State) (p : Path) (f : CmdPath → CmdPath) : (s.modCmd p f).bar = s.bar := rfl
@[simp] theorem State.modCmd_bcbs (s : State) (p : Path) (f : CmdPath → CmdPath) : (s.modCmd p f).bcbs = s.bcbs := rfl
@[simp] theorem State.modCmd_encs (s : State) (p : Path) (f : CmdPath → CmdPath) : (s.modCmd p f).encs = s.encs := rfl
@[simp] theorem State.modCmd_sched (s : State) (p : Path) (f : CmdPath → CmdPath) : (s.modCmd p f).sched = s.sched := rfl
@[simp] theorem State.modCmd_chains (s : State) (p : Path) (f : CmdPath → CmdPath) : (s.modCmd p f).chains = s.chains := rfl
@[simp] theorem State.modCmd_drivers (s : State) (p : Path) (f : CmdPath → CmdPath) : (s.modCmd p f).drivers = s.drivers := rfl
@[simp] theorem State.modCmd_engs (s : State) (p : Path) (f : CmdPath → CmdPath) : (s.modCmd p f).engs = s.engs := rfl
@[simp] theorem State.modCmd_prod (s : State) (p : Path) (f : CmdPath → CmdPath) : (s.modCmd p f).prod = s.prod := rfl
@[simp] theorem State.modCmd_ana (s : State) (p : Path) (f : CmdPath → CmdPath) : (s.modCmd p f).ana = s.ana := rfl
@[simp] theorem State.modCmd_groups (s : State) (p : Path) (f : CmdPath → CmdPath) : (s.modCmd p f).groups = s.groups := rfl
@[simp] theorem State.modCmd_axes (s : State) (p : Path) (f : CmdPath → CmdPath) : (s.modCmd p f).axes = s.axes := rfl
@[simp] theorem State.modCmd_scan (s : State) (p : Path) (f : CmdPath → CmdPath) : (s.modCmd p f).scan = s.scan := rfl
@[simp] theorem State.modCmd_mon (s : State) (p : Path) (f : CmdPath → CmdPath) : (s.modCmd p f).mon = s.mon := rfl
@[simp] theorem State.modCmd_sessions (s : State) (p : Path) (f : CmdPath → CmdPath) : (s.modCmd p f).sessions = s.sessions := rfl
@[simp] theorem State.modCmd_ports (s : State) (p : Path) (f : CmdPath → CmdPath) : (s.modCmd p f).ports = s.ports := rfl
@[simp] theorem State.modCmd_bmb (s : State) (p : Path) (f : CmdPath → CmdPath) : (s.modCmd p f).bmb = s.bmb := rfl
@[simp] theorem State.modCmd_sec (s : State) (p : Path) (f : CmdPath → CmdPath) : (s.modCmd p f).sec = s.sec := rfl
@[simp] theorem State.modCmd_flt (s : State) (p : Path) (f : CmdPath → CmdPath) : (s.modCmd p f).flt = s.flt := rfl

@[simp] theorem State.modLane_pending (s : State) (i : Nat) (f : Lane → Lane) : (s.modLane i f).pending = s.pending := rfl
@[simp] theorem State.modLane_free (s : State) (i : Nat) (f : Lane → Lane) : (s.modLane i f).free = s.free := rfl
@[simp] theorem State.modLane_out (s : State) (i : Nat) (f : Lane → Lane) : (s.modLane i f).out = s.out := rfl
@[simp] theorem State.modLane_env (s : State) (i : Nat) (f : Lane → Lane) : (s.modLane i f).env = s.env := rfl
@[simp] theorem State.modLane_tb (s : State) (i : Nat) (f : Lane → Lane) : (s.modLane i f).tb = s.tb := rfl
@[simp] theorem State.modLane_op (s : State) (i : Nat) (f : Lane → Lane) : (s.modLane i f).op = s.op := rfl
@[simp] theorem State.modLane_seasons (s : State) (i : Nat) (f : Lane → Lane) : (s.modLane i f).seasons = s.seasons := rfl
@[simp] theorem State.modLane_regs (s : State) (i : Nat) (f : Lane → Lane) : (s.modLane i f).regs = s.regs := rfl
@[simp] theorem State.modLane_mem (s : State) (i : Nat) (f : Lane → Lane) : (s.modLane i f).mem = s.mem := rfl
@[simp] theorem State.modLane_bad (s : State) (i : Nat) (f : Lane → Lane) : (s.modLane i f).bad = s.bad := rfl
@[simp] theorem State.modLane_scrub (s : State) (i : Nat) (f : Lane → Lane) : (s.modLane i f).scrub = s.scrub := rfl
@[simp] theorem State.modLane_banks (s : State) (i : Nat) (f : Lane → Lane) : (s.modLane i f).banks = s.banks := rfl
@[simp] theorem State.modLane_cmds (s : State) (i : Nat) (f : Lane → Lane) : (s.modLane i f).cmds = s.cmds := rfl
@[simp] theorem State.modLane_bmp (s : State) (i : Nat) (f : Lane → Lane) : (s.modLane i f).bmp = s.bmp := rfl
@[simp] theorem State.modLane_job (s : State) (i : Nat) (f : Lane → Lane) : (s.modLane i f).job = s.job := rfl
@[simp] theorem State.modLane_ops (s : State) (i : Nat) (f : Lane → Lane) : (s.modLane i f).ops = s.ops := rfl
@[simp] theorem State.modLane_lanes (s : State) (i : Nat) (f : Lane → Lane) : (s.modLane i f).lanes = modifyNth f i s.lanes := rfl
@[simp] theorem State.modLane_bar (s : State) (i : Nat) (f : Lane → Lane) : (s.modLane i f).bar = s.bar := rfl
@[simp] theorem State.modLane_bcbs (s : State) (i : Nat) (f : Lane → Lane) : (s.modLane i f).bcbs = s.bcbs := rfl
@[simp] theorem State.modLane_encs (s : State) (i : Nat) (f : Lane → Lane) : (s.modLane i f).encs = s.encs := rfl
@[simp] theorem State.modLane_sched (s : State) (i : Nat) (f : Lane → Lane) : (s.modLane i f).sched = s.sched := rfl
@[simp] theorem State.modLane_chains (s : State) (i : Nat) (f : Lane → Lane) : (s.modLane i f).chains = s.chains := rfl
@[simp] theorem State.modLane_drivers (s : State) (i : Nat) (f : Lane → Lane) : (s.modLane i f).drivers = s.drivers := rfl
@[simp] theorem State.modLane_engs (s : State) (i : Nat) (f : Lane → Lane) : (s.modLane i f).engs = s.engs := rfl
@[simp] theorem State.modLane_prod (s : State) (i : Nat) (f : Lane → Lane) : (s.modLane i f).prod = s.prod := rfl
@[simp] theorem State.modLane_ana (s : State) (i : Nat) (f : Lane → Lane) : (s.modLane i f).ana = s.ana := rfl
@[simp] theorem State.modLane_groups (s : State) (i : Nat) (f : Lane → Lane) : (s.modLane i f).groups = s.groups := rfl
@[simp] theorem State.modLane_axes (s : State) (i : Nat) (f : Lane → Lane) : (s.modLane i f).axes = s.axes := rfl
@[simp] theorem State.modLane_scan (s : State) (i : Nat) (f : Lane → Lane) : (s.modLane i f).scan = s.scan := rfl
@[simp] theorem State.modLane_mon (s : State) (i : Nat) (f : Lane → Lane) : (s.modLane i f).mon = s.mon := rfl
@[simp] theorem State.modLane_sessions (s : State) (i : Nat) (f : Lane → Lane) : (s.modLane i f).sessions = s.sessions := rfl
@[simp] theorem State.modLane_ports (s : State) (i : Nat) (f : Lane → Lane) : (s.modLane i f).ports = s.ports := rfl
@[simp] theorem State.modLane_bmb (s : State) (i : Nat) (f : Lane → Lane) : (s.modLane i f).bmb = s.bmb := rfl
@[simp] theorem State.modLane_sec (s : State) (i : Nat) (f : Lane → Lane) : (s.modLane i f).sec = s.sec := rfl
@[simp] theorem State.modLane_flt (s : State) (i : Nat) (f : Lane → Lane) : (s.modLane i f).flt = s.flt := rfl

@[simp] theorem State.modTile_pending (s : State) (i : Nat) (f : TileDev → TileDev) : (s.modTile i f).pending = s.pending := rfl
@[simp] theorem State.modTile_free (s : State) (i : Nat) (f : TileDev → TileDev) : (s.modTile i f).free = s.free := rfl
@[simp] theorem State.modTile_out (s : State) (i : Nat) (f : TileDev → TileDev) : (s.modTile i f).out = s.out := rfl
@[simp] theorem State.modTile_env (s : State) (i : Nat) (f : TileDev → TileDev) : (s.modTile i f).env = s.env := rfl
@[simp] theorem State.modTile_tb (s : State) (i : Nat) (f : TileDev → TileDev) : (s.modTile i f).tb = s.tb := rfl
@[simp] theorem State.modTile_op (s : State) (i : Nat) (f : TileDev → TileDev) : (s.modTile i f).op = s.op := rfl
@[simp] theorem State.modTile_seasons (s : State) (i : Nat) (f : TileDev → TileDev) : (s.modTile i f).seasons = s.seasons := rfl
@[simp] theorem State.modTile_regs (s : State) (i : Nat) (f : TileDev → TileDev) : (s.modTile i f).regs = s.regs := rfl
@[simp] theorem State.modTile_mem (s : State) (i : Nat) (f : TileDev → TileDev) : (s.modTile i f).mem = s.mem := rfl
@[simp] theorem State.modTile_bad (s : State) (i : Nat) (f : TileDev → TileDev) : (s.modTile i f).bad = s.bad := rfl
@[simp] theorem State.modTile_scrub (s : State) (i : Nat) (f : TileDev → TileDev) : (s.modTile i f).scrub = s.scrub := rfl
@[simp] theorem State.modTile_banks (s : State) (i : Nat) (f : TileDev → TileDev) : (s.modTile i f).banks = s.banks := rfl
@[simp] theorem State.modTile_cmds (s : State) (i : Nat) (f : TileDev → TileDev) : (s.modTile i f).cmds = s.cmds := rfl
@[simp] theorem State.modTile_bmp (s : State) (i : Nat) (f : TileDev → TileDev) : (s.modTile i f).bmp = s.bmp := rfl
@[simp] theorem State.modTile_job (s : State) (i : Nat) (f : TileDev → TileDev) : (s.modTile i f).job = s.job := rfl
@[simp] theorem State.modTile_ops (s : State) (i : Nat) (f : TileDev → TileDev) : (s.modTile i f).ops = s.ops := rfl
@[simp] theorem State.modTile_lanes (s : State) (i : Nat) (f : TileDev → TileDev) : (s.modTile i f).lanes = s.lanes := rfl
@[simp] theorem State.modTile_bar (s : State) (i : Nat) (f : TileDev → TileDev) : (s.modTile i f).bar = modifyNth f i s.bar := rfl
@[simp] theorem State.modTile_bcbs (s : State) (i : Nat) (f : TileDev → TileDev) : (s.modTile i f).bcbs = s.bcbs := rfl
@[simp] theorem State.modTile_encs (s : State) (i : Nat) (f : TileDev → TileDev) : (s.modTile i f).encs = s.encs := rfl
@[simp] theorem State.modTile_sched (s : State) (i : Nat) (f : TileDev → TileDev) : (s.modTile i f).sched = s.sched := rfl
@[simp] theorem State.modTile_chains (s : State) (i : Nat) (f : TileDev → TileDev) : (s.modTile i f).chains = s.chains := rfl
@[simp] theorem State.modTile_drivers (s : State) (i : Nat) (f : TileDev → TileDev) : (s.modTile i f).drivers = s.drivers := rfl
@[simp] theorem State.modTile_engs (s : State) (i : Nat) (f : TileDev → TileDev) : (s.modTile i f).engs = s.engs := rfl
@[simp] theorem State.modTile_prod (s : State) (i : Nat) (f : TileDev → TileDev) : (s.modTile i f).prod = s.prod := rfl
@[simp] theorem State.modTile_ana (s : State) (i : Nat) (f : TileDev → TileDev) : (s.modTile i f).ana = s.ana := rfl
@[simp] theorem State.modTile_groups (s : State) (i : Nat) (f : TileDev → TileDev) : (s.modTile i f).groups = s.groups := rfl
@[simp] theorem State.modTile_axes (s : State) (i : Nat) (f : TileDev → TileDev) : (s.modTile i f).axes = s.axes := rfl
@[simp] theorem State.modTile_scan (s : State) (i : Nat) (f : TileDev → TileDev) : (s.modTile i f).scan = s.scan := rfl
@[simp] theorem State.modTile_mon (s : State) (i : Nat) (f : TileDev → TileDev) : (s.modTile i f).mon = s.mon := rfl
@[simp] theorem State.modTile_sessions (s : State) (i : Nat) (f : TileDev → TileDev) : (s.modTile i f).sessions = s.sessions := rfl
@[simp] theorem State.modTile_ports (s : State) (i : Nat) (f : TileDev → TileDev) : (s.modTile i f).ports = s.ports := rfl
@[simp] theorem State.modTile_bmb (s : State) (i : Nat) (f : TileDev → TileDev) : (s.modTile i f).bmb = s.bmb := rfl
@[simp] theorem State.modTile_sec (s : State) (i : Nat) (f : TileDev → TileDev) : (s.modTile i f).sec = s.sec := rfl
@[simp] theorem State.modTile_flt (s : State) (i : Nat) (f : TileDev → TileDev) : (s.modTile i f).flt = s.flt := rfl

@[simp] theorem State.modBcb_pending (s : State) (i : Nat) (f : Bcb → Bcb) : (s.modBcb i f).pending = s.pending := rfl
@[simp] theorem State.modBcb_free (s : State) (i : Nat) (f : Bcb → Bcb) : (s.modBcb i f).free = s.free := rfl
@[simp] theorem State.modBcb_out (s : State) (i : Nat) (f : Bcb → Bcb) : (s.modBcb i f).out = s.out := rfl
@[simp] theorem State.modBcb_env (s : State) (i : Nat) (f : Bcb → Bcb) : (s.modBcb i f).env = s.env := rfl
@[simp] theorem State.modBcb_tb (s : State) (i : Nat) (f : Bcb → Bcb) : (s.modBcb i f).tb = s.tb := rfl
@[simp] theorem State.modBcb_op (s : State) (i : Nat) (f : Bcb → Bcb) : (s.modBcb i f).op = s.op := rfl
@[simp] theorem State.modBcb_seasons (s : State) (i : Nat) (f : Bcb → Bcb) : (s.modBcb i f).seasons = s.seasons := rfl
@[simp] theorem State.modBcb_regs (s : State) (i : Nat) (f : Bcb → Bcb) : (s.modBcb i f).regs = s.regs := rfl
@[simp] theorem State.modBcb_mem (s : State) (i : Nat) (f : Bcb → Bcb) : (s.modBcb i f).mem = s.mem := rfl
@[simp] theorem State.modBcb_bad (s : State) (i : Nat) (f : Bcb → Bcb) : (s.modBcb i f).bad = s.bad := rfl
@[simp] theorem State.modBcb_scrub (s : State) (i : Nat) (f : Bcb → Bcb) : (s.modBcb i f).scrub = s.scrub := rfl
@[simp] theorem State.modBcb_banks (s : State) (i : Nat) (f : Bcb → Bcb) : (s.modBcb i f).banks = s.banks := rfl
@[simp] theorem State.modBcb_cmds (s : State) (i : Nat) (f : Bcb → Bcb) : (s.modBcb i f).cmds = s.cmds := rfl
@[simp] theorem State.modBcb_bmp (s : State) (i : Nat) (f : Bcb → Bcb) : (s.modBcb i f).bmp = s.bmp := rfl
@[simp] theorem State.modBcb_job (s : State) (i : Nat) (f : Bcb → Bcb) : (s.modBcb i f).job = s.job := rfl
@[simp] theorem State.modBcb_ops (s : State) (i : Nat) (f : Bcb → Bcb) : (s.modBcb i f).ops = s.ops := rfl
@[simp] theorem State.modBcb_lanes (s : State) (i : Nat) (f : Bcb → Bcb) : (s.modBcb i f).lanes = s.lanes := rfl
@[simp] theorem State.modBcb_bar (s : State) (i : Nat) (f : Bcb → Bcb) : (s.modBcb i f).bar = s.bar := rfl
@[simp] theorem State.modBcb_bcbs (s : State) (i : Nat) (f : Bcb → Bcb) : (s.modBcb i f).bcbs = modifyNth f i s.bcbs := rfl
@[simp] theorem State.modBcb_encs (s : State) (i : Nat) (f : Bcb → Bcb) : (s.modBcb i f).encs = s.encs := rfl
@[simp] theorem State.modBcb_sched (s : State) (i : Nat) (f : Bcb → Bcb) : (s.modBcb i f).sched = s.sched := rfl
@[simp] theorem State.modBcb_chains (s : State) (i : Nat) (f : Bcb → Bcb) : (s.modBcb i f).chains = s.chains := rfl
@[simp] theorem State.modBcb_drivers (s : State) (i : Nat) (f : Bcb → Bcb) : (s.modBcb i f).drivers = s.drivers := rfl
@[simp] theorem State.modBcb_engs (s : State) (i : Nat) (f : Bcb → Bcb) : (s.modBcb i f).engs = s.engs := rfl
@[simp] theorem State.modBcb_prod (s : State) (i : Nat) (f : Bcb → Bcb) : (s.modBcb i f).prod = s.prod := rfl
@[simp] theorem State.modBcb_ana (s : State) (i : Nat) (f : Bcb → Bcb) : (s.modBcb i f).ana = s.ana := rfl
@[simp] theorem State.modBcb_groups (s : State) (i : Nat) (f : Bcb → Bcb) : (s.modBcb i f).groups = s.groups := rfl
@[simp] theorem State.modBcb_axes (s : State) (i : Nat) (f : Bcb → Bcb) : (s.modBcb i f).axes = s.axes := rfl
@[simp] theorem State.modBcb_scan (s : State) (i : Nat) (f : Bcb → Bcb) : (s.modBcb i f).scan = s.scan := rfl
@[simp] theorem State.modBcb_mon (s : State) (i : Nat) (f : Bcb → Bcb) : (s.modBcb i f).mon = s.mon := rfl
@[simp] theorem State.modBcb_sessions (s : State) (i : Nat) (f : Bcb → Bcb) : (s.modBcb i f).sessions = s.sessions := rfl
@[simp] theorem State.modBcb_ports (s : State) (i : Nat) (f : Bcb → Bcb) : (s.modBcb i f).ports = s.ports := rfl
@[simp] theorem State.modBcb_bmb (s : State) (i : Nat) (f : Bcb → Bcb) : (s.modBcb i f).bmb = s.bmb := rfl
@[simp] theorem State.modBcb_sec (s : State) (i : Nat) (f : Bcb → Bcb) : (s.modBcb i f).sec = s.sec := rfl
@[simp] theorem State.modBcb_flt (s : State) (i : Nat) (f : Bcb → Bcb) : (s.modBcb i f).flt = s.flt := rfl

@[simp] theorem State.modEnc_pending (s : State) (i : Nat) (f : Enc → Enc) : (s.modEnc i f).pending = s.pending := rfl
@[simp] theorem State.modEnc_free (s : State) (i : Nat) (f : Enc → Enc) : (s.modEnc i f).free = s.free := rfl
@[simp] theorem State.modEnc_out (s : State) (i : Nat) (f : Enc → Enc) : (s.modEnc i f).out = s.out := rfl
@[simp] theorem State.modEnc_env (s : State) (i : Nat) (f : Enc → Enc) : (s.modEnc i f).env = s.env := rfl
@[simp] theorem State.modEnc_tb (s : State) (i : Nat) (f : Enc → Enc) : (s.modEnc i f).tb = s.tb := rfl
@[simp] theorem State.modEnc_op (s : State) (i : Nat) (f : Enc → Enc) : (s.modEnc i f).op = s.op := rfl
@[simp] theorem State.modEnc_seasons (s : State) (i : Nat) (f : Enc → Enc) : (s.modEnc i f).seasons = s.seasons := rfl
@[simp] theorem State.modEnc_regs (s : State) (i : Nat) (f : Enc → Enc) : (s.modEnc i f).regs = s.regs := rfl
@[simp] theorem State.modEnc_mem (s : State) (i : Nat) (f : Enc → Enc) : (s.modEnc i f).mem = s.mem := rfl
@[simp] theorem State.modEnc_bad (s : State) (i : Nat) (f : Enc → Enc) : (s.modEnc i f).bad = s.bad := rfl
@[simp] theorem State.modEnc_scrub (s : State) (i : Nat) (f : Enc → Enc) : (s.modEnc i f).scrub = s.scrub := rfl
@[simp] theorem State.modEnc_banks (s : State) (i : Nat) (f : Enc → Enc) : (s.modEnc i f).banks = s.banks := rfl
@[simp] theorem State.modEnc_cmds (s : State) (i : Nat) (f : Enc → Enc) : (s.modEnc i f).cmds = s.cmds := rfl
@[simp] theorem State.modEnc_bmp (s : State) (i : Nat) (f : Enc → Enc) : (s.modEnc i f).bmp = s.bmp := rfl
@[simp] theorem State.modEnc_job (s : State) (i : Nat) (f : Enc → Enc) : (s.modEnc i f).job = s.job := rfl
@[simp] theorem State.modEnc_ops (s : State) (i : Nat) (f : Enc → Enc) : (s.modEnc i f).ops = s.ops := rfl
@[simp] theorem State.modEnc_lanes (s : State) (i : Nat) (f : Enc → Enc) : (s.modEnc i f).lanes = s.lanes := rfl
@[simp] theorem State.modEnc_bar (s : State) (i : Nat) (f : Enc → Enc) : (s.modEnc i f).bar = s.bar := rfl
@[simp] theorem State.modEnc_bcbs (s : State) (i : Nat) (f : Enc → Enc) : (s.modEnc i f).bcbs = s.bcbs := rfl
@[simp] theorem State.modEnc_encs (s : State) (i : Nat) (f : Enc → Enc) : (s.modEnc i f).encs = modifyNth f i s.encs := rfl
@[simp] theorem State.modEnc_sched (s : State) (i : Nat) (f : Enc → Enc) : (s.modEnc i f).sched = s.sched := rfl
@[simp] theorem State.modEnc_chains (s : State) (i : Nat) (f : Enc → Enc) : (s.modEnc i f).chains = s.chains := rfl
@[simp] theorem State.modEnc_drivers (s : State) (i : Nat) (f : Enc → Enc) : (s.modEnc i f).drivers = s.drivers := rfl
@[simp] theorem State.modEnc_engs (s : State) (i : Nat) (f : Enc → Enc) : (s.modEnc i f).engs = s.engs := rfl
@[simp] theorem State.modEnc_prod (s : State) (i : Nat) (f : Enc → Enc) : (s.modEnc i f).prod = s.prod := rfl
@[simp] theorem State.modEnc_ana (s : State) (i : Nat) (f : Enc → Enc) : (s.modEnc i f).ana = s.ana := rfl
@[simp] theorem State.modEnc_groups (s : State) (i : Nat) (f : Enc → Enc) : (s.modEnc i f).groups = s.groups := rfl
@[simp] theorem State.modEnc_axes (s : State) (i : Nat) (f : Enc → Enc) : (s.modEnc i f).axes = s.axes := rfl
@[simp] theorem State.modEnc_scan (s : State) (i : Nat) (f : Enc → Enc) : (s.modEnc i f).scan = s.scan := rfl
@[simp] theorem State.modEnc_mon (s : State) (i : Nat) (f : Enc → Enc) : (s.modEnc i f).mon = s.mon := rfl
@[simp] theorem State.modEnc_sessions (s : State) (i : Nat) (f : Enc → Enc) : (s.modEnc i f).sessions = s.sessions := rfl
@[simp] theorem State.modEnc_ports (s : State) (i : Nat) (f : Enc → Enc) : (s.modEnc i f).ports = s.ports := rfl
@[simp] theorem State.modEnc_bmb (s : State) (i : Nat) (f : Enc → Enc) : (s.modEnc i f).bmb = s.bmb := rfl
@[simp] theorem State.modEnc_sec (s : State) (i : Nat) (f : Enc → Enc) : (s.modEnc i f).sec = s.sec := rfl
@[simp] theorem State.modEnc_flt (s : State) (i : Nat) (f : Enc → Enc) : (s.modEnc i f).flt = s.flt := rfl

@[simp] theorem State.modChain_pending (s : State) (i : Nat) (f : Chain → Chain) : (s.modChain i f).pending = s.pending := rfl
@[simp] theorem State.modChain_free (s : State) (i : Nat) (f : Chain → Chain) : (s.modChain i f).free = s.free := rfl
@[simp] theorem State.modChain_out (s : State) (i : Nat) (f : Chain → Chain) : (s.modChain i f).out = s.out := rfl
@[simp] theorem State.modChain_env (s : State) (i : Nat) (f : Chain → Chain) : (s.modChain i f).env = s.env := rfl
@[simp] theorem State.modChain_tb (s : State) (i : Nat) (f : Chain → Chain) : (s.modChain i f).tb = s.tb := rfl
@[simp] theorem State.modChain_op (s : State) (i : Nat) (f : Chain → Chain) : (s.modChain i f).op = s.op := rfl
@[simp] theorem State.modChain_seasons (s : State) (i : Nat) (f : Chain → Chain) : (s.modChain i f).seasons = s.seasons := rfl
@[simp] theorem State.modChain_regs (s : State) (i : Nat) (f : Chain → Chain) : (s.modChain i f).regs = s.regs := rfl
@[simp] theorem State.modChain_mem (s : State) (i : Nat) (f : Chain → Chain) : (s.modChain i f).mem = s.mem := rfl
@[simp] theorem State.modChain_bad (s : State) (i : Nat) (f : Chain → Chain) : (s.modChain i f).bad = s.bad := rfl
@[simp] theorem State.modChain_scrub (s : State) (i : Nat) (f : Chain → Chain) : (s.modChain i f).scrub = s.scrub := rfl
@[simp] theorem State.modChain_banks (s : State) (i : Nat) (f : Chain → Chain) : (s.modChain i f).banks = s.banks := rfl
@[simp] theorem State.modChain_cmds (s : State) (i : Nat) (f : Chain → Chain) : (s.modChain i f).cmds = s.cmds := rfl
@[simp] theorem State.modChain_bmp (s : State) (i : Nat) (f : Chain → Chain) : (s.modChain i f).bmp = s.bmp := rfl
@[simp] theorem State.modChain_job (s : State) (i : Nat) (f : Chain → Chain) : (s.modChain i f).job = s.job := rfl
@[simp] theorem State.modChain_ops (s : State) (i : Nat) (f : Chain → Chain) : (s.modChain i f).ops = s.ops := rfl
@[simp] theorem State.modChain_lanes (s : State) (i : Nat) (f : Chain → Chain) : (s.modChain i f).lanes = s.lanes := rfl
@[simp] theorem State.modChain_bar (s : State) (i : Nat) (f : Chain → Chain) : (s.modChain i f).bar = s.bar := rfl
@[simp] theorem State.modChain_bcbs (s : State) (i : Nat) (f : Chain → Chain) : (s.modChain i f).bcbs = s.bcbs := rfl
@[simp] theorem State.modChain_encs (s : State) (i : Nat) (f : Chain → Chain) : (s.modChain i f).encs = s.encs := rfl
@[simp] theorem State.modChain_sched (s : State) (i : Nat) (f : Chain → Chain) : (s.modChain i f).sched = s.sched := rfl
@[simp] theorem State.modChain_chains (s : State) (i : Nat) (f : Chain → Chain) : (s.modChain i f).chains = modifyNth f i s.chains := rfl
@[simp] theorem State.modChain_drivers (s : State) (i : Nat) (f : Chain → Chain) : (s.modChain i f).drivers = s.drivers := rfl
@[simp] theorem State.modChain_engs (s : State) (i : Nat) (f : Chain → Chain) : (s.modChain i f).engs = s.engs := rfl
@[simp] theorem State.modChain_prod (s : State) (i : Nat) (f : Chain → Chain) : (s.modChain i f).prod = s.prod := rfl
@[simp] theorem State.modChain_ana (s : State) (i : Nat) (f : Chain → Chain) : (s.modChain i f).ana = s.ana := rfl
@[simp] theorem State.modChain_groups (s : State) (i : Nat) (f : Chain → Chain) : (s.modChain i f).groups = s.groups := rfl
@[simp] theorem State.modChain_axes (s : State) (i : Nat) (f : Chain → Chain) : (s.modChain i f).axes = s.axes := rfl
@[simp] theorem State.modChain_scan (s : State) (i : Nat) (f : Chain → Chain) : (s.modChain i f).scan = s.scan := rfl
@[simp] theorem State.modChain_mon (s : State) (i : Nat) (f : Chain → Chain) : (s.modChain i f).mon = s.mon := rfl
@[simp] theorem State.modChain_sessions (s : State) (i : Nat) (f : Chain → Chain) : (s.modChain i f).sessions = s.sessions := rfl
@[simp] theorem State.modChain_ports (s : State) (i : Nat) (f : Chain → Chain) : (s.modChain i f).ports = s.ports := rfl
@[simp] theorem State.modChain_bmb (s : State) (i : Nat) (f : Chain → Chain) : (s.modChain i f).bmb = s.bmb := rfl
@[simp] theorem State.modChain_sec (s : State) (i : Nat) (f : Chain → Chain) : (s.modChain i f).sec = s.sec := rfl
@[simp] theorem State.modChain_flt (s : State) (i : Nat) (f : Chain → Chain) : (s.modChain i f).flt = s.flt := rfl

@[simp] theorem State.modDriver_pending (s : State) (i : Nat) (f : Driver → Driver) : (s.modDriver i f).pending = s.pending := rfl
@[simp] theorem State.modDriver_free (s : State) (i : Nat) (f : Driver → Driver) : (s.modDriver i f).free = s.free := rfl
@[simp] theorem State.modDriver_out (s : State) (i : Nat) (f : Driver → Driver) : (s.modDriver i f).out = s.out := rfl
@[simp] theorem State.modDriver_env (s : State) (i : Nat) (f : Driver → Driver) : (s.modDriver i f).env = s.env := rfl
@[simp] theorem State.modDriver_tb (s : State) (i : Nat) (f : Driver → Driver) : (s.modDriver i f).tb = s.tb := rfl
@[simp] theorem State.modDriver_op (s : State) (i : Nat) (f : Driver → Driver) : (s.modDriver i f).op = s.op := rfl
@[simp] theorem State.modDriver_seasons (s : State) (i : Nat) (f : Driver → Driver) : (s.modDriver i f).seasons = s.seasons := rfl
@[simp] theorem State.modDriver_regs (s : State) (i : Nat) (f : Driver → Driver) : (s.modDriver i f).regs = s.regs := rfl
@[simp] theorem State.modDriver_mem (s : State) (i : Nat) (f : Driver → Driver) : (s.modDriver i f).mem = s.mem := rfl
@[simp] theorem State.modDriver_bad (s : State) (i : Nat) (f : Driver → Driver) : (s.modDriver i f).bad = s.bad := rfl
@[simp] theorem State.modDriver_scrub (s : State) (i : Nat) (f : Driver → Driver) : (s.modDriver i f).scrub = s.scrub := rfl
@[simp] theorem State.modDriver_banks (s : State) (i : Nat) (f : Driver → Driver) : (s.modDriver i f).banks = s.banks := rfl
@[simp] theorem State.modDriver_cmds (s : State) (i : Nat) (f : Driver → Driver) : (s.modDriver i f).cmds = s.cmds := rfl
@[simp] theorem State.modDriver_bmp (s : State) (i : Nat) (f : Driver → Driver) : (s.modDriver i f).bmp = s.bmp := rfl
@[simp] theorem State.modDriver_job (s : State) (i : Nat) (f : Driver → Driver) : (s.modDriver i f).job = s.job := rfl
@[simp] theorem State.modDriver_ops (s : State) (i : Nat) (f : Driver → Driver) : (s.modDriver i f).ops = s.ops := rfl
@[simp] theorem State.modDriver_lanes (s : State) (i : Nat) (f : Driver → Driver) : (s.modDriver i f).lanes = s.lanes := rfl
@[simp] theorem State.modDriver_bar (s : State) (i : Nat) (f : Driver → Driver) : (s.modDriver i f).bar = s.bar := rfl
@[simp] theorem State.modDriver_bcbs (s : State) (i : Nat) (f : Driver → Driver) : (s.modDriver i f).bcbs = s.bcbs := rfl
@[simp] theorem State.modDriver_encs (s : State) (i : Nat) (f : Driver → Driver) : (s.modDriver i f).encs = s.encs := rfl
@[simp] theorem State.modDriver_sched (s : State) (i : Nat) (f : Driver → Driver) : (s.modDriver i f).sched = s.sched := rfl
@[simp] theorem State.modDriver_chains (s : State) (i : Nat) (f : Driver → Driver) : (s.modDriver i f).chains = s.chains := rfl
@[simp] theorem State.modDriver_drivers (s : State) (i : Nat) (f : Driver → Driver) : (s.modDriver i f).drivers = modifyNth f i s.drivers := rfl
@[simp] theorem State.modDriver_engs (s : State) (i : Nat) (f : Driver → Driver) : (s.modDriver i f).engs = s.engs := rfl
@[simp] theorem State.modDriver_prod (s : State) (i : Nat) (f : Driver → Driver) : (s.modDriver i f).prod = s.prod := rfl
@[simp] theorem State.modDriver_ana (s : State) (i : Nat) (f : Driver → Driver) : (s.modDriver i f).ana = s.ana := rfl
@[simp] theorem State.modDriver_groups (s : State) (i : Nat) (f : Driver → Driver) : (s.modDriver i f).groups = s.groups := rfl
@[simp] theorem State.modDriver_axes (s : State) (i : Nat) (f : Driver → Driver) : (s.modDriver i f).axes = s.axes := rfl
@[simp] theorem State.modDriver_scan (s : State) (i : Nat) (f : Driver → Driver) : (s.modDriver i f).scan = s.scan := rfl
@[simp] theorem State.modDriver_mon (s : State) (i : Nat) (f : Driver → Driver) : (s.modDriver i f).mon = s.mon := rfl
@[simp] theorem State.modDriver_sessions (s : State) (i : Nat) (f : Driver → Driver) : (s.modDriver i f).sessions = s.sessions := rfl
@[simp] theorem State.modDriver_ports (s : State) (i : Nat) (f : Driver → Driver) : (s.modDriver i f).ports = s.ports := rfl
@[simp] theorem State.modDriver_bmb (s : State) (i : Nat) (f : Driver → Driver) : (s.modDriver i f).bmb = s.bmb := rfl
@[simp] theorem State.modDriver_sec (s : State) (i : Nat) (f : Driver → Driver) : (s.modDriver i f).sec = s.sec := rfl
@[simp] theorem State.modDriver_flt (s : State) (i : Nat) (f : Driver → Driver) : (s.modDriver i f).flt = s.flt := rfl

@[simp] theorem State.modEng_pending (s : State) (i : Nat) (f : Eng → Eng) : (s.modEng i f).pending = s.pending := rfl
@[simp] theorem State.modEng_free (s : State) (i : Nat) (f : Eng → Eng) : (s.modEng i f).free = s.free := rfl
@[simp] theorem State.modEng_out (s : State) (i : Nat) (f : Eng → Eng) : (s.modEng i f).out = s.out := rfl
@[simp] theorem State.modEng_env (s : State) (i : Nat) (f : Eng → Eng) : (s.modEng i f).env = s.env := rfl
@[simp] theorem State.modEng_tb (s : State) (i : Nat) (f : Eng → Eng) : (s.modEng i f).tb = s.tb := rfl
@[simp] theorem State.modEng_op (s : State) (i : Nat) (f : Eng → Eng) : (s.modEng i f).op = s.op := rfl
@[simp] theorem State.modEng_seasons (s : State) (i : Nat) (f : Eng → Eng) : (s.modEng i f).seasons = s.seasons := rfl
@[simp] theorem State.modEng_regs (s : State) (i : Nat) (f : Eng → Eng) : (s.modEng i f).regs = s.regs := rfl
@[simp] theorem State.modEng_mem (s : State) (i : Nat) (f : Eng → Eng) : (s.modEng i f).mem = s.mem := rfl
@[simp] theorem State.modEng_bad (s : State) (i : Nat) (f : Eng → Eng) : (s.modEng i f).bad = s.bad := rfl
@[simp] theorem State.modEng_scrub (s : State) (i : Nat) (f : Eng → Eng) : (s.modEng i f).scrub = s.scrub := rfl
@[simp] theorem State.modEng_banks (s : State) (i : Nat) (f : Eng → Eng) : (s.modEng i f).banks = s.banks := rfl
@[simp] theorem State.modEng_cmds (s : State) (i : Nat) (f : Eng → Eng) : (s.modEng i f).cmds = s.cmds := rfl
@[simp] theorem State.modEng_bmp (s : State) (i : Nat) (f : Eng → Eng) : (s.modEng i f).bmp = s.bmp := rfl
@[simp] theorem State.modEng_job (s : State) (i : Nat) (f : Eng → Eng) : (s.modEng i f).job = s.job := rfl
@[simp] theorem State.modEng_ops (s : State) (i : Nat) (f : Eng → Eng) : (s.modEng i f).ops = s.ops := rfl
@[simp] theorem State.modEng_lanes (s : State) (i : Nat) (f : Eng → Eng) : (s.modEng i f).lanes = s.lanes := rfl
@[simp] theorem State.modEng_bar (s : State) (i : Nat) (f : Eng → Eng) : (s.modEng i f).bar = s.bar := rfl
@[simp] theorem State.modEng_bcbs (s : State) (i : Nat) (f : Eng → Eng) : (s.modEng i f).bcbs = s.bcbs := rfl
@[simp] theorem State.modEng_encs (s : State) (i : Nat) (f : Eng → Eng) : (s.modEng i f).encs = s.encs := rfl
@[simp] theorem State.modEng_sched (s : State) (i : Nat) (f : Eng → Eng) : (s.modEng i f).sched = s.sched := rfl
@[simp] theorem State.modEng_chains (s : State) (i : Nat) (f : Eng → Eng) : (s.modEng i f).chains = s.chains := rfl
@[simp] theorem State.modEng_drivers (s : State) (i : Nat) (f : Eng → Eng) : (s.modEng i f).drivers = s.drivers := rfl
@[simp] theorem State.modEng_engs (s : State) (i : Nat) (f : Eng → Eng) : (s.modEng i f).engs = modifyNth f i s.engs := rfl
@[simp] theorem State.modEng_prod (s : State) (i : Nat) (f : Eng → Eng) : (s.modEng i f).prod = s.prod := rfl
@[simp] theorem State.modEng_ana (s : State) (i : Nat) (f : Eng → Eng) : (s.modEng i f).ana = s.ana := rfl
@[simp] theorem State.modEng_groups (s : State) (i : Nat) (f : Eng → Eng) : (s.modEng i f).groups = s.groups := rfl
@[simp] theorem State.modEng_axes (s : State) (i : Nat) (f : Eng → Eng) : (s.modEng i f).axes = s.axes := rfl
@[simp] theorem State.modEng_scan (s : State) (i : Nat) (f : Eng → Eng) : (s.modEng i f).scan = s.scan := rfl
@[simp] theorem State.modEng_mon (s : State) (i : Nat) (f : Eng → Eng) : (s.modEng i f).mon = s.mon := rfl
@[simp] theorem State.modEng_sessions (s : State) (i : Nat) (f : Eng → Eng) : (s.modEng i f).sessions = s.sessions := rfl
@[simp] theorem State.modEng_ports (s : State) (i : Nat) (f : Eng → Eng) : (s.modEng i f).ports = s.ports := rfl
@[simp] theorem State.modEng_bmb (s : State) (i : Nat) (f : Eng → Eng) : (s.modEng i f).bmb = s.bmb := rfl
@[simp] theorem State.modEng_sec (s : State) (i : Nat) (f : Eng → Eng) : (s.modEng i f).sec = s.sec := rfl
@[simp] theorem State.modEng_flt (s : State) (i : Nat) (f : Eng → Eng) : (s.modEng i f).flt = s.flt := rfl

@[simp] theorem State.modAxis_pending (s : State) (i : Nat) (f : Axis → Axis) : (s.modAxis i f).pending = s.pending := rfl
@[simp] theorem State.modAxis_free (s : State) (i : Nat) (f : Axis → Axis) : (s.modAxis i f).free = s.free := rfl
@[simp] theorem State.modAxis_out (s : State) (i : Nat) (f : Axis → Axis) : (s.modAxis i f).out = s.out := rfl
@[simp] theorem State.modAxis_env (s : State) (i : Nat) (f : Axis → Axis) : (s.modAxis i f).env = s.env := rfl
@[simp] theorem State.modAxis_tb (s : State) (i : Nat) (f : Axis → Axis) : (s.modAxis i f).tb = s.tb := rfl
@[simp] theorem State.modAxis_op (s : State) (i : Nat) (f : Axis → Axis) : (s.modAxis i f).op = s.op := rfl
@[simp] theorem State.modAxis_seasons (s : State) (i : Nat) (f : Axis → Axis) : (s.modAxis i f).seasons = s.seasons := rfl
@[simp] theorem State.modAxis_regs (s : State) (i : Nat) (f : Axis → Axis) : (s.modAxis i f).regs = s.regs := rfl
@[simp] theorem State.modAxis_mem (s : State) (i : Nat) (f : Axis → Axis) : (s.modAxis i f).mem = s.mem := rfl
@[simp] theorem State.modAxis_bad (s : State) (i : Nat) (f : Axis → Axis) : (s.modAxis i f).bad = s.bad := rfl
@[simp] theorem State.modAxis_scrub (s : State) (i : Nat) (f : Axis → Axis) : (s.modAxis i f).scrub = s.scrub := rfl
@[simp] theorem State.modAxis_banks (s : State) (i : Nat) (f : Axis → Axis) : (s.modAxis i f).banks = s.banks := rfl
@[simp] theorem State.modAxis_cmds (s : State) (i : Nat) (f : Axis → Axis) : (s.modAxis i f).cmds = s.cmds := rfl
@[simp] theorem State.modAxis_bmp (s : State) (i : Nat) (f : Axis → Axis) : (s.modAxis i f).bmp = s.bmp := rfl
@[simp] theorem State.modAxis_job (s : State) (i : Nat) (f : Axis → Axis) : (s.modAxis i f).job = s.job := rfl
@[simp] theorem State.modAxis_ops (s : State) (i : Nat) (f : Axis → Axis) : (s.modAxis i f).ops = s.ops := rfl
@[simp] theorem State.modAxis_lanes (s : State) (i : Nat) (f : Axis → Axis) : (s.modAxis i f).lanes = s.lanes := rfl
@[simp] theorem State.modAxis_bar (s : State) (i : Nat) (f : Axis → Axis) : (s.modAxis i f).bar = s.bar := rfl
@[simp] theorem State.modAxis_bcbs (s : State) (i : Nat) (f : Axis → Axis) : (s.modAxis i f).bcbs = s.bcbs := rfl
@[simp] theorem State.modAxis_encs (s : State) (i : Nat) (f : Axis → Axis) : (s.modAxis i f).encs = s.encs := rfl
@[simp] theorem State.modAxis_sched (s : State) (i : Nat) (f : Axis → Axis) : (s.modAxis i f).sched = s.sched := rfl
@[simp] theorem State.modAxis_chains (s : State) (i : Nat) (f : Axis → Axis) : (s.modAxis i f).chains = s.chains := rfl
@[simp] theorem State.modAxis_drivers (s : State) (i : Nat) (f : Axis → Axis) : (s.modAxis i f).drivers = s.drivers := rfl
@[simp] theorem State.modAxis_engs (s : State) (i : Nat) (f : Axis → Axis) : (s.modAxis i f).engs = s.engs := rfl
@[simp] theorem State.modAxis_prod (s : State) (i : Nat) (f : Axis → Axis) : (s.modAxis i f).prod = s.prod := rfl
@[simp] theorem State.modAxis_ana (s : State) (i : Nat) (f : Axis → Axis) : (s.modAxis i f).ana = s.ana := rfl
@[simp] theorem State.modAxis_groups (s : State) (i : Nat) (f : Axis → Axis) : (s.modAxis i f).groups = s.groups := rfl
@[simp] theorem State.modAxis_axes (s : State) (i : Nat) (f : Axis → Axis) : (s.modAxis i f).axes = modifyNth f i s.axes := rfl
@[simp] theorem State.modAxis_scan (s : State) (i : Nat) (f : Axis → Axis) : (s.modAxis i f).scan = s.scan := rfl
@[simp] theorem State.modAxis_mon (s : State) (i : Nat) (f : Axis → Axis) : (s.modAxis i f).mon = s.mon := rfl
@[simp] theorem State.modAxis_sessions (s : State) (i : Nat) (f : Axis → Axis) : (s.modAxis i f).sessions = s.sessions := rfl
@[simp] theorem State.modAxis_ports (s : State) (i : Nat) (f : Axis → Axis) : (s.modAxis i f).ports = s.ports := rfl
@[simp] theorem State.modAxis_bmb (s : State) (i : Nat) (f : Axis → Axis) : (s.modAxis i f).bmb = s.bmb := rfl
@[simp] theorem State.modAxis_sec (s : State) (i : Nat) (f : Axis → Axis) : (s.modAxis i f).sec = s.sec := rfl
@[simp] theorem State.modAxis_flt (s : State) (i : Nat) (f : Axis → Axis) : (s.modAxis i f).flt = s.flt := rfl

@[simp] theorem State.modSess_pending (s : State) (i : Nat) (f : Session → Session) : (s.modSess i f).pending = s.pending := rfl
@[simp] theorem State.modSess_free (s : State) (i : Nat) (f : Session → Session) : (s.modSess i f).free = s.free := rfl
@[simp] theorem State.modSess_out (s : State) (i : Nat) (f : Session → Session) : (s.modSess i f).out = s.out := rfl
@[simp] theorem State.modSess_env (s : State) (i : Nat) (f : Session → Session) : (s.modSess i f).env = s.env := rfl
@[simp] theorem State.modSess_tb (s : State) (i : Nat) (f : Session → Session) : (s.modSess i f).tb = s.tb := rfl
@[simp] theorem State.modSess_op (s : State) (i : Nat) (f : Session → Session) : (s.modSess i f).op = s.op := rfl
@[simp] theorem State.modSess_seasons (s : State) (i : Nat) (f : Session → Session) : (s.modSess i f).seasons = s.seasons := rfl
@[simp] theorem State.modSess_regs (s : State) (i : Nat) (f : Session → Session) : (s.modSess i f).regs = s.regs := rfl
@[simp] theorem State.modSess_mem (s : State) (i : Nat) (f : Session → Session) : (s.modSess i f).mem = s.mem := rfl
@[simp] theorem State.modSess_bad (s : State) (i : Nat) (f : Session → Session) : (s.modSess i f).bad = s.bad := rfl
@[simp] theorem State.modSess_scrub (s : State) (i : Nat) (f : Session → Session) : (s.modSess i f).scrub = s.scrub := rfl
@[simp] theorem State.modSess_banks (s : State) (i : Nat) (f : Session → Session) : (s.modSess i f).banks = s.banks := rfl
@[simp] theorem State.modSess_cmds (s : State) (i : Nat) (f : Session → Session) : (s.modSess i f).cmds = s.cmds := rfl
@[simp] theorem State.modSess_bmp (s : State) (i : Nat) (f : Session → Session) : (s.modSess i f).bmp = s.bmp := rfl
@[simp] theorem State.modSess_job (s : State) (i : Nat) (f : Session → Session) : (s.modSess i f).job = s.job := rfl
@[simp] theorem State.modSess_ops (s : State) (i : Nat) (f : Session → Session) : (s.modSess i f).ops = s.ops := rfl
@[simp] theorem State.modSess_lanes (s : State) (i : Nat) (f : Session → Session) : (s.modSess i f).lanes = s.lanes := rfl
@[simp] theorem State.modSess_bar (s : State) (i : Nat) (f : Session → Session) : (s.modSess i f).bar = s.bar := rfl
@[simp] theorem State.modSess_bcbs (s : State) (i : Nat) (f : Session → Session) : (s.modSess i f).bcbs = s.bcbs := rfl
@[simp] theorem State.modSess_encs (s : State) (i : Nat) (f : Session → Session) : (s.modSess i f).encs = s.encs := rfl
@[simp] theorem State.modSess_sched (s : State) (i : Nat) (f : Session → Session) : (s.modSess i f).sched = s.sched := rfl
@[simp] theorem State.modSess_chains (s : State) (i : Nat) (f : Session → Session) : (s.modSess i f).chains = s.chains := rfl
@[simp] theorem State.modSess_drivers (s : State) (i : Nat) (f : Session → Session) : (s.modSess i f).drivers = s.drivers := rfl
@[simp] theorem State.modSess_engs (s : State) (i : Nat) (f : Session → Session) : (s.modSess i f).engs = s.engs := rfl
@[simp] theorem State.modSess_prod (s : State) (i : Nat) (f : Session → Session) : (s.modSess i f).prod = s.prod := rfl
@[simp] theorem State.modSess_ana (s : State) (i : Nat) (f : Session → Session) : (s.modSess i f).ana = s.ana := rfl
@[simp] theorem State.modSess_groups (s : State) (i : Nat) (f : Session → Session) : (s.modSess i f).groups = s.groups := rfl
@[simp] theorem State.modSess_axes (s : State) (i : Nat) (f : Session → Session) : (s.modSess i f).axes = s.axes := rfl
@[simp] theorem State.modSess_scan (s : State) (i : Nat) (f : Session → Session) : (s.modSess i f).scan = s.scan := rfl
@[simp] theorem State.modSess_mon (s : State) (i : Nat) (f : Session → Session) : (s.modSess i f).mon = s.mon := rfl
@[simp] theorem State.modSess_sessions (s : State) (i : Nat) (f : Session → Session) : (s.modSess i f).sessions = modifyNth f i s.sessions := rfl
@[simp] theorem State.modSess_ports (s : State) (i : Nat) (f : Session → Session) : (s.modSess i f).ports = s.ports := rfl
@[simp] theorem State.modSess_bmb (s : State) (i : Nat) (f : Session → Session) : (s.modSess i f).bmb = s.bmb := rfl
@[simp] theorem State.modSess_sec (s : State) (i : Nat) (f : Session → Session) : (s.modSess i f).sec = s.sec := rfl
@[simp] theorem State.modSess_flt (s : State) (i : Nat) (f : Session → Session) : (s.modSess i f).flt = s.flt := rfl

@[simp] theorem State.modPort_pending (s : State) (i : Nat) (f : Port → Port) : (s.modPort i f).pending = s.pending := rfl
@[simp] theorem State.modPort_free (s : State) (i : Nat) (f : Port → Port) : (s.modPort i f).free = s.free := rfl
@[simp] theorem State.modPort_out (s : State) (i : Nat) (f : Port → Port) : (s.modPort i f).out = s.out := rfl
@[simp] theorem State.modPort_env (s : State) (i : Nat) (f : Port → Port) : (s.modPort i f).env = s.env := rfl
@[simp] theorem State.modPort_tb (s : State) (i : Nat) (f : Port → Port) : (s.modPort i f).tb = s.tb := rfl
@[simp] theorem State.modPort_op (s : State) (i : Nat) (f : Port → Port) : (s.modPort i f).op = s.op := rfl
@[simp] theorem State.modPort_seasons (s : State) (i : Nat) (f : Port → Port) : (s.modPort i f).seasons = s.seasons := rfl
@[simp] theorem State.modPort_regs (s : State) (i : Nat) (f : Port → Port) : (s.modPort i f).regs = s.regs := rfl
@[simp] theorem State.modPort_mem (s : State) (i : Nat) (f : Port → Port) : (s.modPort i f).mem = s.mem := rfl
@[simp] theorem State.modPort_bad (s : State) (i : Nat) (f : Port → Port) : (s.modPort i f).bad = s.bad := rfl
@[simp] theorem State.modPort_scrub (s : State) (i : Nat) (f : Port → Port) : (s.modPort i f).scrub = s.scrub := rfl
@[simp] theorem State.modPort_banks (s : State) (i : Nat) (f : Port → Port) : (s.modPort i f).banks = s.banks := rfl
@[simp] theorem State.modPort_cmds (s : State) (i : Nat) (f : Port → Port) : (s.modPort i f).cmds = s.cmds := rfl
@[simp] theorem State.modPort_bmp (s : State) (i : Nat) (f : Port → Port) : (s.modPort i f).bmp = s.bmp := rfl
@[simp] theorem State.modPort_job (s : State) (i : Nat) (f : Port → Port) : (s.modPort i f).job = s.job := rfl
@[simp] theorem State.modPort_ops (s : State) (i : Nat) (f : Port → Port) : (s.modPort i f).ops = s.ops := rfl
@[simp] theorem State.modPort_lanes (s : State) (i : Nat) (f : Port → Port) : (s.modPort i f).lanes = s.lanes := rfl
@[simp] theorem State.modPort_bar (s : State) (i : Nat) (f : Port → Port) : (s.modPort i f).bar = s.bar := rfl
@[simp] theorem State.modPort_bcbs (s : State) (i : Nat) (f : Port → Port) : (s.modPort i f).bcbs = s.bcbs := rfl
@[simp] theorem State.modPort_encs (s : State) (i : Nat) (f : Port → Port) : (s.modPort i f).encs = s.encs := rfl
@[simp] theorem State.modPort_sched (s : State) (i : Nat) (f : Port → Port) : (s.modPort i f).sched = s.sched := rfl
@[simp] theorem State.modPort_chains (s : State) (i : Nat) (f : Port → Port) : (s.modPort i f).chains = s.chains := rfl
@[simp] theorem State.modPort_drivers (s : State) (i : Nat) (f : Port → Port) : (s.modPort i f).drivers = s.drivers := rfl
@[simp] theorem State.modPort_engs (s : State) (i : Nat) (f : Port → Port) : (s.modPort i f).engs = s.engs := rfl
@[simp] theorem State.modPort_prod (s : State) (i : Nat) (f : Port → Port) : (s.modPort i f).prod = s.prod := rfl
@[simp] theorem State.modPort_ana (s : State) (i : Nat) (f : Port → Port) : (s.modPort i f).ana = s.ana := rfl
@[simp] theorem State.modPort_groups (s : State) (i : Nat) (f : Port → Port) : (s.modPort i f).groups = s.groups := rfl
@[simp] theorem State.modPort_axes (s : State) (i : Nat) (f : Port → Port) : (s.modPort i f).axes = s.axes := rfl
@[simp] theorem State.modPort_scan (s : State) (i : Nat) (f : Port → Port) : (s.modPort i f).scan = s.scan := rfl
@[simp] theorem State.modPort_mon (s : State) (i : Nat) (f : Port → Port) : (s.modPort i f).mon = s.mon := rfl
@[simp] theorem State.modPort_sessions (s : State) (i : Nat) (f : Port → Port) : (s.modPort i f).sessions = s.sessions := rfl
@[simp] theorem State.modPort_ports (s : State) (i : Nat) (f : Port → Port) : (s.modPort i f).ports = modifyNth f i s.ports := rfl
@[simp] theorem State.modPort_bmb (s : State) (i : Nat) (f : Port → Port) : (s.modPort i f).bmb = s.bmb := rfl
@[simp] theorem State.modPort_sec (s : State) (i : Nat) (f : Port → Port) : (s.modPort i f).sec = s.sec := rfl
@[simp] theorem State.modPort_flt (s : State) (i : Nat) (f : Port → Port) : (s.modPort i f).flt = s.flt := rfl

end Sys2Proof.Machine
end

