-- ==== Sys2Proof/Laws/Ops.lean ====
section
/-! SUPPORT. What the shared operations do, once each: tables, the end of a command, burgees, and how a row runs. -/

namespace Sys2Proof.Machine

/-! Tables. -/

@[simp] theorem length_modifyNth {α : Type} (f : α → α) : ∀ (i : Nat) (l : List α), (modifyNth f i l).length = l.length
  | _, [] => by simp [modifyNth]
  | 0, _ :: _ => by simp [modifyNth]
  | i + 1, _ :: l => by simp [modifyNth, length_modifyNth f i l]

theorem getElem?_modifyNth {α : Type} (f : α → α) : ∀ (i j : Nat) (l : List α),
    (modifyNth f i l)[j]? = if i = j then l[j]?.map f else l[j]?
  | _, _, [] => by simp [modifyNth]
  | 0, 0, _ :: _ => by simp [modifyNth]
  | 0, _ + 1, _ :: _ => by simp [modifyNth]
  | _ + 1, 0, _ :: _ => by simp [modifyNth]
  | i + 1, j + 1, _ :: l => by simp [modifyNth, getElem?_modifyNth f i j l]

theorem nthD_modifyNth_same {α : Type} (d : α) (f : α → α) (i : Nat) (l : List α) (h : i < l.length) :
    nthD d (modifyNth f i l) i = f (nthD d l i) := by
  simp [nthD, getElem?_modifyNth, List.getElem?_eq_getElem h]

theorem nthD_modifyNth_other {α : Type} (d : α) (f : α → α) {i j : Nat} (l : List α) (h : i ≠ j) :
    nthD d (modifyNth f i l) j = nthD d l j := by simp [nthD, getElem?_modifyNth, h]

/-- Two changes of one entry. -/
theorem modifyNth_modifyNth {α : Type} (f g : α → α) : ∀ (i : Nat) (l : List α),
    modifyNth f i (modifyNth g i l) = modifyNth (fun x => f (g x)) i l
  | _, [] => by simp [modifyNth]
  | 0, _ :: _ => by simp [modifyNth]
  | i + 1, _ :: l => by simp [modifyNth, modifyNth_modifyNth f g i l]

/-- A change that leaves the entry as it is. -/
theorem modifyNth_self {α : Type} (d : α) (f : α → α) : ∀ (i : Nat) (l : List α), f (nthD d l i) = nthD d l i → modifyNth f i l = l
  | _, [], _ => by simp [modifyNth]
  | 0, a :: l, h => by simpa [modifyNth, nthD] using h
  | i + 1, a :: l, h => by simpa [modifyNth] using modifyNth_self d f i l (by simpa [nthD] using h)

theorem State.cmd_modCmd_same (s : State) (p : Path) (f : CmdPath → CmdPath) (h : pathIdx p < s.cmds.length) :
    (s.modCmd p f).cmd p = f (s.cmd p) := nthD_modifyNth_same _ _ _ _ h
theorem State.bank_modBank_same (s : State) (p : Path) (f : Bank → Bank) (h : pathIdx p < s.banks.length) :
    (s.modBank p f).bank p = f (s.bank p) := nthD_modifyNth_same _ _ _ _ h
theorem State.lane_modLane_same (s : State) (i : Nat) (f : Lane → Lane) (h : i < s.lanes.length) :
    (s.modLane i f).lane i = f (s.lane i) := nthD_modifyNth_same _ _ _ _ h
theorem State.lane_modLane_other (s : State) {i j : Nat} (f : Lane → Lane) (h : i ≠ j) :
    (s.modLane i f).lane j = s.lane j := nthD_modifyNth_other _ _ _ h
theorem State.tile_modTile_same (s : State) (i : Nat) (f : TileDev → TileDev) (h : i < s.bar.length) :
    (s.modTile i f).tile i = f (s.tile i) := nthD_modifyNth_same _ _ _ _ h
theorem State.tile_modTile_other (s : State) {i j : Nat} (f : TileDev → TileDev) (h : i ≠ j) :
    (s.modTile i f).tile j = s.tile j := nthD_modifyNth_other _ _ _ h
theorem State.bcb_modBcb_same (s : State) (g : Nat) (f : Bcb → Bcb) (h : g < s.bcbs.length) :
    (s.modBcb g f).bcb g = f (s.bcb g) := nthD_modifyNth_same _ _ _ _ h
theorem State.enc_modEnc_same (s : State) (k : Nat) (f : Enc → Enc) (h : k < s.encs.length) :
    (s.modEnc k f).enc k = f (s.enc k) := nthD_modifyNth_same _ _ _ _ h
theorem State.enc_modEnc_other (s : State) {k j : Nat} (f : Enc → Enc) (h : k ≠ j) :
    (s.modEnc k f).enc j = s.enc j := nthD_modifyNth_other _ _ _ h
theorem State.chain_modChain_same (s : State) (c : Nat) (f : Chain → Chain) (h : c < s.chains.length) :
    (s.modChain c f).chain c = f (s.chain c) := nthD_modifyNth_same _ _ _ _ h
theorem State.chain_modChain_other (s : State) {c j : Nat} (f : Chain → Chain) (h : c ≠ j) :
    (s.modChain c f).chain j = s.chain j := nthD_modifyNth_other _ _ _ h
theorem State.driver_modDriver_same (s : State) (d : Nat) (f : Driver → Driver) (h : d < s.drivers.length) :
    (s.modDriver d f).driver d = f (s.driver d) := nthD_modifyNth_same _ _ _ _ h
theorem State.driver_modDriver_other (s : State) {d j : Nat} (f : Driver → Driver) (h : d ≠ j) :
    (s.modDriver d f).driver j = s.driver j := nthD_modifyNth_other _ _ _ h
theorem State.eng_modEng_same (s : State) (i : Nat) (f : Eng → Eng) (h : i < s.engs.length) :
    (s.modEng i f).eng i = f (s.eng i) := nthD_modifyNth_same _ _ _ _ h
theorem State.eng_modEng_other (s : State) {i j : Nat} (f : Eng → Eng) (h : i ≠ j) :
    (s.modEng i f).eng j = s.eng j := nthD_modifyNth_other _ _ _ h
theorem State.group_modGroup_same (s : State) (g : Nat) (f : Group → Group) (h : g < s.groups.length) :
    (s.modGroup g f).group g = f (s.group g) := nthD_modifyNth_same _ _ _ _ h
theorem State.group_modGroup_other (s : State) {g j : Nat} (f : Group → Group) (h : g ≠ j) :
    (s.modGroup g f).group j = s.group j := nthD_modifyNth_other _ _ _ h
theorem State.axis_modAxis_same (s : State) (x : Nat) (f : Axis → Axis) (h : x < s.axes.length) :
    (s.modAxis x f).axis x = f (s.axis x) := nthD_modifyNth_same _ _ _ _ h
theorem State.axis_modAxis_other (s : State) {x j : Nat} (f : Axis → Axis) (h : x ≠ j) :
    (s.modAxis x f).axis j = s.axis j := nthD_modifyNth_other _ _ _ h
theorem State.session_modSess_same (s : State) (k : Nat) (f : Session → Session) (h : k < s.sessions.length) :
    (s.modSess k f).session k = f (s.session k) := nthD_modifyNth_same _ _ _ _ h
theorem State.session_modSess_other (s : State) {k j : Nat} (f : Session → Session) (h : k ≠ j) :
    (s.modSess k f).session j = s.session j := nthD_modifyNth_other _ _ _ h
theorem State.port_modPort_same (s : State) (q : Nat) (f : Port → Port) (h : q < s.ports.length) :
    (s.modPort q f).port q = f (s.port q) := nthD_modifyNth_same _ _ _ _ h
theorem State.port_modPort_other (s : State) {q j : Nat} (f : Port → Port) (h : q ≠ j) :
    (s.modPort q f).port j = s.port j := nthD_modifyNth_other _ _ _ h

/-! The end of a command. -/

/-- The end of a command leaves the canonical forms, whatever its effect. -/
theorem State.finish_inv (s m : State) : (State.finish s m).Inv := ⟨Memory.wf_tidy m.mem, Regs.wf_tidy m.regs⟩

@[simp] theorem State.finish_pending (s m : State) : (State.finish s m).pending = s.pending := rfl
@[simp] theorem State.finish_tb (s m : State) : (State.finish s m).tb = max s.tb m.tb := rfl

/-- A state in its canonical forms, with the queue and no earlier time, is left as it is. -/
theorem State.finish_of_inv {s m : State} (hp : m.pending = s.pending) (ht : s.tb ≤ m.tb) (hi : m.Inv) :
    State.finish s m = m := by
  unfold State.finish
  rw [Memory.tidy_of_wf hi.1, Regs.tidy_of_wf hi.2, Nat.max_eq_right ht, ← hp]

/-! How a row runs. -/

/-- With nothing to run on, a state rests. -/
theorem settle_of_quiet {s : State} (h : s.quiet = true) : settle s = s := by simp [settle, h]

theorem onEvent_eq (s : State) (t : Nat) (f : State → State) : onEvent s t f = .next (s.rest ((s.at t).awake f)) := rfl
theorem onSelf_eq (s : State) (t : Nat) (f : State → State) : onSelf s t f = .next (s.rest (f (s.at t))) := rfl
theorem onPath_eq (s : State) (p : Path) (op : Nat) (pl : List Byte) :
    onPath s p op pl = .next (s.rest (s.rowCommand p op pl)) := rfl

/-- A row's command that its path cannot take has no effect (15_command_set.md R401, 18_power_startup.md R450). -/
theorem State.rowCommand_idle {s : State} {p : Path} (op : Nat) (pl : List Byte)
    (h : s.asleep = true ∨ s.pathOpen p = false ∨ (s.cmd p).run.isSome = true) : s.rowCommand p op pl = s := by
  unfold State.rowCommand
  rcases h with h | h | h <;> simp [h]

/-- A row's command that its path takes begins (15_command_set.md R401). -/
theorem State.rowCommand_begin {s : State} {p : Path} (op : Nat) (pl : List Byte) (ha : s.asleep = false)
    (ho : s.pathOpen p = true) (hr : (s.cmd p).run = none) :
    s.rowCommand p op pl = s.beginCmd p { op := op, direct := true } pl := by simp [State.rowCommand, ha, ho, hr]

/-- With no command running, a reply goes nowhere. -/
theorem State.sendReply_none {s : State} {p : Path} (r : Rsp) (h : (s.cmd p).run = none) : s.sendReply p r = s := by
  simp [State.sendReply, h]

/-- The reply of a row's command is recorded, and the path is free again. -/
theorem State.sendReply_direct {s : State} {p : Path} {h : Hdr} (r : Rsp) (hr : (s.cmd p).run = some h) (hd : h.direct = true) :
    s.sendReply p r = (s.modCmd p (fun c => { c with run := none })).emit (.reply p h.op r.status r.detail r.payload) := by
  simp [State.sendReply, hr, hd]

/-- Time that has not passed. -/
@[simp] theorem State.at_self (s : State) : s.at s.tb = s := by simp [State.at]

/-- What legality and length say of a command does not depend on its header standing on the path. -/
theorem State.begun_legal (s : State) (p q : Path) (op op' : Nat) : (s.begun p op).legal q op' = s.legal q op' := rfl

/-- The path is free again once the command has been answered. -/
theorem State.begun_free {s : State} {p : Path} (op : Nat) (hr : (s.cmd p).run = none) :
    modifyNth (fun c => { c with run := none }) (pathIdx p) (s.begun p op).cmds = s.cmds := by
  unfold State.begun State.modCmd
  rw [modifyNth_modifyNth]
  refine modifyNth_self {} _ _ _ ?_
  change { s.cmd p with run := none } = s.cmd p
  rw [← hr]

/-- The header stands on the path while the command runs. -/
theorem State.begun_run {s : State} {p : Path} (op : Nat) (hp : pathIdx p < s.cmds.length) :
    ((s.begun p op).cmd p).run = some { op := op, direct := true } := by
  unfold State.begun
  rw [State.cmd_modCmd_same s p _ hp]

/-- A command that its path takes, that succeeds with a payload and leaves the command paths alone: it is answered OK, and the path is
free as it was. What follows the reply of SESSION_CLOSE, SEASON_SET and FW_COMMIT is their own. -/
theorem State.rowCommand_answers {s m : State} {p : Path} {op : Nat} {pl d : List Byte} (ht : s.takes p op pl)
    (hr : (s.begun p op).runOp p op pl = (m, some (rspOk d))) (hc : m.cmds = (s.begun p op).cmds)
    (ha : op ≠ 0x0102 ∧ op ≠ 0x0901 ∧ op ≠ 0x0804) :
    s.rowCommand p op pl = { m with cmds := s.cmds, out := .reply p op stOk 0 d :: m.out } := by
  obtain ⟨h1, h2, h3, h4, h5, h6⟩ := ht
  have hrun : (m.cmd p).run = some { op := op, direct := true } := by
    have := State.begun_run (s := s) op h4
    unfold State.cmd at this ⊢
    rwa [hc]
  rw [State.rowCommand_begin op pl h1 h2 h3]
  change (s.begun p op).execOp p op pl = _
  unfold State.execOp
  simp only [State.begun_legal, h5, h6, hr, ne_eq, not_true_eq_false, if_false, Bool.not_true, Bool.false_eq_true]
  rw [State.sendReply_direct (rspOk d) hrun rfl]
  have hfree := State.begun_free (s := s) (p := p) op h3
  rw [← hc] at hfree
  unfold State.afterReply
  simp only [rspOk, ne_eq, not_true_eq_false, if_false, ha.1, ha.2.1, ha.2.2, false_and]
  simp only [State.modCmd, State.emit, hfree]

/-! Burgees (19_faults_recovery.md R481, R483). -/

/-- A burgee written touches the register file and the fault state only. -/
theorem State.pushBurgee_only (s : State) (src cls code idx act recov detail : Nat) :
    ∃ r f, s.pushBurgee src cls code idx act recov detail = { s with regs := r, flt := f } := by
  unfold State.pushBurgee
  dsimp only
  split
  · rw [State.count_regs_only]
    exact ⟨_, _, rfl⟩
  · exact ⟨_, _, rfl⟩

/-- A suppression window closed touches the register file and the fault state only. -/
theorem State.closeWindow_only (s : State) (w : Supp) : ∃ r f, s.closeWindow w = { s with regs := r, flt := f } := by
  unfold State.closeWindow
  dsimp only
  split
  · exact ⟨_, _, rfl⟩
  · obtain ⟨r, f, h⟩ := State.pushBurgee_only { s with flt := { s.flt with windows := s.flt.windows.filter (fun x => x.key ≠ w.key) } }
      0 clsWarn 6 (w.key / 65536 % 256) 0 0 w.dropped
    exact ⟨r, f, h⟩

/-- A burgee raised, written or suppressed, touches the register file and the fault state only. -/
theorem State.burgee_only (s : State) (src cls code idx act detail recov : Nat) :
    ∃ r f, s.burgee src cls code idx act detail recov = { s with regs := r, flt := f } := by
  unfold State.burgee
  split
  · exact State.pushBurgee_only ..
  · extract_lets key x one
    have h : ∃ r f, x = { s with regs := r, flt := f } := by
      unfold x
      split
      · split
        · exact State.closeWindow_only ..
        · exact ⟨s.regs, s.flt, rfl⟩
      · exact ⟨s.regs, s.flt, rfl⟩
    obtain ⟨r, f, hx⟩ := h
    obtain ⟨a, b, e⟩ := State.pushBurgee_only { s with regs := r, flt := f } src cls code idx act recov detail
    rw [← hx] at e
    split
    · have e1 : one = { s with regs := a, flt := b } := e.trans (by rw [hx])
      clear_value one
      subst e1
      exact ⟨_, _, rfl⟩
    · split
      · rw [e]
        clear_value x
        subst hx
        exact ⟨_, _, rfl⟩
      · rw [State.count_regs_only]
        clear_value x
        subst hx
        exact ⟨_, _, rfl⟩

end Sys2Proof.Machine
end

