-- ==== Sys2Proof/WellFormed.lean ====
section
/-! DEFINITION. Which commands are well formed: every operand within the range its rule gives it. A command that is not
well formed names something that the block does not have; `exec` gives it no effect of its own or an error reply. -/

namespace Sys2Proof

/-- A path: session S0 to S7, path M, firmware (21_register_map.md R527). -/
def Path.wf : Path → Bool
  | .sess k => decide (k < 8)
  | .bmp => true
  | .fw => true

/-- A payload of at most 8,192 bytes (15_command_set.md R393). -/
def payloadWf (pl : List Byte) : Bool := decide (pl.length ≤ 8192)

/-- A host end: a MAC address of 48 bits, an IP address of 128 bits, a UDP port of 16 bits (14_host_network.md R364). -/
def HostAddr.wf (h : HostAddr) : Bool := decide (h.mac < 2 ^ 48) && decide (h.ip < 2 ^ 128) && decide (h.port < 2 ^ 16)

/-- An instant of the 64-bit timebase (04_position_scheduler.md R95). -/
def timeWf (t : Nat) : Bool := decide (t < 2 ^ 64)

/-- A register word (00_scope.md R3). -/
def wordWf (v : Nat) : Bool := decide (v < 2 ^ 32)

/-- An address of the 20-bit register space, a multiple of 4 (21_register_map.md R517). -/
def regAddrWf (a : Nat) : Bool := decide (a < 2 ^ 20) && decide (a % 4 = 0)

/-- A host port 0 to 15 or MPORT, 16 (14_host_network.md R359). -/
def portWf (q : Nat) : Bool := decide (q < 17)

/-- A received frame: its host end, and its counts within their widths (14_host_network.md R360). -/
def Frame.wf (f : Frame) : Bool :=
  f.src.wf && decide (f.octets < 2 ^ 16) && decide (f.dstPort < 2 ^ 16) && decide (f.fecCe < 2 ^ 32) && decide (f.fecUe < 2 ^ 32)

/-- A frame at an instant at a host port. -/
def arrivalWf (t q : Nat) (f : Frame) : Bool := timeWf t && portWf q && f.wf

/-- An index below a count at an instant. -/
def atWf (t i n : Nat) : Bool := timeWf t && decide (i < n)

/-- A tile command: one of four segments, a sequence number of 5 bits, an address of 9 bits, at most 64 data bytes
(03_triry_link.md R68). -/
def TileCmd.wf (c : TileCmd) : Bool :=
  decide (c.seg < 4) && decide (c.seq < 32) && decide (c.addr < 512) && decide (c.data.length ≤ 64)

/-- A window: four rows of 8 optical-black and 476 to 480 imaging samples, and the lamp sample, each of 12 bits (02_sensor_bar.md
R46, R50). -/
def WindowIn.wf (w : WindowIn) : Bool :=
  w.samples.length % 4 = 0 && decide (1936 ≤ w.samples.length) && decide (w.samples.length ≤ 1952) && w.samples.all (fun x => decide (x < 4096)) && decide (w.lamp < 4096)

/-- A PRBS checker that exists. -/
def PrbsUnit.wf : PrbsUnit → Bool
  | .lane i => decide (i < 512)
  | .port q k => portWf q && decide (k < 4)

/-- A command's operands are within the ranges of the rules. -/
def Instr.wf : Instr → Bool
  | .sessionOpenPhase1 q h pl => portWf q && h.wf && payloadWf pl
  | .sessionOpenPhase2 k q h pl => decide (k < 8) && portWf q && h.wf && payloadWf pl
  | .sessionClose p pl => p.wf && payloadWf pl
  | .attest p pl => p.wf && payloadWf pl
  | .reserveBw p pl => p.wf && payloadWf pl
  | .regRead p pl => p.wf && payloadWf pl
  | .regWrite p pl => p.wf && payloadWf pl
  | .regModify p pl => p.wf && payloadWf pl
  | .tileBroadcast p pl => p.wf && payloadWf pl
  | .jobDefine p pl => p.wf && payloadWf pl
  | .jobArm p pl => p.wf && payloadWf pl
  | .jobStart p pl => p.wf && payloadWf pl
  | .jobStop p pl => p.wf && payloadWf pl
  | .jobAbort p pl => p.wf && payloadWf pl
  | .calEquinox p pl => p.wf && payloadWf pl
  | .calAlign p pl => p.wf && payloadWf pl
  | .calThermal p pl => p.wf && payloadWf pl
  | .coefLoad p pl => p.wf && payloadWf pl
  | .coefSave p pl => p.wf && payloadWf pl
  | .moveQueue p pl => p.wf && payloadWf pl
  | .moveHalt p pl => p.wf && payloadWf pl
  | .home p pl => p.wf && payloadWf pl
  | .axisEnable p pl => p.wf && payloadWf pl
  | .lumSet p pl => p.wf && payloadWf pl
  | .lumDiag p pl => p.wf && payloadWf pl
  | .refRasterPut p pl => p.wf && payloadWf pl
  | .verdictConfig p pl => p.wf && payloadWf pl
  | .statsRead p pl => p.wf && payloadWf pl
  | .configStore p pl => p.wf && payloadWf pl
  | .fwBegin p pl => p.wf && payloadWf pl
  | .fwChunk p pl => p.wf && payloadWf pl
  | .fwCommit p pl => p.wf && payloadWf pl
  | .dumpRead p pl => p.wf && payloadWf pl
  | .faultLogRead p pl => p.wf && payloadWf pl
  | .bmvSubmit p pl => p.wf && payloadWf pl
  | .serviceBegin p pl => p.wf && payloadWf pl
  | .serviceEnd p pl => p.wf && payloadWf pl
  | .seasonSet p pl => p.wf && payloadWf pl
  | .selWrite p sel v => p.wf && decide (sel < 7) && wordWf v
  | .registerWrite p a v => p.wf && regAddrWf a && wordWf v
  | .loReadLatch p a => p.wf && regAddrWf a
  | .readClear p a => p.wf && regAddrWf a
  | .train p => p.wf
  | .loopback p c => p.wf && decide (c < 4)
  | .prbs p c => p.wf && decide (c < 4)
  | .inject p => p.wf
  | .laneEqWrite p v => p.wf && wordWf v
  | .arm p v => p.wf && wordWf v
  | .disarm p v => p.wf && wordWf v
  | .verify p v => p.wf && wordWf v
  | .lutDataWrite p v => p.wf && wordWf v
  | .go ch v => decide (ch < 8) && wordWf v
  | .abort ch => decide (ch < 8)
  | .holdupRequest => true
  | .headroomRequest chain => decide (chain < 4)
  | .monDataRead k => decide (k < 4)
  | .forcedRead p k => p.wf && decide (k < 4)
  | .encPosWrite p k v => p.wf && decide (k < 8) && wordWf v
  | .axisPosWrite p v => p.wf && wordWf v
  | .clkCfgWrite p v => p.wf && wordWf v
  | .lumSecDutyWrite p w v => p.wf && decide (w < 2) && wordWf v
  | .exCfgWrite p x v => p.wf && decide (x < 8) && wordWf v
  | .portLoopback p c => p.wf && decide (c < 4)
  | .portPrbs p c => p.wf && decide (c < 4)
  | .portInject p => p.wf
  | .bmpMboxIn _ _ => true
  | .bmpMboxOut _ => true
  | .bmpRegAccess a => match a with
    | .point v => decide (v < 256)
    | _ => true
  | .bmpReset => true
  | .bmpBrokenByte _ => true
  | .pktTimeout t => timeWf t
  | .bmpSclTimeout t => timeWf t
  | .cmdSegment t q h b => arrivalWf t q h && decide (b.length ≤ 9216)
  | .ack t q h b => arrivalWf t q h && decide (b.length ≤ 9216)
  | .credit t q h b => arrivalWf t q h && decide (b.length ≤ 9216)
  | .rtoExpiry t k _ seq => atWf t k 8 && wordWf seq
  | .idleTimeout t k => atWf t k 8
  | .openHoldExpiry t k => atWf t k 8
  | .authBusyExpiry t role => atWf t role 3
  | .failback t k => atWf t k 8
  | .thinEpisodeClear k => decide (k < 8)
  | .portDown t q => timeWf t && portWf q
  | .portUp t q => timeWf t && portWf q
  | .arpRequest q m i g => portWf q && decide (m < 2 ^ 48) && wordWf i && wordWf g
  | .neighbourSolicitation q m i g => portWf q && decide (m < 2 ^ 48) && decide (i < 2 ^ 128) && decide (g < 2 ^ 128)
  | .sendSegment t q => timeWf t && portWf q
  | .laneLock t i => atWf t i 512
  | .lossOfLock t x => atWf t x.lane 512
  | .relockTimeout t i => atWf t i 512
  | .frameReceived t i _ bl => atWf t i 512 && decide (bl.length ≤ 492)
  | .frameSlotEnd t i => atWf t i 512
  | .trainingRound g m => decide (g < 4) && m.all (fun e => decide (e.lane < 512) && decide (e.h < 256) && decide (e.w < 256))
  | .bcbAttempt t g => atWf t g 4
  | .bcbReply t g r => atWf t g 4 && decide (r.bytes.length ≤ 40)
  | .bcbTimeout t g => atWf t g 4
  | .discoveryPass t => timeWf t
  | .ping c => c.wf
  | .identRead c => c.wf
  | .modeSet c => c.wf
  | .cfgWrite c => c.wf
  | .cfgRead c => c.wf
  | .txTap c => c.wf
  | .txTapAll c => c.wf
  | .txTapSet c => c.wf
  | .txTapGet c => c.wf
  | .lineSet c => c.wf
  | .statusRead c => c.wf
  | .reset c => c.wf
  | .tileWindow t i w => atWf t i 512 && w.wf
  | .encoderEdge t k _ _ => atWf t k 8
  | .indexEdge t k _ => atWf t k 8
  | .stillTimeout t => timeWf t
  | .lineCommit t => timeWf t
  | .lumGate t => timeWf t
  | .bstbRise t => timeWf t
  | .bstbFall t => timeWf t
  | .keepWarmGate t => timeWf t
  | .serviceGate t c => atWf t c 4
  | .refreshStart t r => atWf t r.chain 4 && r.flips.all (fun k => decide (k < 3584))
  | .refreshReturn t c _ => atWf t c 4
  | .commitMark t c _ => atWf t c 4
  | .driverTimeout t d => atWf t d 256
  | .lineProduced t => timeWf t
  | .verdictUnitLine t => timeWf t
  | .evtPulseEnd t k => atWf t k 8
  | .kernelBudget i => decide (i < 512)
  | .statsTimeout t => timeWf t
  | .engineWatchdog t i => atWf t i 512
  | .sramUe t x => atWf t x.engine 512 && decide (0 < x.bits)
  | .engineRestartDone t i => atWf t i 512
  | .bankVerifyDone i => decide (i < 512)
  | .equinoxCaptureDone t => timeWf t
  | .alignCaptureDone t => timeWf t
  | .alignTimeout t => timeWf t
  | .thermalPoint t => timeWf t
  | .thermalTimeout t => timeWf t
  | .profileTick t g => atWf t g 4
  | .estop t _ => timeWf t
  | .homeSwitch t ax _ => atWf t ax 8
  | .holdDelayExpiry t ax => atWf t ax 8
  | .axisEnableDelay t ax => atWf t ax 8
  | .servoTick t => timeWf t
  | .brakingDone t => timeWf t
  | .backingDone t => timeWf t
  | .waitRelease t => timeWf t
  | .leadExpiry t k => atWf t k 4
  | .conversionEnd t k _ _ _ => atWf t k 4
  | .urgentDone t k _ _ _ => atWf t k 4
  | .excitationShort t x => atWf t x 8
  | .wireBreak t a => atWf t a 32
  | .deskewTrack t m => timeWf t && m.all (fun d => decide (d.ch < 4))
  | .scrubRead t fl _ => timeWf t && fl.all (fun b => decide (b < 72))
  | .bmvChannelStart t => timeWf t
  | .bmvBusError t c _ _ _ => atWf t c 8
  | .bmvComplete t c => atWf t c 8
  | .bmbTransaction t a w r _ => atWf t a 128 && decide (w.length + r ≤ 255)
  | .bmbNackRetry t _ => timeWf t
  | .bmbSclTimeout t => timeWf t
  | .busClear t p => timeWf t && p.all (fun n => decide (1 ≤ n) && decide (n ≤ 9))
  | .arbLost t _ bit => atWf t bit 8
  | .alert t _ => timeWf t
  | .alertResponseRead t _ _ => timeWf t
  | .alertIgnoreEnd t _ => timeWf t
  | .powerOn => true
  | .pwrGoodLow => true
  | .resetN => true
  | .wakeN => true
  | .bmpWake a => decide (a < 128)
  | .pwrFail t _ => timeWf t
  | .testMode _ => true
  | .startUp t st => timeWf t && st.qdr.length = 4
  | .lockstepMismatch t p => atWf t p 2
  | .pairWatchdog t p => atWf t p 2
  | .checkpoint p => decide (p < 2)
  | .recoveryTimeout t => timeWf t
  | .tbLockLoss t => timeWf t
  | .fatalError t cause => timeWf t && decide (1 ≤ cause) && decide (cause ≤ 8)
  | .dumpCopyDone t => timeWf t
  | .autoRestart t => timeWf t
  | .suppressionWindowClose t key => timeWf t && decide (key < 2 ^ 32)
  | .logCopy t => timeWf t
  | .logDeferredRetry t => timeWf t
  | .prbsLock u => u.unit.wf
  | .prbsLockDrop u => u.unit.wf
  | .lumDiagTimeout t => timeWf t

end Sys2Proof
end

