-- ==== Sys2Proof/Tests/Slice0.lean ====
section
/-! SUPPORT. Tests: ill-formed commands that the check refuses, small facts that the spec writes out, and for every statement
concrete states and operands that meet its hypotheses. -/

namespace Sys2Proof.Tests

open Sys2Proof.Machine

set_option maxRecDepth 20000

/-! Ill-formed commands. -/

theorem test_wf_path : (Instr.train (.sess 8)).wf = false ∧ (Instr.train (.sess 7)).wf = true := by decide
theorem test_wf_payload : payloadWf (List.replicate 8193 0) = false ∧ ∀ pl, (Instr.jobArm .fw pl).wf = payloadWf pl :=
  ⟨by simp only [payloadWf, List.length_replicate]; decide, fun _ => rfl⟩
theorem test_wf_host : (Instr.sessionOpenPhase1 0 ⟨.raw, 2 ^ 48, 0, 0⟩ []).wf = false ∧
    (Instr.sessionOpenPhase1 0 ⟨.udp6, 0, 2 ^ 128, 0⟩ []).wf = false ∧ (Instr.sessionOpenPhase1 0 ⟨.udp4, 0, 0, 65536⟩ []).wf = false := by decide
theorem test_wf_time : (Instr.discoveryPass (2 ^ 64)).wf = false := by decide
theorem test_wf_word : (Instr.arm .fw (2 ^ 32)).wf = false := by decide
theorem test_wf_address : (Instr.readClear .fw 2).wf = false ∧ (Instr.readClear .fw (2 ^ 20)).wf = false := by decide
theorem test_wf_port : (Instr.portUp 0 17).wf = false := by decide
theorem test_wf_index : (Instr.laneLock 0 512).wf = false := by decide
theorem test_wf_tile : (Instr.ping ⟨4, 0, true, 0, 0, [], 0⟩).wf = false ∧ (Instr.ping ⟨0, 0, true, 32, 0, [], 0⟩).wf = false ∧
    (Instr.ping ⟨0, 0, true, 0, 512, [], 0⟩).wf = false ∧ (Instr.ping ⟨0, 0, true, 0, 0, List.replicate 65 0, 0⟩).wf = false := by decide
theorem test_wf_window : (Instr.tileWindow 0 0 ⟨[], 0, false, false, false, 0⟩).wf = false ∧
    WindowIn.wf ⟨List.replicate 1935 0 ++ [4096], 0, false, false, false, 0⟩ = false := by decide +kernel
theorem test_wf_prbs : (Instr.prbsLock ⟨.lane 512, []⟩).wf = false ∧ (Instr.prbsLock ⟨.port 16 4, []⟩).wf = false := by decide
theorem test_wf_frame (h : HostAddr) : (Frame.mk h 65536 false false false 51260 false 0 0).wf = false := by simp [Frame.wf]
theorem test_wf_sram : (Instr.sramUe 0 ⟨3, 0⟩).wf = false ∧ (Instr.sramUe 0 ⟨512, 1⟩).wf = false := by decide
theorem test_wf_ring : (Instr.refreshStart 0 ⟨4, []⟩).wf = false ∧ (Instr.refreshStart 0 ⟨0, [3584]⟩).wf = false := by decide
theorem test_wf_loss : (Instr.lossOfLock 0 ⟨512, true⟩).wf = false := by decide
theorem test_wf_pointer : (Instr.bmpRegAccess (.point 256)).wf = false := by decide
theorem test_wf_start : (Instr.startUp 0 ⟨true, [0], []⟩).wf = false := by decide

/-! States. -/

/-- The device in IDLE with every domain in Summer and nothing fitted. -/
def idle : State := { State.reset with seasons := List.replicate 146 Season.summer, op := .idle }

/-- Fields set. -/
def setF (l : List (Fld × Nat × Nat)) (s : State) : State := l.foldl (fun s e => s.setFld e.1 e.2.1 e.2.2) s

/-- Session 0 open in a role. -/
def opened (role : Nat) (s : State) : State :=
  { s with sessions := modifyNth (fun x => { x with id := { x.id with st := 2, role := role } }) 0 s.sessions }

/-- An OWNER session in IDLE, and a SERVICE session in SERVICE. -/
def own : State := opened 0 idle
def svc : State := opened 2 { idle with op := .service }

/-- An OWNER outside FAULT_HOLD, and a SERVICE session in SERVICE, may write. -/
theorem may_owner (s : State) (hr : s.roleOf 0 = 0) (hb : s.op ≠ .boot) (hf : s.op ≠ .faultHold) : s.mayWrite (.sess 0) :=
  .inr ⟨0, rfl, hb, .inl ⟨hr, hf⟩⟩
theorem may_service (s : State) (hr : s.roleOf 0 = 2) (hs : s.op = .service) : s.mayWrite (.sess 0) :=
  .inr ⟨0, rfl, by simp [hs], .inr ⟨hr, hs⟩⟩

/-- A job of `n` tiles from tile 0 in a state. -/
def job (n : Nat) (op : Op) (s : State) : State := { s with op := op, job := { s.job with defined := true, count := n } }

/-- Tile 1 fitted, in a mode, and a command to it. -/
def tileAt (m : TileMode) : State := { idle with bar := [{}, { fitted := true, ident := zeros 32, mode := m }] }
def toTile (d : List Byte) : TileCmd := ⟨0, 0, true, 3, 1, d, 2⟩

/-- Line memory usable. -/
def withQdr (s : State) : State := setF [(F.QDR_STATUS_USABLE, 1, 0), (F.QDR_SIZE_MIB, 128, 0), (F.QDR_SCRUB_EN, 1, 0)] s

/-! The hypotheses of each statement, met. -/

theorem test_hyp_EveryStepKeepsInv : idle.Inv ∧ step idle = .next (idleTick idle) := ⟨by unfold State.Inv; decide, rfl⟩

theorem test_hyp_BroadcastReadGivesZero :
    ∃ r, regAt 0x20100 = some (r, 0) ∧ r.win = some .tile := ⟨_, rfl, rfl⟩

theorem test_hyp_TileReadsAnswer : (tileAt .idle).tileHears (toTile []) ∧ (tileAt .idle).tileHears (toTile [1]) ∧
    (tileAt .idle).tileHears (toTile [2]) := by unfold State.tileHears TileCmd.whole; decide

theorem test_hyp_TileSettingsTake : ((tileAt .idle).tileHears (toTile [4]) ∧ (tileAt .idle).tileHears (toTile (2 :: be 2 1)) ∧
    (tileAt .idle).tileHears (toTile [0])) ∧ (tileAt .run).tileHears (toTile (be 3 7)) := by
  unfold State.tileHears TileCmd.whole; decide

theorem test_hyp_TileTapSteps : (tileAt .train).tileHears (toTile [9]) ∧ ((tileAt .train).tile 1).mode = .train ∧
    TileCmd.whole ⟨0, 0, true, 0, 0x1FF, List.replicate 64 0x99, 0⟩ := by
  unfold State.tileHears TileCmd.whole; decide

theorem test_hyp_TileNakChangesNothing : let t := (tileAt .idle).tile 1
    t.fitted = true ∧ t.lastSeq ≠ some 0 ∧ tileLen 0x0F = none ∧ (∃ n, tileLen 10 = some n ∧ n ≠ 1) ∧ (t.run 10 (be 3 1)).1 ≠ 0 := by
  exact ⟨rfl, by decide, by decide, ⟨3, by decide, by decide⟩, by decide⟩

theorem test_hyp_TileRepeatsItsReply : let s := { idle with bar := [{}, { fitted := true, lastSeq := some 3, lastReply := [1] }] }
    (s.tile 1).fitted = true ∧ (s.tile 1).lastSeq = some ((toTile []).seq % 32) ∧ TileCmd.whole (toTile []) ∧
    ¬ TileCmd.whole ⟨0, 0, true, 3, 1, [], 3⟩ := by unfold TileCmd.whole; decide

theorem test_hyp_TileWindowSendsItsFrame : 1 < (tileAt .run).bar.length ∧ ((tileAt .run).tile 1).fitted = true ∧
    ((tileAt .run).tile 1).mode = .run ∧ ((tileAt .run).tile 1).busyUntil ≤ 0 := by decide

theorem test_hyp_LaneLocks : idle.Inv ∧ idle.asleep = false ∧ 5 < idle.lanes.length ∧ idle.quad 5 ≠ .winter ∧
    (∀ x, (idle.lane 5).train = some x → x.lost = false) ∧
    (setF [(F.TILE_LANE_STATUS_PHASE_LOCK, 1, 5)] idle).bit F.TILE_LANE_STATUS_PHASE_LOCK 5 = true ∧
    (setF [(F.TILE_LANE_STATUS_PHASE_LOCK, 1, 5)] idle).flt.windows = [] ∧
    ((setF [(F.TILE_LANE_STATUS_PHASE_LOCK, 1, 5)] idle).lane 5).slot = none :=
  ⟨by unfold State.Inv; decide, by decide, by decide, by decide, fun x h => by simp [show (idle.lane 5).train = none by decide] at h,
    by decide, by decide, by decide⟩

/-- A lane that lost lock at 0 while lines run. -/
def lost : State := { idle with op := .running, lanes := modifyNth (fun l => { l with lostAt := some 0 }) 5 idle.lanes }
theorem test_hyp_RelockTrains : lost.Inv ∧ lost.asleep = false ∧ 5 < lost.lanes.length ∧ 0 < lost.bcbs.length ∧
    (lost.lane 5).lostAt = some 0 ∧ 0 + 10000000 ≤ max lost.tb 10000000 ∧ (lost.lane 5).train = none ∧ lost.quad 5 ≠ .winter ∧
    lost.op = .running := by unfold State.Inv; decide

theorem test_hyp_FrameReadBackWhole : (List.replicate 1944 4095).length = 1944 ∧ (∀ x ∈ List.replicate 1944 4095, x < 4096) ∧
    4095 < 4096 ∧ 15 < 16 ∧ (0xFFFFFFFFFFFFFFFF : Nat) < 2 ^ 64 :=
  ⟨List.length_replicate, fun _ h => by rw [List.eq_of_mem_replicate h]; decide, by decide, by decide, by decide⟩

/-- A job of two tiles running, with a slot open at lane 1; a frame of its line that checks. -/
def slot1 : Slot := ⟨3, false, 0, 5000⟩
def slotOpen : State := setF [(F.TILE_LANE_STATUS_BLOCK_LOCK, 1, 1)]
  { job 2 .running idle with lanes := modifyNth (fun l => { l with slot := some slot1, ident := zeros 32 }) 1 idle.lanes }
def frame1 : List LaneBlock :=
  ⟨2, 15204392035538043316⟩ :: ⟨1, 0⟩ :: (List.replicate 364 ⟨1, 0⟩ ++ [⟨2, 53339523236495360⟩])
theorem runWords_zeros (n : Nat) (l : List Nat) :
    (runWords descramBit 0 (List.replicate n 0 ++ l)).1 = List.replicate n 0 ++ (runWords descramBit 0 l).1 := by
  induction n with
  | zero => rfl
  | succ n ih => simpa [List.replicate_succ, runWords, show runBits descramBit 0 64 0 0 = (0, 0) by decide] using ih
theorem test_frame_words : (runWords descramBit 0 (frame1.map (fun b => b.bits.toNat))).1 =
    393652 :: 237568185328277510 :: (List.replicate 364 0 ++ [9276711560091271168]) := by
  have h : frame1.map (fun b => b.bits.toNat) = 15204392035538043316 :: 0 :: (List.replicate 364 0 ++ [53339523236495360]) := by
    simp [frame1]
  rw [h]
  simp only [runWords, show runBits descramBit 15204392035538043316 64 0 0 = (393652, 108191944179122379) by decide,
    show runBits descramBit 0 64 0 108191944179122379 = (237568185328277510, 0) by decide, runWords_zeros]
  rfl
theorem test_frame_read : frameRead 0 frame1 false = (393652, 237568185328277510 :: List.replicate 364 0, 9276711560091271168) := by
  unfold frameRead
  rw [show (0 : BitVec 58).toNat = 0 from rfl, test_frame_words]
  rfl
theorem test_frame_crc : frameCrc 393652 (237568185328277510 :: List.replicate 364 0) = bitsOf 9276711560091271168 24 32 := by
  decide +kernel
theorem test_hyp_FrameAccepted_slot : slotOpen.asleep = false ∧ (slotOpen.lane 1).slot = some slot1 ∧ slotOpen.quad 1 ≠ .winter ∧
    slotOpen.fld F.TILE_LANE_CTRL_LOOPBACK 1 = 0 ∧ slotOpen.bit F.TILE_LANE_STATUS_BLOCK_LOCK 1 = true ∧ slotOpen.inWork 1 = true ∧
    (slotOpen.at 5000).slotHolds 1 slot1 = true ∧ slotOpen.slotEnd 1 slot1 ≤ max slotOpen.tb 100000 := by decide
theorem test_hyp_FrameAccepted_frame : (slotOpen.lane 1).injectNext = false ∧ frameShape frame1 = true ∧
    nthD 0 (runWords descramBit 0 ((frame1.take 1).map (fun b => b.bits.toNat))).1 0 % 256 = 0xB4 := by decide
theorem test_hyp_FrameAccepted_checks : let r := frameRead 0 frame1 false
    slotOpen.frameCheck 1 r.1 r.2.2 r.2.1 3 = none ∧
    (slotOpen.modLane 1 (fun l => { l with expSeq := 9 })).frameCheck 1 r.1 r.2.2 r.2.1 3 =
      some F.TILE_FRAME_FMT_ERR_COUNT := by
  rw [test_frame_read]; simp only [State.frameCheck, test_frame_crc]; decide

/-- A lane under training at a step of the sweep. -/
def training (k : Nat) : State :=
  { idle with lanes := modifyNth (fun l => { l with train := some ⟨k, 1, 40, 0, 0, false, false, false, false, 0, 0, false, false⟩ }) 5 idle.lanes }
theorem test_hyp_TrainingRoundMeasures : (training 7).Inv ∧ (training 7).asleep = false ∧ 5 < (training 7).lanes.length ∧
    (Eye.mk 5 63 63).h < 64 ∧ (Eye.mk 5 63 63).w < 64 ∧ ((training 7).bcb 0).trainQuiet = true ∧
    ((training 7).lane 5).train = some ⟨7, 1, 40, 0, 0, false, false, false, false, 0, 0, false, false⟩ ∧
    ((training 3).lane 5).train = some ⟨3, 1, 40, 0, 0, false, false, false, false, 0, 0, false, false⟩ := by
  unfold State.Inv; decide

/-- Bar control bus 1 with a queue and a current transaction. -/
def ask (made : Nat) : Txn := ⟨130, 0x02, [], .reread, 4, made, 5⟩
def call : Txn := ⟨0x1FF, 3, [0], .quiet, 1, 0, 0⟩
def busOne (q : List Txn) (cur : Option Txn) : State :=
  { idle with bcbs := modifyNth (fun b => { b with queue := q, cur := cur }) 1 idle.bcbs }
theorem test_hyp_BcbTransactions_attempt : (busOne [ask 0] none).asleep = false ∧ 1 < (busOne [ask 0] none).bcbs.length ∧
    ((busOne [ask 0] none).bcb 1).cur = none ∧ ((busOne [ask 0] none).bcb 1).queue = ask 0 :: [] ∧
    ((busOne [ask 0] none).bcb 1).freeAt ≤ 77 ∧ ((busOne [ask 0] none).bcb 1).setEnd ≤ 77 ∧
    ((busOne [ask 0] none).at 77).nextSet = none ∧ (ask 0).bcast = false ∧ call.bcast = true ∧
    ((busOne [call] none).bcb 1).queue = call :: [] := by decide
theorem test_hyp_BcbTransactions_reply : ((busOne [] (some (ask 1))).bcb 1).cur = some (ask 1) ∧
    ((busOne [] (some (ask 1))).bcb 1).heldSet = none ∧ parseReply (replyFrame 5 130 2 0 (zeros 32)) = some (5, 130, 2, 0, zeros 32) ∧
    (ask 1).made < (ask 1).tries ∧ (ask 4).tries ≤ (ask 4).made ∧ parseReply [] = none ∧
    ((busOne [] (some (ask 1))).at 4000).tb = ((busOne [] (some (ask 1))).bcb 1).cmdEnd + 4000 := by decide

theorem test_hyp_DiscoveryReadsEveryAddress : idle.asleep = false ∧ idle.bcbs.length = 4 ∧ idle.op = .idle ∧ idle.discovering = false := by decide

/-- A checker one error short of its drop. -/
def lastBit : Prbs := { locked := true, age := 1086, errs := (List.range 63).map (· + 64) }
theorem test_hyp_PrbsCheckers : lastBit.locked = true ∧ lastBit.errs.length = 63 ∧ (∀ e ∈ lastBit.errs, lastBit.age + 1 < e + 1024) ∧
    let s := setF [(F.TILE_LANE_CTRL_PRBS, 1, 6), (F.TILE_LANE_CTRL_PRBS, 2, 7), (F.NET_PORT_TEST_PRBS, 1, 2), (F.NET_PORT_TEST_PRBS, 2, 3),
      (F.NET_PORT_TEST_PRBS, 3, 4)]
      { idle with lanes := modifyNth (fun l => { l with prbs := lastBit }) 8 idle.lanes,
                  ports := modifyNth (fun q => { q with prbs := [lastBit, {}, {}, {}] }) 5 idle.ports }
    s.Inv ∧ s.asleep = false ∧ (127 : Nat) < 2 ^ 7 ∧ s.fld F.TILE_LANE_CTRL_PRBS 6 = 1 ∧ s.fld F.TILE_LANE_CTRL_PRBS 7 = 2 ∧
    (s.lane 7).prbs = {} ∧ (s.lane 8).prbs = lastBit ∧ (s.fld F.NET_PORT_TEST_PRBS 2 = 1 ∧ s.fld F.NET_PORT_TEST_PRBS 3 = 2 ∧
    s.fld F.NET_PORT_TEST_PRBS 4 = 3) ∧ (∀ q < 17, (s.port q).prbs.length = 4 ∧ 0 < s.portLanes q) ∧ nthD {} (s.port 5).prbs 0 = lastBit := by
  unfold State.Inv; decide

/-- Encoder `k` enabled with its Z input. -/
def encOn (k : Nat) : State := setF [(F.ENC_CFG_ENABLE, 1, k), (F.ENC_CFG_Z_EN, 1, k)] idle
theorem test_hyp_EncoderCounts : (encOn 2).Inv ∧ 2 < (encOn 2).encs.length ∧ (encOn 2).bit F.ENC_CFG_ENABLE 3 = false ∧
    (encOn 2).bit F.ENC_CFG_ENABLE 2 = true ∧ 2 ≠ (encOn 2).masterIdx ∧ true ≠ ((encOn 2).enc 2).a ∧ false = ((encOn 2).enc 2).b ∧
    true ≠ ((encOn 2).enc 2).b ∧ ((encOn 2).enc 2).ta = none ∧ ((encOn 2).enc 2).tb = none ∧ ((encOn 2).enc 3).ta = none ∧
    ((encOn 2).enc 3).tb = none := by unfold State.Inv; decide
/-- Encoder 2 whose signal A changed at 0: a change at the filter's time passes, one just before it is removed. -/
theorem test_hyp_EncoderCounts_filter :
    let s := { encOn 2 with encs := modifyNth (fun e => { e with ta := some 0 }) 2 idle.encs }
    let filt := 5 * (s.fld F.ENC_CFG_FILT 2 + 1)
    s.season domUnc = .summer ∧ (s.enc 2).ta = some 0 ∧ 0 + filt ≤ (s.at filt).tb ∧ (s.at (filt - 1)).tb < 0 + filt ∧
    0 / 1 ≠ (s.at filt).tb / 1 := by decide
theorem test_hyp_EncoderCounts_master : (encOn 0).bit F.ENC_CFG_ENABLE 0 = true ∧ 0 = (encOn 0).masterIdx ∧
    (encOn 0).season domUnc = .summer ∧ true ≠ ((encOn 0).enc 0).a ∧ ((encOn 0).enc 0).ta = none := by decide
theorem test_hyp_EncoderCounts_index : let z := !(encOn 2).bit F.ENC_CFG_Z_POL 2
    z ≠ ((encOn 2).enc 2).z ∧ ((encOn 2).enc 2).tz = none ∧ (encOn 2).bit F.ENC_CFG_Z_EN 2 = true ∧
    (encOn 2).bit F.ENC_STATUS_INDEX_SEEN 2 = false ∧ (∀ g, g < 4 → ((encOn 2).group g).homing = none) := by decide

/-- The scheduler with one edge seen. -/
def edgeSeen : State := { idle with sched := { idle.sched with edges := [(0, 0)] } }
theorem test_hyp_StillAfterAMillisecond : edgeSeen.Inv ∧ edgeSeen.asleep = false ∧
    edgeSeen.bit F.SCHED_STATUS_STILL = false ∧ edgeSeen.sched.tk + 1000000 ≤ max edgeSeen.tb 1000000 := by unfold State.Inv; decide

/-- A job of two tiles that places lines, its line 7 predicted at 100,000 ns, committed as given and open as given. -/
def com (gate : Option Nat) (rise : Nat) : Commit := ⟨7, gate, rise, 0, false, false⟩
def placed (cur expo : Option Commit) : State :=
  setF [(F.SCHED_TMIN_NS, 33333, 0)]
    { job 2 .running idle with sched := { idle.sched with active := true, tn := some 100000, target := 7, cur := cur, expo := expo } }
theorem test_hyp_LineCommits : let s := placed none none
    s.Inv ∧ s.asleep = false ∧ s.placing = true ∧ s.sched.cur = none ∧ (s.at 99000).tNow = some 100000 ∧
    (100000 : Int) ≤ ((s.at 99000).tb : Int) + s.commitLead ∧ s.sched.lastRise = none ∧ s.lastExposure = none ∧
    0 ∈ s.driven ∧ 0 < s.bcbs.length ∧ (s.bcb 0).cur = none := by unfold State.Inv; decide
theorem test_hyp_LineCommits_last : let s := { placed none none with job := { (placed none none).job with lineCount := 8 } }
    ∀ l, s.lastExposure = some l → s.sched.target ≤ l := by decide
theorem test_hyp_GateAndWindow_gate : let s := placed (some (com none 0)) none
    let u := s.at 99000
    s.Inv ∧ s.asleep = false ∧ s.sched.cur = some (com none 0) ∧ u.tNow = some 100000 ∧ (com none 0).gate = none ∧ s.placing = true ∧
    (100000 : Int) ≤ ((u.tb + s.fld F.SCHED_LUM_LEAD_NS : Nat) : Int) ∧ s.setEnd + 1000 ≤ u.tb + s.fld F.SCHED_LUM_LEAD_NS ∧
    s.sched.lastRise = none ∧ ∀ g ∈ s.driven, (s.bcb g).heldSet = none := by unfold State.Inv; decide
theorem test_hyp_GateAndWindow_window :
    (placed (some (com (some 99000) 104000)) none).sched.cur = some (com (some 99000) 104000) ∧
    (com (some 99000) 104000).gate.isSome = true ∧ (com (some 99000) 104000).rise ≤ ((idle).at 104000).tb ∧
    (placed none (some (com (some 99000) 104000))).sched.expo = some (com (some 99000) 104000) ∧
    (com (some 99000) 104000).rise + (placed none none).fld F.EXPO_NS_NS ≤ ((placed none none).at 10000000).tb ∧
    (placed none none).Inv := by unfold State.Inv; decide

theorem test_hyp_KeepWarmAndServiceGates_warm : let s := job 2 .armed idle
    s.Inv ∧ s.asleep = false ∧ s.op = .armed ∧ s.sched.cur = none ∧ s.sched.lastGate + s.keepWarm ≤ (s.at 20000000).tb ∧
    s.sched.placedGate = none ∧ (s.at 20000000).noCommitSoon = true := by unfold State.Inv; decide
/-- A running job at a standstill whose last placed gate is 6,000 ns and its width ago. -/
theorem test_hyp_KeepWarmAndServiceGates_still :
    let s := setF [(F.SCHED_STATUS_STILL, 1, 0)] { job 2 .running idle with sched := { idle.sched with placedGate := some 5 } }
    s.Inv ∧ s.bit F.SCHED_STATUS_STILL = true ∧ s.sched.placedGate = some 5 ∧
    5 + s.fld F.SCHED_LUM_GATE_W + 6000 ≤ (s.at 20000000).tb ∧ (s.at 20000000).noCommitSoon = true := by unfold State.Inv; decide
/-- A light diagnosis that works on chain 0. -/
def diag : State := { idle with op := .service, ops := { idle.ops with diag := some ⟨.fw, [0], [(0, 1)], [], 0⟩ } }
theorem test_hyp_KeepWarmAndServiceGates_diag : diag.Inv ∧ diag.asleep = false ∧
    diag.ops.diag = some ⟨.fw, [0], [(0, 1)], [], 0⟩ ∧ assocGet 0 [(0, 1)] = some 1 ∧ assocGet 0 ([] : List (Nat × Nat)) = none := by
  unfold State.Inv; decide

/-- Chain 0 with two fitted drivers in ARMED. -/
def ring2 (f : Chain → Chain) : State :=
  let s := setF [(F.LUM_CHAIN_CFG_COUNT, 2, 0)] (job 2 .armed idle)
  { s with drivers := (s.drivers.set 0 { fitted := true }).set 1 { fitted := true, shadow := some ⟨1, 2, 3, 0⟩ },
           chains := modifyNth f 0 s.chains }
theorem test_hyp_RingRefresh_start : (ring2 id).Inv ∧ (ring2 id).asleep = false ∧ 0 < (ring2 id).chains.length ∧
    (ring2 id).refreshDue 0 = true ∧ (ring2 id).pairDown = false := by unfold State.Inv; decide
theorem test_hyp_RingRefresh_return : let s := ring2 (fun x => { x with waiting := true })
    s.Inv ∧ (s.chain 0).waiting = true ∧ streamOk (List.replicate 48 false) (s.chainCount 0) = true ∧
    streamOk [true] (s.chainCount 0) = false ∧ (s.chain 0).fails ≠ 2 ∧ (s.chain 0).eqxFails < 2 ∧ s.ringDrivers 0 = s.chainCount 0 ∧
    (s.chain 0).sent.length ≤ s.chainCount 0 := by unfold State.Inv; decide
theorem test_hyp_RingRefresh_mark : let s := ring2 (fun x => { x with passed := true, markDue := some 40 })
    (s.chain 0).markDue = some 40 ∧ 40 ≤ (s.at 50).tb ∧ 1 < s.ringDrivers 0 ∧ 64 * 0 + 1 < s.drivers.length ∧
    (s.driver 1).fitted = true ∧ (s.driver 1).lastSeen + 20000000 ≤ (s.at 20000000).tb := by decide

/-- Group 1 with a running move of axes 0 and 1, axis 0 going up; the same with axis 1 showing its direction, down, or not. -/
def moving : Run := ⟨⟨[0, 0, 0, 0, 0, 0, 0, 0], 1000000, 1000000, 0, false, false, 5, false⟩, 0, [100, -30, 0, 0, 0, 0, 0, 0], 10, 0, 0, 0, 0, false, none⟩
def withRun (down : Bool) : State :=
  setF [(F.MOT_AXIS_CFG_GROUP, 1, 0)]
    { idle with groups := modifyNth (fun g => { g with run := some moving }) 1 idle.groups,
                axes := (idle.axes.set 0 { nthD {} idle.axes 0 with positive := true, dirAt := some 0 }).set 1
                  { nthD {} idle.axes 1 with positive := !down } }
theorem test_hyp_ProfileTickSteps : (withRun true).asleep = false ∧ 1 < (withRun true).groups.length ∧ (withRun true).axes.length = 8 ∧
    ((withRun true).group 1).run = some moving ∧ moving.made ≤ masterLen moving.delta ∧ moving.delta.length = 8 ∧
    ∀ y, y < 8 → (withRun true).bit F.MOT_AXIS_CFG_ENC_EN y = false := by decide
theorem test_hyp_ProfileTickSteps_ready :
    let s := withRun true
    (∀ x, x < 8 → nthD 0 moving.delta x ≠ 0 → (s.axis x).positive = decide (0 < nthD 0 moving.delta x)) ∧ (s.axis 1).dirAt = none ∧
    (s.axis 0).dirAt = some 0 ∧ 0 + 5 * s.fld F.MOT_AXIS_TIMING_DIR_SETUP 0 + 1000 ≤ (s.at 1000000).tb ∧
    ((withRun false).axis 1).positive ≠ decide (0 < nthD 0 moving.delta 1) := by decide

theorem test_hyp_EmergencyStop : (withRun true).Inv ∧ (withRun true).bit F.MOT_STATUS_ESTOP = false ∧ (withRun true).groups.length = 4 ∧
    (withRun true).op ≠ .running ∧ (withRun true).op ≠ .holding ∧ (withRun true).fld F.MOT_AXIS_CFG_GROUP 0 < 4 ∧
    (withRun true).bit F.MOT_AXIS_CFG_ENC_EN 0 = false := by unfold State.Inv; decide

/-- Axis 2 of group 1 in the last phase of its search, its switch at input 3. -/
def homing : State :=
  setF [(F.MOT_AXIS_CFG_GROUP, 1, 2), (F.MOT_AXIS_HOME_INPUT, 3, 2)]
    { idle with groups := modifyNth (fun g => { g with homing := some ⟨2, 5, 40, 0, 0⟩ }) 1 idle.groups }
theorem test_hyp_HomeSwitchEndsTheSearch : homing.Inv ∧ homing.asleep = false ∧ homing.axes.length = 8 ∧ homing.groups.length = 4 ∧
    homing.encs.length = 8 ∧ (homing.group 1).homing = some ⟨2, 5, 40, 0, 0⟩ ∧
    (∀ j, j < 4 → j ≠ 1 → (homing.group j).homing = none) ∧ homing.fld F.MOT_AXIS_HOME_INPUT 2 < 8 ∧
    true = !homing.bit F.MOT_AXIS_HOME_POL 2 ∧ homing.bit F.MOT_GRP_CFG_DONE_EV_EN 1 = false ∧
    (homing.enc 3).tz = none ∧ (∀ g, g < 4 → (idle.group g).homing = none) ∧ idle.bit F.ENC_CFG_Z_EN 3 = false ∧
    (idle.enc 3).tz = none := by unfold State.Inv; decide
/-- Input 0, whose level changed at 0, and a change that its filter removes. -/
theorem test_hyp_HomeSwitchEndsTheSearch_filter :
    let s := { idle with encs := modifyNth (fun e => { e with tz := some 0 }) 0 idle.encs }
    (s.enc 0).tz = some 0 ∧ (s.at 0).tb < 0 + s.encFilter 0 ∧ s.bit F.ENC_CFG_Z_EN 0 = false ∧ s.fld F.MOT_AXIS_HOME_INPUT 0 = 0 := by
  decide

/-- Axis 2 enabled and waiting for its enabling. -/
def axisOn : State :=
  setF [(F.MOT_AXIS_STATUS_ENABLED, 1, 2)] { idle with axes := modifyNth (fun a => { a with enabling := some 7 }) 2 idle.axes }
theorem test_hyp_AxisDelays : axisOn.Inv ∧ axisOn.asleep = false ∧ axisOn.axes.length = 8 ∧
    axisOn.groupMoving (axisOn.fld F.MOT_AXIS_CFG_GROUP 2) = false ∧
    (axisOn.axis 2).restAt + 1000000 * axisOn.fld F.MOT_AXIS_BOOST_HOLD_DELAY 2 ≤ max axisOn.tb 5000000000 ∧
    axisOn.bit F.MOT_AXIS_CFG_ENC_EN 2 = false ∧ axisOn.bit F.MOT_AXIS_STATUS_ENABLED 2 = true ∧
    idle.bit F.MOT_AXIS_STATUS_ENABLED 2 = false ∧ (axisOn.axis 2).enabling = some 7 ∧ 7 ≤ max axisOn.tb 9 := by unfold State.Inv; decide

/-- A scan job in a phase, paced by axis 2 of group 1, its host there and its span locked. -/
def scan (ph : Nat) (op : Op) : State :=
  let s := job 1 op own
  setF [(F.SCAN_CFG_GROUP, 1, 0), (F.MOT_AXIS_CFG_GROUP, 1, 2), (F.MOT_AXIS_STATUS_ENABLED, 1, 2), (F.MOT_AXIS_RATIO_RATIO, 65536, 2),
      (F.SCAN_STATUS_PHASE, ph, 0), (F.SCAN_CAP_LINES, 8, 0), (F.SCAN_VMAX_PCS, 5000, 0), (F.SCAN_VMIN_PCS, 100, 0),
      (F.TILE_LANE_STATUS_BLOCK_LOCK, 1, 0), (F.MOT_AXIS_STATUS_POSITION_LOST, 0, 2), (F.MOT_AXIS_STATUS_MICROSTEP_UNKNOWN, 0, 2)]
    { s with job := { s.job with scan := true } }
/-- The scan with `k` produced lines that its host has not acknowledged. -/
def filled (k : Nat) : State :=
  let s := scan 1 .running
  { s with prod := { s.prod with last := some 9, firstOut := some 0 },
           sessions := modifyNth (fun x => { x with tx := { x.tx with owed := (List.range k).map (fun n => (n, 0)) } }) 0 s.sessions }
theorem test_hyp_PacingServo_tick : (scan 1 .running).Inv ∧ (scan 1 .running).asleep = false ∧ (scan 1 .running).job.scan = true ∧
    (scan 1 .running).op = .running ∧ (scan 1 .running).fld F.SCAN_STATUS_PHASE = 1 ∧
    (scan 1 .running).fill < (scan 1 .running).markLines ((scan 1 .running).fld F.SCAN_MARK1_HOLD) ∧
    (scan 1 .running).fill ≤ (scan 1 .running).markLines ((scan 1 .running).fld F.SCAN_MARK0_PACE_LO) := by unfold State.Inv; decide
theorem test_hyp_PacingServo_between : let s := filled 4
    s.Inv ∧ s.asleep = false ∧ s.markLines (s.fld F.SCAN_MARK0_PACE_LO) < s.fill ∧
    s.fill < s.markLines (s.fld F.SCAN_MARK0_PACE_HI) ∧ s.fill < s.markLines (s.fld F.SCAN_MARK1_HOLD) := by unfold State.Inv; decide
theorem test_hyp_PacingServo_high : let s := filled 6
    s.markLines (s.fld F.SCAN_MARK0_PACE_LO) < s.fill ∧ s.markLines (s.fld F.SCAN_MARK0_PACE_HI) ≤ s.fill ∧
    s.fill < s.markLines (s.fld F.SCAN_MARK1_HOLD) := by decide
theorem test_hyp_PacingServo_brake : let s := scan 2 .holding
    s.op = .holding ∧ s.fld F.SCAN_STATUS_PHASE = 2 ∧ s.groupBusy s.pacedGroup = false ∧ s.bit F.MOT_STATUS_ESTOP_LATCH = false ∧
    (∀ x ∈ s.axesOf s.pacedGroup, s.bit F.MOT_AXIS_STATUS_STALL x = false ∧ s.bit F.MOT_AXIS_STATUS_ENABLED x = true) ∧
    s.pacedGroup < s.groups.length := by decide
theorem test_hyp_PacingServo_turn : (scan 3 .holding).fld F.SCAN_STATUS_PHASE = 3 ∧
    (scan 3 .holding).groupBusy (scan 3 .holding).pacedGroup = false ∧
    ((scan 3 .holding).axis (scan 3 .holding).pacedAxis).pos = (scan 3 .holding).scan.back := by decide
theorem test_hyp_PacingServo_release : let s := scan 4 .holding
    s.op = .holding ∧ s.fld F.SCAN_STATUS_PHASE = 4 ∧ s.groupBusy s.pacedGroup = false ∧
    s.fill ≤ s.markLines (s.fld F.SCAN_MARK1_RESUME) ∧
    (∀ i ∈ s.span, s.bit F.TILE_LANE_STATUS_BLOCK_LOCK i = true ∧ (s.eng i).restarting = none) ∧ s.span ≠ [] ∧ s.owner ≠ none ∧
    s.bit F.MOT_STATUS_ESTOP_LATCH = false ∧ s.axesOf s.pacedGroup ≠ [] ∧
    (∀ x ∈ s.axesOf s.pacedGroup, s.bit F.MOT_AXIS_STATUS_STALL x = false ∧ s.bit F.MOT_AXIS_STATUS_POSITION_LOST x = false ∧
      s.bit F.MOT_AXIS_STATUS_MICROSTEP_UNKNOWN x = false) ∧ s.pacedGroup < s.groups.length := by decide

/-- A job of one tile with line 4 placed and its record in. -/
def lineIn : State := let s := job 1 .running idle
  { s with prod := { s.prod with n0 := some 4, placed := [4], placedTop := 5, next := 4 },
           engs := modifyNth (fun e => { e with recs := [⟨4, []⟩] }) 0 s.engs }
theorem test_hyp_LinesGoThroughTheTree : lineIn.Inv ∧ lineIn.asleep = false ∧ lineIn.op = .running ∧ lineIn.prod.n0 ≠ none ∧
    4 ∈ lineIn.prod.placed ∧ lineIn.nextOut ≤ 4 ∧ (∀ k ∈ lineIn.prod.placed, lineIn.nextOut ≤ k → 4 ≤ k) ∧ lineIn.inputsIn 4 = true ∧
    lineIn.job.lineCount = 0 ∧ lineIn.prod.sealNext = none := by unfold State.Inv; decide
/-- The same as the last line of a job's count, and as the last one below a seal. -/
theorem test_hyp_LinesGoThroughTheTree_bounds :
    let s := { lineIn with job := { lineIn.job with lineCount := 5 }, prod := { lineIn.prod with sealNext := some 5 } }
    s.inputsIn 4 = true ∧ (s.job.lineCount ≠ 0 → 4 < s.job.lineCount) ∧ ∀ l, s.prod.sealNext = some l → 4 < l := by decide
/-- A packet of line 3. -/
def packet : Tree := ⟨3, 0, 0, 0, 0, 0, 0, 0, 0, 0, [], [], false, false, ⟨false, 0, 0, 0, 0⟩, none⟩
/-- The same with the packet in the tree, a kernel that runs and pin 3 pulsing. -/
def inTree : State :=
  setF [(F.ANA_EVT_STATUS_ASSERTED, 12, 0), (F.PIPE_KERNEL_CFG_EN, 1, 0)]
    { lineIn with prod := { lineIn.prod with tree := [packet] },
                  ana := { lineIn.ana with pulses := [(3, 7)] }, sec := { lineIn.sec with kernel := [1] } }
theorem test_hyp_LinesGoThroughTheTree_tree : inTree.Inv ∧ inTree.prod.tree = packet :: [] ∧
    assocGet 3 inTree.ana.pulses = some 7 ∧ 7 ≤ (inTree.at 8).tb ∧ bitAt (inTree.fld F.ANA_EVT_STATUS_ASSERTED) 3 = true ∧
    inTree.bit F.PIPE_KERNEL_CFG_EN = true ∧ inTree.sec.kernel ≠ [] ∧ inTree.prod.tree ≠ [] ∧ inTree.inSpan 0 = true ∧
    (inTree.eng 0).kernelOver = false ∧ 0 < inTree.engs.length := by unfold State.Inv; decide

/-- Engine 6 running, its watchdog armed; the same engine in its restore. -/
def engine (watch restarting : Option Nat) : State :=
  setF [(F.TILE_ENG_STATUS_RUNNING, 1, 6)] { idle with engs := modifyNth (fun e => { e with watch := watch, restarting := restarting }) 6 idle.engs }
theorem test_hyp_EngineFaultRestartsTheEngine : (engine (some 2) none).Inv ∧ (engine (some 2) none).asleep = false ∧
    6 < (engine (some 2) none).engs.length ∧ (engine (some 2) none).season (6 / 4) = .summer ∧
    ((engine (some 2) none).eng 6).restarting = none ∧ (engine (some 2) none).bit F.TILE_ENG_STATUS_RUNNING 6 = true ∧
    (engine (some 2) none).inSpan 6 = false ∧ ((engine (some 2) none).eng 6).starts = [] ∧
    ((engine (some 2) none).eng 6).watch = some 2 ∧ 2 + 5000 ≤ ((engine (some 2) none).at 5002).tb := by unfold State.Inv; decide
/-- The same engine in a restore that BMV0 runs. -/
theorem test_hyp_EngineFaultRestartsTheEngine_ends : let s := setF [(F.BMV_STATUS_STATE, 2, 0)] (engine none (some 2))
    s.Inv ∧ s.asleep = false ∧ s.season (6 / 4) ≠ .winter ∧ (s.eng 6).restarting = some 2 ∧ s.fld F.BMV_STATUS_STATE = 2 := by
  unfold State.Inv; decide

/-- Engine 6 checking its bank 1. -/
def checking : State := { idle with ops := { idle.ops with checks := [(6, 1)] } }
theorem test_hyp_BankChecked : checking.Inv ∧ checking.asleep = false ∧ checking.ops.eqx = none ∧
    checking.ops.checks.find? (fun x => x.1 = 6) = some (6, 1) := by unfold State.Inv; decide

/-- A bank with the header's first 44 bytes `h`, no photosite, its CRC right. -/
def bankOf (h : List Byte) : List Byte := h ++ (le 4 (crc32c (h ++ zeros 11472)) ++ zeros 11472)
theorem test_bank_crc (h : List Byte) (hh : h.length = 44) :
    (bankOf h).length = 11520 ∧ ofLe (slice (bankOf h) 44 4) = bankCrc (bankOf h) := by
  have hle : ∀ c, (le 4 c).length = 4 := fun c => by simp [le]
  have ht : (bankOf h).take 44 = h := List.take_left' hh
  have hd : (bankOf h).drop 48 = zeros 11472 := by
    rw [show (48 : Nat) = 44 + 4 from rfl, ← List.drop_drop, bankOf, List.drop_left' hh, List.drop_left' (hle _)]
  constructor
  · rw [bankOf, List.length_append, List.length_append, hh, hle, zeros, List.length_replicate]
  · rw [bankCrc, ht, hd, slice, bankOf, List.drop_left' hh, List.take_left' (hle _)]
    exact ofLe_le4 (crc32c_lt _)
/-- Its last 20 bytes are zeros. -/
theorem test_bank_end (h : List Byte) (hh : h.length = 44) : (bankOf h).drop 11500 = zeros 20 := by
  have hle : ∀ c, (le 4 c).length = 4 := fun c => by simp [le]
  rw [show (11500 : Nat) = 44 + (4 + 11452) from rfl, ← List.drop_drop, ← List.drop_drop, bankOf, List.drop_left' hh,
    List.drop_left' (hle _), zeros, List.drop_replicate, zeros]
/-- One of form 1 with LREF 0x100 above LDARK, and one of form 2. -/
def bank1 : List Byte := bankOf (1 :: zeros 18 ++ 1 :: zeros 24)
def bank2 : List Byte := bankOf (2 :: zeros 43)
theorem test_bank1_good : bankGood bank1 0 = true ∧ bankForm bank1 = 1 := by
  obtain ⟨hl, hc⟩ := test_bank_crc (1 :: zeros 18 ++ 1 :: zeros 24) (by decide)
  have h4 : ofLe (slice bank1 4 4) = 0 := rfl
  have h14 : toSigned 16 (ofLe (slice bank1 14 2)) = 0 := rfl
  have h16 : toSigned 16 (ofLe (slice bank1 16 2)) = 0 := rfl
  have h18 : ofLe (slice bank1 18 2) = 256 := rfl
  have h20 : ofLe (slice bank1 20 2) = 0 := rfl
  have hf : bankForm bank1 = 1 := rfl
  refine ⟨?_, hf⟩
  rw [bankGood, h4, h14, h16, h18, h20, hf, bank1, hc, hl]; simp
theorem test_bank2_good : bankGood bank2 0 = true ∧ bankForm bank2 = 2 := by
  obtain ⟨hl, hc⟩ := test_bank_crc (2 :: zeros 43) (by decide)
  have hf : bankForm bank2 = 2 := rfl
  have h4 : ofLe (slice bank2 4 4) = 0 := rfl
  refine ⟨?_, hf⟩
  rw [bankGood, h4, hf, bank2, hc, hl]; simp
/-- The last check but one of an Equinox run: engine 6, whose inactive bank is good, and engine 7. -/
def lastChecks : State :=
  { idle with mem := Memory.write idle.mem (bankAddr 6 1) bank2,
              ops := { idle.ops with eqx := some ⟨1, .sess 0, 6, 0, 0, false, [], 0, [], false, 0, [], [], [6, 7]⟩ } }
theorem test_hyp_BankChecked_equinox : lastChecks.Inv ∧ lastChecks.asleep = false ∧ lastChecks.ops.checks.find? (fun x => x.1 = 6) = none ∧
    ([6, 7].filter (· ≠ 6)).isEmpty = false :=
  ⟨⟨Memory.wf_write _ _ (by decide), by decide⟩, by decide, by decide, by decide⟩
theorem test_hyp_BankChecked_good : bankGood (lastChecks.bankBytes 6 (1 - lastChecks.active 6)) (identSerial (lastChecks.lane 6).ident) = true := by
  have h : lastChecks.bankBytes 6 1 = bank2 := by
    have := Memory.read_write (m := idle.mem) (bankAddr 6 1) bank2 (by decide)
    rw [show bank2.length = 11520 from (test_bank_crc _ (by decide)).1] at this
    exact this
  have ha : lastChecks.active 6 = 0 := by decide
  have hs : identSerial (lastChecks.lane 6).ident = 0 := by decide
  rw [ha, hs, h]; exact test_bank2_good.1

/-- A running job with the timebase locked and a recovery begun at 3. -/
def recovering : State := setF [(F.SCHED_STATUS_TB_LOCK, 1, 0)] { job 1 .running idle with flt := { idle.flt with recov := [(1, 3)] } }
theorem test_hyp_FatalErrorStopsTheMachine : recovering.Inv ∧ recovering.asleep = false ∧ recovering.seasons.length = 146 ∧
    recovering.groups.length = 4 ∧ recovering.op ≠ .faultHold ∧ recovering.bit F.SCHED_STATUS_TB_LOCK = true ∧
    (1, 3) ∈ recovering.flt.recov ∧ (1, 3).2 + 200000 ≤ (recovering.at 200003).tb := by unfold State.Inv; decide

theorem test_hyp_ControlPairsRecover : idle.Inv ∧ idle.asleep = false ∧ idle.controlUp = true ∧ idle.pairDown = false ∧
    idle.flt.recov = [] ∧ idle.pairRecovers 1 = false ∧
    nthD 0 idle.flt.served 1 + 1000 * idle.fld F.FLT_WDOG_PAIR_US ≤ (idle.at 900000000).tb := by unfold State.Inv; decide
theorem test_hyp_ControlPairsRecover_ends : let s := { idle with tb := 50, flt := { idle.flt with recov := [(1, 20)] } }
    s.Inv ∧ s.asleep = false ∧ s.controlUp = true ∧ s.flt.recov = [(1, 20)] := by unfold State.Inv; decide

/-- FAULT_HOLD with the dump's copy running and a restart due; a record that waits to be copied. -/
def fault : State := { idle with op := .faultHold, flt := { idle.flt with copying := true, restartAt := some 5 } }
def logged (d : Option Nat) : State := { idle with tb := 60000000000, flt := { idle.flt with ring := [zeros 32], seq := 1, deferAt := d } }
theorem test_hyp_DumpAndLogReachFlash : fault.Inv ∧ fault.asleep = false ∧ fault.op = .faultHold ∧ fault.flt.copying = true ∧
    fault.flt.restartAt = some 5 ∧ 5 ≤ (fault.at 9).tb := by unfold State.Inv; decide
theorem test_hyp_DumpAndLogReachFlash_log : (logged none).Inv ∧ (logged none).uncopied ≠ [] ∧ (logged none).flt.deferAt = none ∧
    ((logged none).at 0).logDue = true ∧ (logged (some 4)).flt.deferAt = some 4 ∧ 4 ≤ ((logged (some 4)).at 0).tb := by
  unfold State.Inv; decide

/-- A suppression window of one key with `n` written and `d` dropped. -/
def window (n d : Nat) : State := { idle with flt := { idle.flt with windows := [⟨suppKey 5 7 3, 0, n, d⟩] } }
theorem test_hyp_BurgeesAreSuppressed : (window 16 9).Inv ∧ idle.flt.windows.find? (fun w => w.key = suppKey 5 7 3) = none ∧
    clsWarn ≠ clsFatal ∧ (window 15 0).flt.windows.find? (fun w => w.key = suppKey 5 7 3) = some ⟨suppKey 5 7 3, 0, 15, 0⟩ ∧
    (window 16 9).flt.windows.find? (fun w => w.key = suppKey 5 7 3) = some ⟨suppKey 5 7 3, 0, 16, 9⟩ ∧
    (window 16 9).tb < 0 + 1000000000 ∧ (window 16 9).asleep = false ∧ 0 + 1000000000 ≤ ((window 16 9).at 1000000000).tb := by
  unfold State.Inv; decide

theorem test_hyp_ResetsKeepAlwaysOn : State.reset.Inv ∧ own.Inv := by unfold State.Inv; decide

/-- The device in Winter with both ways to wake it set. -/
def winter : State := setF [(F.PWR_WAKE_CFG_WAKE_N_EN, 1, 0), (F.PWR_WAKE_CFG_BMP_EN, 1, 0)] { State.reset with op := .idle }
theorem test_hyp_WinterEndsOnlyByWakeOrReset : winter.Inv ∧ winter.asleep = true ∧ winter.bit F.PWR_WAKE_CFG_WAKE_N_EN = true ∧
    winter.bit F.PWR_WAKE_CFG_BMP_EN = true ∧ 0x3A = 0x3A + winter.env.strap % 4 ∧ 0x3B ≠ 0x3A + winter.env.strap % 4 ∧
    idle.asleep = false ∧ (setF [(F.PWR_WAKE_CFG_WAKE_N_EN, 0, 0)] winter).bit F.PWR_WAKE_CFG_WAKE_N_EN = false ∧ idle.env.pwrFail = false ∧
    State.reset.op = .boot ∧ State.reset.season 140 = .winter ∧ State.reset.env.testMode = false ∧
    State.reset.seasons.length = 146 := by unfold State.Inv; decide

/-- The bar management bus with a retry waiting, losses counted and the line ignored. -/
def bus : State := setF [(F.MBUS_BMB_CFG_ALERT_EN, 1, 0), (F.MBUS_BMB_STATUS_ALERT_LIVE, 1, 0)]
  { idle with bmb := { idle.bmb with losses := 3, retry := some (9, [1], 2), alertReads := 7 } }
theorem test_hyp_BarManagementBusTransactions : bus.Inv ∧ bus.asleep = false ∧ bus.bmbUsable = true ∧
    bus.bmb.retry = some (9, [1], 2) ∧ bus.bmb.retryAt ≤ 5 ∧ bus.season domUnc = .summer ∧ bus.bit F.MBUS_BMB_STATUS_STUCK = false ∧
    3 ≤ bus.bmb.losses ∧ idle.bmb.losses < 3 ∧ idle.bmbUsable = true := by unfold State.Inv; decide
theorem test_hyp_AlertsAreReadAndAStuckLineIgnored : bus.bit F.MBUS_BMB_CFG_ALERT_EN = true ∧ bus.bmb.ignoreUntil = none ∧
    bus.bit F.MBUS_BMB_STATUS_ALERT_LIVE = true ∧ 7 ≤ bus.bmb.alertReads ∧
    ({ bus with bmb := { bus.bmb with alertReads := 0, ignoreUntil := some 3 } }).bmb.ignoreUntil = some 3 ∧
    ({ bus with bmb := { bus.bmb with alertReads := 0 } }).bmb.alertReads < 7 := by decide

/-! Host commands on session 0. -/

/-- A move of group 1 to position 7 and a group that runs and holds two. -/
def mv : List Byte := be 1 1 ++ be 1 0 ++ be 2 7 ++ be 4 256000 ++ be 4 1000000 ++ be 4 0 ++ zeros 64
def twoQueued : State :=
  { own with groups := modifyNth (fun g => { g with run := some moving, queue := [moveOf mv, moveOf mv] }) 1 idle.groups }
theorem test_hyp_MotionCommandsTakeEffect_queue : twoQueued.Inv ∧ twoQueued.groups.length = 4 ∧ twoQueued.axes.length = 8 ∧
    twoQueued.takes (.sess 0) 0x0501 mv ∧ byteAt mv 0 = 1 ∧ twoQueued.moveBadAt mv = none ∧ twoQueued.pacedHeld 1 = false ∧
    twoQueued.mediaHeld 1 = false ∧ (twoQueued.group 1).used = false ∧ (twoQueued.group 1).halting = false ∧
    (twoQueued.group 1).homing = none ∧ (twoQueued.group 1).queue.length < 64 ∧ twoQueued.groupFaulty 1 = false ∧
    (twoQueued.group 1).run.isSome = true ∧ twoQueued.takes (.sess 0) 0x0502 [1] ∧ byteAt [1] 0 < 4 := by
  unfold State.Inv State.takes; decide
/-- Axis 2 of group 1 enabled at rest. -/
def axisAtRest : State := setF [(F.MOT_AXIS_CFG_GROUP, 1, 2), (F.MOT_AXIS_STATUS_ENABLED, 1, 2)] own
theorem test_hyp_MotionCommandsTakeEffect_axis : let s := axisAtRest
    s.Inv ∧ s.groups.length = 4 ∧ s.axes.length = 8 ∧ s.takes (.sess 0) 0x0503 [2] ∧ s.takes (.sess 0) 0x0504 [2, 0, 0] ∧
    s.takes (.sess 0) 0x0504 [2, 1, 1] ∧ s.fld F.MOT_AXIS_CFG_GROUP 2 = 1 ∧
    s.pulsesClash 2 (256 * s.fld F.MOT_AXIS_HOME_V_FAST 2) = false ∧ byteAt [2, 1, 1] 2 ≤ 1 ∧ s.groupMoving 1 = false ∧ s.pacedHeld 1 = false ∧ s.mediaHeld 1 = false ∧
    (s.group 1).used = false ∧ (s.group 1).halting = false ∧ s.groupBusy 1 = false ∧ s.bit F.MOT_STATUS_ESTOP_LATCH = false ∧
    s.bit F.MOT_AXIS_STATUS_ENABLED 2 = true ∧ s.bit F.MOT_AXIS_CFG_ENC_EN 2 = false := by unfold State.Inv State.takes; decide

/-- Axis 2 bound to encoder 2, which stands 5,000 counts off; the window is reached and passed. -/
def encAxis (off : Int) : State :=
  let s := setF [(F.MOT_AXIS_CFG_ENC_EN, 1, 2)] axisAtRest
  { s with encs := modifyNth (fun e => { e with pos := off }) (s.fld F.MOT_AXIS_CFG_ENC 2) s.encs }
theorem test_hyp_MotionCommandsTakeEffect_encoder : (encAxis 0).Inv ∧ (encAxis 0).takes (.sess 0) 0x0504 [2, 1, 0] ∧
    (encAxis 0).bit F.MOT_AXIS_CFG_ENC_EN 2 = true ∧
    ((encAxis 0).followErr 2).natAbs ≤ (encAxis 0).fld F.MOT_AXIS_WINDOW_WINDOW 2 ∧
    (encAxis 0x7FFFFFFF).fld F.MOT_AXIS_WINDOW_WINDOW 2 < ((encAxis 0x7FFFFFFF).followErr 2).natAbs := by
  unfold State.Inv State.takes; decide

/-- Sections 254 and 255 with six bytes each. -/
def duties : List Byte := be 2 254 ++ be 2 2 ++ [1, 2, 3, 4, 5, 6, 7, 8, 9, 10, 11, 12]
theorem test_hyp_LightAndTileCommandsTakeEffect : own.takes (.sess 0) 0x0601 duties ∧ beAt duties 0 2 + beAt duties 2 2 ≤ 256 ∧
    svc.takes (.sess 0) 0x0602 (be 2 255) ∧ beAt (be 2 255) 0 2 < 256 ∧ svc.takes (.sess 0) 0x0602 (be 2 0xFFFF) ∧
    svc.takes (.sess 0) 0x0204 (be 2 511 ++ [4, 3] ++ 1 :: be 2 9) ∧ (∀ i, i < 512 → svc.recFlag i 0 = false) ∧ svc.bcbs.length = 4 ∧ svc.opRuns = false ∧ svc.ops.diag = none ∧ own.Inv ∧ svc.Inv ∧
    svc.takes (.sess 0) 0x0204 (be 2 130 ++ [2, 0]) ∧ beAt (be 2 130 ++ [2, 0]) 0 2 < 511 ∧ 2 ∈ hostTileOps ∧
    svc.ops.tileCmd = none ∧ 130 / 128 < svc.bcbs.length := by unfold State.Inv State.takes; decide
/-- A light diagnosis of section 70 begun at 0 by session 0. -/
def diagRun : State :=
  { svc with ops := { svc.ops with diag := some ⟨.sess 0, [70], [(1, 0)], [(1, 0)], 0⟩ },
             cmds := modifyNth (fun c => { c with run := some { op := 0x0602, direct := true } }) 0 svc.cmds }
theorem test_hyp_LightAndTileCommandsTakeEffect_end : diagRun.Inv ∧ diagRun.asleep = false ∧
    diagRun.ops.diag = some ⟨.sess 0, [70], [(1, 0)], [(1, 0)], 0⟩ ∧ 0 + 100000000 ≤ (diagRun.at 100000000).tb ∧
    (diagRun.cmd (.sess 0)).run = some { op := 0x0602, direct := true } ∧ 1 < diagRun.chains.length ∧ pathIdx (.sess 0) < diagRun.cmds.length := by unfold State.Inv; decide

/-- Line memory and tile 0 with its record, fit for a job. -/
def fit (s : State) : State :=
  setF [(F.TILE_STATUS_PRESENT, 1, 0), (F.TILE_STATUS_IDENT_OK, 1, 0), (F.TILE_STATUS_IDENT_IN_LIMITS, 1, 0), (F.LINE_PITCH_HI_INT, 1, 0),
    (F.QDR_STATUS_USABLE, 1, 0), (F.QDR_SIZE_MIB, 128, 0)] (s.writeMem (recAddr 0 + 11888) [1])
/-- A job of tile 0, 1,000 lines a second, 10 lines. -/
def jd : List Byte := [0, 0] ++ be 2 0 ++ be 2 1 ++ [0, 0] ++ be 4 1000 ++ be 4 10
theorem test_hyp_JobCommandsMoveTheState_define : (fit own).Inv ∧ (fit own).seasons.length = 146 ∧
    (fit own).takes (.sess 0) 0x0301 jd ∧ (fit own).jobHeader jd = none ∧ pairsAt jd 16 = [] ∧ (fit own).bmvUsed = false ∧
    (fit own).opRuns = false := by unfold State.Inv State.takes; decide
theorem test_hyp_JobCommandsMoveTheState_trial : let u := (fit own).jobTrial jd []
    (∀ c ∈ u.jobChecks, c.1 = true) ∧ u.fld F.QDR_ELASTIC_BASE_ADDR + 0x100000 ≤ u.qdrEnd := by decide
/-- The job defined, in a state, for a role. -/
def jobIn (role : Nat) (op : Op) : State := job 1 op (fit (opened role idle))
theorem test_hyp_JobCommandsMoveTheState : (jobIn 0 .idle).Inv ∧ (jobIn 0 .idle).seasons.length = 146 ∧
    (jobIn 0 .idle).takes (.sess 0) 0x0302 [] ∧ (jobIn 0 .idle).job.defined = true ∧ (jobIn 0 .idle).opRuns = false ∧ (jobIn 0 .idle).bmvUsed = false ∧
    (jobIn 0 .idle).qdrUsable = true ∧ (jobIn 0 .armed).takes (.sess 0) 0x0303 [] ∧
    (jobIn 0 .running).takes (.sess 0) 0x0304 [] ∧ (jobIn 0 .holding).takes (.sess 0) 0x0305 [] ∧
    (jobIn 0 .holding).ops.arm = none ∧ (jobIn 0 .holding).ops.eqx = none := by unfold State.Inv State.takes; decide
/-- Chain 0 of the armed job with its commit mark due, and with the mark sent and its window over. -/
theorem test_hyp_JobCommandsMoveTheState_start : (∀ c ∈ (jobIn 0 .armed).driven, ((jobIn 0 .armed).chain c).markDue = none ∧
      ((jobIn 0 .armed).chain c).marked = false) ∧ (jobIn 0 .armed).driven ≠ [] ∧
    (let s := jobIn 0 .armed
     let m := { s with tb := s.fld F.SCHED_LUM_GATE_W + 6000, chains := modifyNth (fun x => { x with marked := true }) 0 s.chains }
     (m.chain 0).marked = true ∧ m.sched.lastGate + m.fld F.SCHED_LUM_GATE_W + 6000 ≤ m.tb) ∧
    let w := { jobIn 0 .armed with chains := modifyNth (fun x => { x with markDue := some 40 }) 0 (jobIn 0 .armed).chains }
    w.Inv ∧ w.takes (.sess 0) 0x0303 [] ∧ ∃ c ∈ w.driven, (w.chain c).markDue ≠ none := by
  unfold State.Inv State.takes; decide
theorem test_hyp_JobCommandsMoveTheState_service : (opened 2 idle).Inv ∧ (opened 2 idle).takes (.sess 0) 0x0808 [] ∧
    (opened 2 idle).opRuns = false ∧ svc.takes (.sess 0) 0x0809 [] ∧ svc.opRuns = false ∧ svc.ops.diag = none ∧
    svc.bmvUsed = false ∧ svc.testsOn = false ∧ svc.seasons.length = 146 ∧ own.takes (.sess 0) 0x0901 [0] ∧ byteAt [0] 0 = 0 ∧
    (∀ g, g < 4 → own.groupBusy g = false) ∧ own.opRuns = false ∧ own.bmvUsed = false := by
  unfold State.Inv State.takes; decide

/-- The alignment and thermal command of tile 0; an alignment of session 0 that captures or not. -/
def alp : List Byte := [0, 0, 0, 0] ++ be 2 0 ++ be 2 1 ++ be 2 0 ++ be 2 0 ++ be 8 0x40000000 ++ be 4 0 ++ be 4 1000
def thp : List Byte := be 2 0 ++ be 2 1 ++ [15, 0] ++ be 2 60 ++ be 2 0 ++ be 2 0
def al : AlignOp := ⟨.sess 0, 0, 0, 0, 0, 1, 0, 0, 0x40000000, 0, 1000, 0, false, 0, 0⟩
theorem test_hyp_CalibrationsRunAndEnd_equinox : let s := jobIn 0 .idle
    s.Inv ∧ s.takes (.sess 0) 0x0401 [] ∧ s.op = .idle ∧ s.opRuns = false ∧ s.qdrUsable = true ∧
    s.bit F.PIPE_BANK_STATUS_ARMED = false ∧ s.bit F.PIPE_BANK_STATUS_PENDING = false ∧
    s.bit F.PIPE_BANK_STATUS_VERIFY_BUSY = false := by unfold State.Inv State.takes; decide
theorem test_hyp_CalibrationsRunAndEnd_still : let s := setF [(F.SCHED_STATUS_STILL, 1, 0)] (jobIn 0 .running)
    s.takes (.sess 0) 0x0401 [] ∧ s.op = .running ∧ s.bit F.SCHED_STATUS_STILL = true ∧ s.opRuns = false := by
  unfold State.takes; decide
theorem test_hyp_CalibrationsRunAndEnd_align : let s := jobIn 2 .idle
    s.Inv ∧ s.takes (.sess 0) 0x0402 alp ∧ s.opRuns = false ∧ s.bmvUsed = false ∧ s.qdrUsable = true ∧ byteAt alp 0 ≤ 2 ∧
    byteAt alp 1 = 0 ∧ byteAt alp 2 ≤ 3 ∧ byteAt alp 3 = 0 ∧ beAt alp 4 2 = 0 ∧ beAt alp 6 2 = 1 ∧ beAt alp 12 8 = 0x40000000 ∧
    beAt alp 24 4 = 1000 ∧ s.bit F.TILE_STATUS_PRESENT 0 = true ∧ s.bit F.TILE_STATUS_IDENT_OK 0 = true ∧
    s.bit F.TILE_STATUS_IDENT_IN_LIMITS 0 = true := by unfold State.Inv State.takes; decide
theorem test_hyp_CalibrationsRunAndEnd_thermal : let s := (jobIn 2 .idle).writeMem (recAddr 0 + 5) [3]
    s.Inv ∧ s.takes (.sess 0) 0x0403 thp ∧ s.opRuns = false ∧ s.bmvUsed = false ∧ s.qdrUsable = true ∧
    0 < beAt thp 2 2 ∧ beAt thp 0 2 + beAt thp 2 2 ≤ 512 ∧ (∀ i, i < 1 → s.recFlag (0 + i) 0 = true ∧ s.recFlag (0 + i) 1 = true) ∧
    15 ≤ byteAt thp 4 ∧ byteAt thp 4 ≤ 40 ∧ byteAt thp 5 = 0 ∧ 60 ≤ beAt thp 6 2 ∧ beAt thp 6 2 ≤ 7200 ∧ beAt thp 10 2 = 0 := by
  unfold State.Inv State.takes; decide
/-- An alignment of tile 0 with what its engine has tracked. -/
def aligning (tr : List Track) : State :=
  { svc with ops := { svc.ops with align := some ⟨.sess 0, 0, 0, 0, 0, 1, 0, 0, 0x40000000, 0, 1000, 0, true, 0, 0⟩ },
             engs := modifyNth (fun e => { e with tracks := tr }) 0 svc.engs }
theorem test_hyp_CalibrationsRunAndEnd_captured : (aligning []).Inv ∧ (aligning []).asleep = false ∧
    (aligning []).ops.align.isSome = true ∧ (∃ i ∈ (aligning []).workTiles, ((aligning []).eng i).tracks = []) ∧
    (let s := aligning (List.replicate 4 { cross := List.replicate 16 0 })
     ∀ i ∈ s.workTiles, (s.eng i).tracks ≠ [] ∧ ∀ x ∈ (s.eng i).tracks, x.cross.length = 16) ∧
    (aligning [{}]).noEdges = true ∧ 0 + 1000000 * 1000 ≤ ((aligning [{}]).at 1000000000).tb := by unfold State.Inv; decide
/-- A thermal characterisation of tile 0. -/
def thermal : State := { svc with ops := { svc.ops with therm := some ⟨.sess 0, 0, 1, 20, 0, 60, 0, []⟩ } }
theorem test_hyp_CalibrationsRunAndEnd_therm : thermal.Inv ∧ thermal.asleep = false ∧
    thermal.ops.therm = some ⟨.sess 0, 0, 1, 20, 0, 60, 0, []⟩ ∧ thermal.ops.eqx = none ∧
    0 + 1000000000 * 60 ≤ (thermal.at 60000000000).tb := by unfold State.Inv; decide

/-- A calibration of tile 0 that has taken its last white line, its sums good. -/
def run5 : Eqx := ⟨1, .sess 0, 5, 0, 0, false, [], 0, [], false, 0, [], [], []⟩
def summed : State :=
  let s := jobIn 0 .calibrating
  ({ s with ops := { s.ops with eqx := some run5 } }).writeMem (bankAddr 0 (1 - s.active 0)) (le 4 0 ++ le 4 100000 ++ le 4 48 ++ le 4 48)
theorem test_hyp_CalibrationsRunAndEnd_summed : summed.Inv ∧ summed.asleep = false ∧ summed.ops.eqx = some run5 ∧
    run5.phase = 5 ∧ run5.src ≠ 4 ∧ summed.sched.expo = none ∧ run5.lampClip = false ∧ summed.workTiles = [0] ∧
    (summed.lane 0).slot = none ∧ (summed.sums 0).kD = 48 ∧ (summed.sums 0).kW = 48 ∧
    (summed.sums 0).ldark + 0x100 ≤ (summed.sums 0).lref := by unfold State.Inv; decide

/-- A piece of tile 0's object of a kind. -/
def piece (kind last off : Nat) (d : List Byte) : List Byte := be 2 0 ++ be 1 kind ++ be 1 last ++ be 4 off ++ d
/-- A geometry object whose coefficients are in order. -/
def geometry : List Byte := zeros 4 ++ le 2 300 ++ le 2 200 ++ le 2 100 ++ zeros 10
/-- A compatibility job of tile 0 in SERVICE that holds a first part of an object. -/
def holding (kind : Nat) (d : List Byte) : State :=
  (setF [(F.PIPE_SHADE_CFG_FORM, 1, 0)] (job 1 .service (fit svc))).modCmd (.sess 0) (fun c => { c with coef := some ⟨0, kind, d⟩ })
/-- With room to work and power to store. -/
def rich (s : State) : State :=
  { setF [(F.PWR_HOLDUP_C_UF, 1000000, 0), (F.PWR_HOLDUP_V_DIV, 4096, 0)] s with env := { s.env with holdupCode := 8388607 } }
theorem test_hyp_RecordsRowsAndConfigAreStored_piece : let s := fit svc
    s.Inv ∧ s.takes (.sess 0) 0x0404 (piece 0 0 0 [1, 2, 3]) ∧ beAt (piece 0 0 0 [1, 2, 3]) 0 2 < 512 ∧ s.qdrUsable = true ∧
    s.recPresent 0 = true ∧ (s.cmd (.sess 0)).coef = none ∧ beAt (piece 0 0 0 [1, 2, 3]) 4 4 = 0 ∧
    ((piece 0 0 0 [1, 2, 3]).drop 8).length ≤ coefSize 0 := by unfold State.Inv State.takes; decide
theorem test_hyp_RecordsRowsAndConfigAreStored_geometry : let s := fit svc
    s.takes (.sess 0) 0x0404 (piece 0 1 0 geometry) ∧ byteAt (piece 0 1 0 geometry) 3 = 1 ∧
    ((piece 0 1 0 geometry).drop 8).length = coefSize 0 ∧ s.coefOk ⟨0, 0, geometry⟩ = true := by unfold State.takes; decide
theorem test_hyp_RecordsRowsAndConfigAreStored_bank : ∀ k ∈ [1, 2, 3], let s := holding k (zeros 8)
    s.Inv ∧ s.takes (.sess 0) 0x0404 (piece k 1 11500 (zeros 20)) ∧ byteAt (piece k 1 11500 (zeros 20)) 3 = 1 ∧ k ≤ 3 ∧
    s.compat = true ∧ s.inSpan 0 = true ∧ s.qdrUsable = true ∧ s.recPresent 0 = true ∧ (s.cmd (.sess 0)).coef = some ⟨0, k, zeros 8⟩ ∧
    beAt (piece k 1 11500 (zeros 20)) 4 4 = 11500 ∧ (piece k 1 11500 (zeros 20)).drop 8 = zeros 20 := by
  unfold State.Inv State.takes; decide
theorem test_hyp_RecordsRowsAndConfigAreStored_whole : ∀ b ∈ [(1, bank1), (2, bank2)],
    (b.2.take 11500).length = 11500 ∧ b.2.take 11500 ++ zeros 20 = b.2 ∧ b.2.length = coefSize b.1 ∧
    (holding b.1 []).coefOk ⟨0, b.1, b.2⟩ = true := by
  have h : ∀ h : List Byte, h.length = 44 → ((bankOf h).take 11500).length = 11500 ∧ (bankOf h).take 11500 ++ zeros 20 = bankOf h :=
    fun h hh => ⟨by rw [List.length_take, (test_bank_crc h hh).1]; rfl, by rw [← test_bank_end h hh, List.take_append_drop]⟩
  have hs : identSerial ((holding 1 []).lane 0).ident = 0 ∧ identSerial ((holding 2 []).lane 0).ident = 0 := by decide
  simp only [List.forall_mem_cons, List.not_mem_nil, false_imp_iff, implies_true, and_true]
  refine ⟨⟨(h _ (by decide)).1, (h _ (by decide)).2, (test_bank_crc _ (by decide)).1, ?_⟩, (h _ (by decide)).1, (h _ (by decide)).2,
    (test_bank_crc _ (by decide)).1, ?_⟩
  · simp only [State.coefOk, hs.1, test_bank1_good]; rfl
  · simp only [State.coefOk, hs.2, test_bank2_good]; rfl
theorem test_hyp_RecordsRowsAndConfigAreStored_lines (d : List Byte) : (holding 3 []).coefOk ⟨0, 3, d⟩ = true ∧ coefSize 3 = 7628 + 20 :=
  ⟨rfl, rfl⟩
/-- The energy that a store asks for is there. -/
def hasEnergy (s : State) (ers pages wireNs : Nat) : Prop :=
  let num := s.env.holdupCode * 5 * s.fld F.PWR_HOLDUP_V_DIV
  let den := 2 ^ 23 * 4 * 2 ^ s.fld F.MON_URG_HOLDUP_CFG_GAIN * 256
  let vmin := s.fld F.PWR_HOLDUP_V_VMIN_MV
  s.env.pwrFail = false ∧ 3 * (s.fld F.PWR_STORE_P_P_MW * (ers * s.fld F.PWR_FLASH_T_T_ER32_MS * 1000000 +
    pages * s.fld F.PWR_FLASH_T_T_PP_US * 1000 + wireNs) * 1000) ≤
    2 * (s.fld F.PWR_HOLDUP_C_UF * (num * num * 1000000 - vmin * vmin * (den * den)) * 1000 / (2 * (den * den)))
theorem test_hyp_RecordsRowsAndConfigAreStored_save : let s := rich svc
    s.Inv ∧ s.takes (.sess 0) 0x0405 [0] ∧ byteAt [0] 0 = 0 ∧ hasEnergy s 2 182 116480 ∧ hasEnergy s 2 256 163840 ∧
    s.takes (.sess 0) 0x0801 [] ∧ (∀ i, i < 512 → s.recPresent i = true → s.recUnsaved i = false) ∧
    { s with env := { s.env with pwrFail := true } }.takes (.sess 0) 0x0405 [0] := by unfold State.Inv State.takes hasEnergy; decide
/-- Tile 3's record alone present and unsaved. Programming succeeds at a place where the free value says so, and only then. -/
def unsaved : State := (rich svc).writeMem (recAddr 3 + 11888) [3]
theorem test_hyp_RecordsRowsAndConfigAreStored_unsaved : unsaved.Inv ∧ unsaved.takes (.sess 0) 0x0405 [0] ∧
    hasEnergy unsaved 2 182 116480 ∧ ∀ j, j < 512 → ((unsaved.recPresent j = true ∧ unsaved.recUnsaved j = true) ↔ j = 3) := by
  unfold State.Inv State.takes hasEnergy; decide
theorem test_hyp_RecordsRowsAndConfigAreStored_programmed (n : Nat) (h : Config.progOk n = true) (h3 : Config.progOk (n + 3) = true) :
    let s := { unsaved with free := n }
    Config.progOk s.free = true ∧ Config.progOk (s.free + 3) = true := ⟨h, h3⟩
/-- A whole row of one tile, and its first half. -/
def row : List Byte := be 4 9 ++ be 4 0 ++ [1, 0, 0, 0] ++ List.replicate 180 5
def halfRow : List Byte := be 4 9 ++ be 4 0 ++ [0, 0, 0, 0] ++ List.replicate 90 5
theorem test_hyp_RecordsRowsAndConfigAreStored_row : let s := jobIn 0 .armed
    s.Inv ∧ s.takes (.sess 0) 0x0701 row ∧ byteAt row 8 = 1 ∧ beAt row 9 3 = 0 ∧ s.qdrUsable = true ∧
    (s.cmd (.sess 0)).raster = none ∧ beAt row 4 4 = 0 ∧ (row.drop 12).length = 180 * s.job.count ∧
    s.rowPinned (beAt row 0 4) = false ∧ s.takes (.sess 0) 0x0701 halfRow ∧ byteAt halfRow 8 = 0 := by
  unfold State.Inv State.takes; decide
/-- ANA_REF_COL twice; the same and an address outside the block. -/
def vcfg : List Byte := be 4 0xF0014 ++ be 4 1 ++ be 4 0xF0014 ++ be 4 0x1FFFF
def vbad : List Byte := vcfg ++ be 4 0xEFFFC ++ be 4 0
theorem test_hyp_RecordsRowsAndConfigAreStored_config : let s := jobIn 0 .idle
    (s.takes (.sess 0) 0x0702 vcfg ∧ (∀ e ∈ pairsAt vcfg 0, e.1 = 0xF0014) ∧ s.takes (.sess 0) 0x0702 vbad ∧
      (pairsAt vbad 0)[2]? = some (0xEFFFC, 0) ∧ (∀ x ∈ (pairsAt vbad 0).take 2, 0xF0000 ≤ x.1 ∧ x.1 ≤ 0xFFFFF) ∧
      (jobIn 0 .running).takes (.sess 0) 0x0703 [] ∧ (jobIn 0 .running).ops.stats = none) ∧ s.mayWrite (.sess 0) :=
  ⟨by unfold State.takes; decide, may_owner _ (by decide) (by decide) (by decide)⟩
theorem test_hyp_RecordsRowsAndConfigAreStored_stats : let s := { (jobIn 0 .running).begun (.sess 0) 0x0703 with ops := { idle.ops with stats := some (.sess 0, 0) } }
    s.Inv ∧ s.asleep = false ∧ s.ops.stats = some (.sess 0, 0) ∧ 0 + 100000000 ≤ (s.at 100000000).tb ∧
    (s.cmd (.sess 0)).run = some { op := 0x0703, direct := true } := by unfold State.Inv; decide

/-- An update of `size` bytes of which `got` are here. -/
def updating (size got : Nat) : State :=
  { svc with ops := { svc.ops with update := some ⟨.sess 0, size, 2, got, List.replicate got 1⟩ } }
theorem test_hyp_UpdatesAndReportsAnswer_update : (opened 2 idle).takes (.sess 0) 0x0802 (be 4 8388608) ∧
    0 < beAt (be 4 8388608) 0 4 ∧ beAt (be 4 8388608) 0 4 ≤ 8388608 ∧ (opened 2 idle).opRuns = false ∧ (opened 2 idle).bmvUsed = false ∧
    (updating 100 4).Inv ∧ (updating 100 4).takes (.sess 0) 0x0803 (be 4 4 ++ zeros 96) ∧ beAt (be 4 4 ++ zeros 96) 0 4 = 4 ∧
    4 + ((be 4 4 ++ zeros 96).drop 4).length ≤ 100 ∧ (updating 4 4).takes (.sess 0) 0x0804 [] ∧ (updating 4 4).op = .service := by
  unfold State.Inv State.takes; decide
theorem test_hyp_UpdatesAndReportsAnswer_attest : own.Inv ∧ own.takes (.sess 0) 0x0103 (zeros 32) ∧
    (Config.identityOk (own.readMem flashIdent 65536) = true ∨ Config.identityOk (own.readMem flashIdent 65536) = false) :=
  ⟨by unfold State.Inv; decide, by unfold State.takes; decide, by cases Config.identityOk (own.readMem flashIdent 65536) <;> simp⟩
theorem test_hyp_UpdatesAndReportsAnswer_reports : let s := jobIn 2 .idle
    let d := be 4 0x3FFFF0 ++ be 4 16
    let l := be 2 0 ++ be 2 1024
    s.takes (.sess 0) 0x0805 d ∧ s.qdrUsable = true ∧ beAt d 4 4 % 8 = 0 ∧ 8 ≤ beAt d 4 4 ∧ beAt d 0 4 + beAt d 4 4 ≤ 0x400000 ∧
    s.takes (.sess 0) 0x0806 l ∧ 1 ≤ beAt l 2 2 ∧ beAt l 2 2 ≤ 1024 := by unfold State.takes; decide
theorem test_hyp_UpdatesAndReportsAnswer_reserve : let s := job 1 .idle own
    s.Inv ∧ 0 < s.sessions.length ∧ s.takes (.sess 0) 0x0104 [0, 0, 0, 5] ∧
    (s.modTx 0 (fun x => { x with rend := 0, reserved := false, lag := 5, owed := [], segs := [], cutting := none,
                                  served := 0 })).admitted = true := by unfold State.Inv State.takes; decide

/-- Tile 5 selected, port 3 selected. -/
def selected (s : State) : State := { s with banks := modifyNth (fun b => { b with sels := [5, 0, 0, 0, 0, 3, 0] }) 0 s.banks }
/-- Both plain registers, and after them an address with no register. -/
def plains : List Byte := be 4 0x60008 ++ be 4 1 ++ be 4 0xF0014 ++ be 4 7
def absent : List Byte := plains ++ be 4 0xFFFFC ++ be 4 0
theorem test_hyp_RegisterAccessesReadAndWrite : (own.Inv ∧ own.recoveryPath (.sess 0) = false ∧ own.takes (.sess 0) 0x0202 plains ∧
    own.season domUnc = .summer ∧ (∀ e ∈ pairsAt plains 0, e.1 = 0x60008 ∨ e.1 = 0xF0014) ∧ own.takes (.sess 0) 0x0202 absent ∧
    (pairsAt absent 0)[2]? = some (0xFFFFC, 0) ∧ (∀ x ∈ (pairsAt absent 0).take 2, x.1 = 0x60008 ∨ x.1 = 0xF0014)) ∧
    regAt 0xFFFFC = none ∧ own.mayWrite (.sess 0) :=
  ⟨by unfold State.Inv State.takes; decide, by decide +kernel, may_owner _ (by decide) (by decide) (by decide)⟩
/-- REG_MODIFY of ANA_REF_COL, and REG_READ of both. -/
def modifyCol : List Byte := be 4 0xF0014 ++ be 4 0xFF ++ be 4 0x33
def readBoth : List Byte := be 4 0x60008 ++ be 4 0xF0014
theorem test_hyp_RegisterAccessesReadAndWrite_modify : own.takes (.sess 0) 0x0203 modifyCol ∧ beAt modifyCol 0 4 = 0xF0014 ∧
    (∀ a ∈ [0x60008, 0xF0014], assocGet (latchKey a 0 0) (own.bank (.sess 0)).latches = none) ∧
    own.fld F.ANA_REF_COL_COL_OFF < 2 ^ 16 ∧ own.fld F.MOT_CFG_ESTOP_DRV_DIS < 2 ∧ own.takes (.sess 0) 0x0201 readBoth ∧
    (chunksOf 4 256 readBoth).map ofBe = [0x60008, 0xF0014] ∧ (∀ a ∈ [0x60008, 0xF0014], (regAt a).isSome = true) ∧
    own.takes (.sess 0) 0x0202 (zeros 8) ∧ pathIdx (.sess 0) < own.banks.length ∧ (own.bank (.sess 0)).sels.length = 7 := by
  unfold State.takes; decide
/-- REG_MODIFY of TILE_SEL. -/
def modifySel : List Byte := be 4 0x20000 ++ be 4 0xFF ++ be 4 0x33
theorem test_hyp_RegisterAccessesReadAndWrite_latch : own.asleep = false ∧ own.pathOpen (.sess 0) = true ∧ own.op ≠ .boot ∧
    assocGet (latchKey 0x40060 0 0) (own.bank (.sess 0)).latches = none ∧
    assocGet (latchKey 0x30028 0 0) (own.bank (.sess 0)).latches = none ∧ own.fld F.PIPE_SAT_CNT_COUNT < 2 ^ 32 := by decide
/-- Tile 5 and port 3 with a PRBS test on, both locked, and a state with neither on. -/
def tested : State := setF [(F.TILE_LANE_CTRL_PRBS, 1, 5), (F.TILE_LANE_STATUS_PRBS_LOCK, 1, 5), (F.NET_PORT_TEST_PRBS, 1, 3),
  (F.NET_PORT_STATUS_PRBS_LOCK, 1, 3)] (selected svc)
theorem test_hyp_LinkAndPortTestsAct : let s := tested
    (s.Inv ∧ s.takes (.sess 0) 0x0202 (zeros 8) ∧ s.op = .service ∧ s.lanes.length = 512 ∧ s.seasons.length = 146 ∧
    s.bcbs.length = 4 ∧ s.ports.length = 17 ∧ s.selOf (.sess 0) 0 = 5 ∧ s.fld F.TILE_LANE_CTRL_LOOPBACK 5 < 4 ∧
    s.season (5 / 4) = .summer ∧ s.bit F.TILE_LANE_STATUS_PRBS_LOCK 5 = true ∧ s.fld F.TILE_LANE_CTRL_PRBS 5 = 1 ∧
    svc.fld F.TILE_LANE_CTRL_PRBS 5 = 0 ∧ prbsMode 2 ≠ prbsMode 1 ∧ s.selOf (.sess 0) 5 = 3 ∧ s.linkMuted 3 = false ∧ s.pathOn 3 = false ∧
    s.fld F.NET_PORT_TEST_LOOPBACK 3 < 4 ∧ s.fld F.NET_PORT_TEST_PRBS 3 = 1 ∧ s.bit F.NET_PORT_STATUS_PRBS_LOCK 3 = true) ∧
    s.mayWrite (.sess 0) :=
  ⟨by unfold State.Inv State.takes; decide, may_service _ (by decide) (by decide)⟩
theorem test_hyp_BankPositionAndClockWritesAct :
    let s := (own.modBank (.sess 0) (fun b => { b with held := [(latchKey 0x4010C 3 0, 0xFFFF), (latchKey 0x6011C 0 0, 0xFFFF)] }))
    (s.Inv ∧ s.takes (.sess 0) 0x0202 (zeros 8) ∧ s.season domUnc = .summer ∧ s.encs.length = 8 ∧ s.axes.length = 8 ∧
    pathIdx (.sess 0) < s.banks.length ∧ s.op = .idle ∧ bitAt 1 9 = false ∧ bitAt 1 11 = false ∧ bitAt 2 9 = false ∧
    bitAt 0x400 8 = false ∧ (jobIn 0 .running).op.inJob = true ∧ (jobIn 0 .running).takes (.sess 0) 0x0202 (zeros 8) ∧
    s.bit F.PIPE_BANK_STATUS_PENDING = false ∧ s.calm = true ∧ 3 ≠ s.masterIdx ∧
    assocGet (latchKey 0x4010C 3 0) (s.bank (.sess 0)).held = some 0xFFFF ∧ s.selOf (.sess 0) 2 = 0 ∧
    s.groupBusy (s.fld F.MOT_AXIS_CFG_GROUP 0) = false ∧
    assocGet (latchKey 0x6011C 0 0) (s.bank (.sess 0)).held = some 0xFFFF ∧ s.selOf (.sess 0) 1 < 256) ∧ s.mayWrite (.sess 0) :=
  ⟨by unfold State.Inv State.takes; decide, may_owner _ (by decide) (by decide) (by decide)⟩

/-- Converter 1 as given. -/
def conv (c : Conv) (l : List (Fld × Nat × Nat)) : State :=
  setF l { idle with mon := { idle.mon with convs := modifyNth (fun _ => c) 1 idle.mon.convs } }
/-- Each phase that ends a wait, at the instant it is due: LEAD, a conversion, the first and the second half of a CHOP entry, and an
urgent one. -/
theorem test_hyp_MonitorConvertsAndShowsResults : ∀ c ∈ [{ phase := 2, due := 7 }, { phase := 3, due := 7 },
      { phase := 3, due := 7, cfg := { chop := true } }, { phase := 3, due := 7, cfg := { chop := true }, half := true },
      { phase := 4, due := 7, urgent := some 0 }, ({ phase := 3, due := 7, urgent := some 1 } : Conv)],
    let s := conv c [(F.MON_DATA_NEW, 1, 1)]
    s.Inv ∧ s.asleep = false ∧ s.mon.convs.length = 4 ∧ s.conv 1 = c ∧ c.due ≤ (s.at 7).tb ∧
    assocGet (latchKey 0x70048 1 0) (s.bank .fw).latches = none ∧ s.season domUnc = .summer := by unfold State.Inv; decide
theorem test_hyp_MonitorConvertsAndShowsResults_inputs :
    let s := conv { phase := 3, cfg := { use := true, ex := 2, inp := 9, inn := 31 } } [(F.MON_EX_STATUS_ON, 4, 0)]
    s.Inv ∧ s.uncUp = true ∧ s.exOn 2 = true ∧ (s.conv 1).cfg.use = true ∧ s.exOn (s.conv 1).cfg.ex = true ∧ (s.conv 1).cfg.inp = 9 ∧
    (s.conv 1).cfg.inn = 31 ∧ (s.conv 1).urgent = none ∧ s.usesEx 1 2 = true := by unfold State.Inv; decide
theorem test_hyp_MonitorRequestsAndForcedReads :
    let s := setF [(F.MON_URG_HOLDUP_CFG_CONV, 2, 0), (F.MON_URG_HEAD_CFG_CONV, 3, 0)] own
    (s.Inv ∧ s.season domUnc = .summer ∧ s.mon.convs.length = 4 ∧ s.takes .fw 0x0202 (zeros 8) ∧ s.fld F.MON_URG_HOLDUP_CFG_CONV < 4 ∧
    s.fld F.MON_URG_HEAD_CFG_CONV < 4 ∧ s.asleep = false ∧ s.pathOpen (.sess 0) = true ∧ s.op ≠ .boot ∧
    assocGet (latchKey 0x7004C 1 0) (s.bank (.sess 0)).latches = none ∧ (s.conv 1).phase ≠ 3 ∧ (s.conv 1).urgent = none ∧
    s.fld F.MON_FORCE_OUTPUT 1 < 2 ^ 24 ∧ s.takes (.sess 0) 0x0202 (zeros 8) ∧ s.calm = true ∧ s.exShort 3 = false ∧
    (List.range 4).any (fun k => s.usesEx k 3) = false) ∧ s.mayWrite (.sess 0) :=
  ⟨by unfold State.Inv State.takes; decide, may_owner _ (by decide) (by decide) (by decide)⟩
/-- Converter 1 at the instant of its first output. -/
theorem test_hyp_MonitorRequestsAndForcedReads_first : let s := conv { phase := 3, since := 0, due := 4 * (320 * 1024) } []
    let u := { s with tb := 320 * 1024 }
    u.Inv ∧ (u.conv 1).phase = 3 ∧ (u.conv 1).since + u.outputNs 1 ≤ u.tb ∧ u.pathOpen .fw = true ∧
    assocGet (latchKey 0x7004C 1 0) (u.bank .fw).latches = none := by unfold State.Inv; decide

theorem test_hyp_LineMemoryIsTrackedAndScrubbed : let s := withQdr idle
    s.Inv ∧ s.asleep = false ∧ s.qdrUsable = true ∧ (Deskew.mk 3 30 40 50 63 true).ch < 4 ∧ s.bit F.QDR_SCRUB_EN = true ∧
    s.scrub ∉ s.bad ∧ s.scrub + 8 < s.qdrEnd ∧
    (let w := { s with scrub := s.qdrEnd - 8 }
     w.scrub ∉ w.bad ∧ w.qdrEnd ≤ w.scrub + 8) := by unfold State.Inv; decide

/-- A copy by channel 6 of two blocks within line memory; channel 3 with the same in a state. -/
def desc : List Byte := [6, 0] ++ be 2 0 ++ be 5 0x4001000 ++ be 5 0x4000000 ++ be 2 0 ++ be 4 2 ++ be 8 0 ++ be 4 0 ++ be 4 0 ++ [0, 0, 0, 0]
def mover (st : Nat) : State :=
  setF [(F.BMV_STATUS_STATE, st, 3), (F.BMV_LEN_BLOCKS, 2, 3), (F.BMV_DST_LO_ADDR, 0x1A01000, 3), (F.BMV_SRC_LO_ADDR, 0x1A00000, 3)] (withQdr idle)
theorem test_hyp_BlockMoverMovesAndReports_submit : let s := fit svc
    let dst := byteAt desc 9 * 2 ^ 32 + beAt desc 10 4
    let src := byteAt desc 4 * 2 ^ 32 + beAt desc 5 4
    s.Inv ∧ s.takes (.sess 0) 0x0807 desc ∧ byteAt desc 0 = 6 ∧ byteAt desc 1 = 0 ∧ beAt desc 2 2 = 0 ∧ beAt desc 14 2 = 0 ∧
    64 * beAt desc 16 4 = 128 ∧ byteAt desc 36 ≤ 1 ∧ byteAt desc 37 ≤ 63 ∧ beAt desc 38 2 = 0 ∧ beAt desc 20 4 = 0 ∧ beAt desc 24 4 = 0 ∧
    s.fld F.BMV_STATUS_STATE 6 ≠ 1 ∧ s.fld F.BMV_STATUS_STATE 6 ≠ 2 ∧ s.qdrUsable = true ∧ dst % 8 = 0 ∧ src % 8 = 0 ∧ dst < 2 ^ 36 ∧
    src < 2 ^ 36 ∧ s.rangeOk dst 128 = true ∧ s.rangeOk src 128 = true ∧ s.fld F.QDR_ELASTIC_BASE_ADDR ≤ dst := by
  unfold State.Inv State.takes; decide
theorem test_hyp_BlockMoverMovesAndReports : (mover 0).Inv ∧ (mover 0).takes .fw 0x0202 (zeros 8) ∧
    (mover 0).fld F.BMV_STATUS_STATE 3 = 0 ∧ (mover 1).fld F.BMV_STATUS_STATE 3 = 1 ∧ (mover 2).fld F.BMV_STATUS_STATE 3 = 2 ∧
    (mover 1).takes .fw 0x0202 (zeros 8) ∧ (mover 1).bmvWord 3 < 2 ^ 18 ∧ (mover 1).asleep = false ∧
    (mover 1).bit F.BMV_ENGINE_BUSY = false ∧ (∀ j, j < 3 → (mover 1).fld F.BMV_STATUS_STATE j ≠ 1) ∧
    0 < (mover 1).fld F.BMV_LEN_BLOCKS 3 ∧ (setF [(F.BMV_LEN_BLOCKS, 0, 3)] (mover 1)).fld F.BMV_LEN_BLOCKS 3 = 0 ∧
    (mover 2).bmvReads 3 = true ∧ (mover 2).bmvWrites 3 = true ∧ 0 < (mover 2).fld F.BMV_CFG_RETRY ∧
    (mover 2).restoring = false ∧ (mover 2).fld F.BMV_CTRL_OP 3 = 0 ∧ (mover 2).fld F.BMV_CTRL_REPEAT 3 = 0 ∧
    (mover 2).bit F.BMV_CTRL_EV_EN 3 = false ∧ (mover 2).bmvDst 3 0 / 2 ^ 36 = 0 ∧ (mover 2).bmvSrc 3 0 / 2 ^ 36 = 0 ∧
    (mover 2).bad = [] := by unfold State.Inv State.takes; decide
/-- The last block of the copy, from line memory and from flash. -/
theorem test_hyp_BlockMoverMovesAndReports_bus : let s := setF [(F.BMV_SRC_HI_ADDR, 0x40, 3)] (mover 2)
    s.bmvReads 3 = true ∧ s.bmvSrc 3 0 / 2 ^ 36 = 4 ∧ 1 < s.fld F.BMV_LEN_BLOCKS 3 * (s.fld F.BMV_CTRL_REPEAT 3 + 1) ∧
    2 ^ 36 ≤ s.bmvSrc 3 0 + s.bmvAt 3 0 1 1 ∧ (mover 2).bmvSrc 3 0 + (mover 2).bmvAt 3 0 1 1 < 2 ^ 36 := by decide

/-- A host end; session 0's place held by phase 1 on MPORT for the role OWNER with keys in the device. -/
def host : HostAddr := ⟨.raw, 1, 2, 3⟩
def keyed (s : State) : State := { setF [(F.XPT_CFG_REQUIRE_SEAL, 0, 0)] s with sec := { s.sec with keys := [some [1, 2, 3], some [4], some [5]] } }
def phase1 : List Byte := [0, 0] ++ be 2 1408 ++ be 2 16 ++ [16, 0] ++ be 4 0x10001 ++ zeros 16
def placeHeld : State := let s := keyed (setF [(F.NET_PORT_STATUS_UP, 1, 16)] idle)
  { s with sessions := modifyNth (fun x => { x with id := { x.id with st := 1, role := 0, ports := 0x10000, holdUntil := 1000 } }) 0 s.sessions }
theorem test_hyp_SessionsOpenAndEnd_phase1 : (keyed idle).Inv ∧ (keyed idle).sessions.length = 8 ∧ (keyed idle).asleep = false ∧
    (keyed idle).op ≠ .boot ∧ phase1.length = 28 ∧ (keyed idle).openRefuse phase1 = none ∧ (keyed idle).freeIndex = some 0 := by
  unfold State.Inv; decide
theorem test_hyp_SessionsOpenAndEnd_phase2 : placeHeld.Inv ∧ placeHeld.op ≠ .boot ∧ placeHeld.portUp 16 = true ∧
    bitAt (placeHeld.session 0).id.ports 16 = true ∧ (placeHeld.session 0).id.st = 1 ∧
    placeHeld.roleKey (placeHeld.session 0).id.role = some [1, 2, 3] ∧ placeHeld.tb ≤ (placeHeld.session 0).id.holdUntil ∧
    (placeHeld.session 0).id.holdUntil ≤ (placeHeld.at 1000).tb := by unfold State.Inv; decide
theorem test_hyp_SessionsOpenAndEnd_proof : let x := (placeHeld.session 0).id
    let pl := zeros 4 ++ x.proofH [1, 2, 3]
    pl.length = 20 ∧ allZero (slice pl 1 3) = true ∧ byteAt pl 0 = x.role ∧ slice pl 4 16 = x.proofH [1, 2, 3] := ⟨rfl, rfl, rfl, rfl⟩
theorem test_hyp_SessionsOpenAndEnd_wrong : let x := (placeHeld.session 0).id
    ∃ pl : List Byte, pl.length = 20 ∧ allZero (slice pl 1 3) = true ∧ slice pl 4 16 ≠ x.proofH [1, 2, 3] := by
  intro x
  by_cases h : slice (zeros 20) 4 16 = x.proofH [1, 2, 3]
  · refine ⟨zeros 19 ++ [1], rfl, by decide, fun g => ?_⟩
    exact absurd (h.trans g.symm) (by decide)
  · exact ⟨zeros 20, rfl, by decide, h⟩
theorem test_hyp_SessionsOpenAndEnd_ends : own.takes (.sess 0) 0x0102 [] ∧ own.Inv ∧ (own.session 0).id.st = 2 ∧
    own.takes .bmp 0x0102 [0] ∧ byteAt [0] 0 = 0 ∧ (own.session 0).id.lastValid + (own.session 0).id.idleMs * 1000000 ≤ (own.at 0).tb := by unfold State.takes State.Inv; decide

/-- Session 0 open on MPORT, with segments of LINE sent and a response that waits. -/
def linked : State :=
  let s := setF [(F.NET_PORT_CFG_MODE, 5, 16), (F.NET_PORT_STATUS_UP, 1, 16)] own
  let s := { s with ports := modifyNth (fun x => { x with live := some (s.portCfg 16) }) 16 s.ports }
  let f : SessId → SessId := fun x => { x with ports := 0x10000, id := 77, primary := 16, sendPort := 16, rto := 100, retryMax := 3, idleMs := 1000 }
  { s with sessions := modifyNth (fun x => { x with id := { f x.id with paths := [(16, host)] } }) 0 s.sessions }
def sent (q : Nat) : LSeg := ⟨q, 0, 0, 0, 0, true, 0, 0, false, 16, none⟩
def sending : State :=
  { linked with sessions := modifyNth (fun x => { x with tx := { x.tx with segs := [sent 0, sent 1, sent 5], lineSeq := 6 } }) 0 linked.sessions }
/-- A segment of session 0 with a body. -/
def seg (ty seq : Nat) (body : List Byte) : List Byte :=
  let l := be 1 0x10 ++ be 1 ty ++ be 2 0 ++ be 4 seq ++ be 4 77 ++ be 2 body.length ++ be 2 0 ++ body
  l ++ be 4 (crc32c l)
theorem test_hyp_SegmentsAreTakenSentAndRepeated_command : let b := seg 1 0 (zeros 20)
    linked.Inv ∧ linked.sessions.length = 8 ∧ linked.cmds.length = 10 ∧ linked.asleep = false ∧ linked.portUp 16 = true ∧
    (Frame.mk host 9216 false false false 0 false 0 0).octets ≤ 9216 ∧ host.enc = .raw ∧
    segForm b 0x01 4 = true ∧ crc32Ok b = true ∧ segSess b = 0 ∧ (linked.session 0).id.st = 2 ∧ segId b = (linked.session 0).id.id ∧
    bitAt (linked.session 0).id.ports 16 = true ∧ segSeq b = (linked.cmd (.sess 0)).next ∧
    ∀ c ∈ (linked.cmd (.sess 0)).queue, c.seq ≠ segSeq b := by unfold State.Inv; decide
/-- A frame of 9,217 octets, one with a wrong FCS, a fragment, one with an extension header: none is taken. -/
theorem test_hyp_SegmentsAreTakenSentAndRepeated_dropped : linked.bit F.NET_PORT_STATUS_FEC_LOCK 16 = false ∧
    ∀ f ∈ [Frame.mk host 9217 false false false 51260 false 0 0, ⟨host, 64, true, false, false, 51260, false, 0, 0⟩,
      ⟨host, 64, false, true, false, 51260, false, 0, 0⟩, ⟨host, 64, false, false, true, 51260, false, 0, 0⟩],
    ¬ (f.octets ≤ 9216 ∧ f.fcs = false ∧ f.frag = false ∧ f.ext = false) := by decide
/-- ACKs of LINE segments and of events, and a CREDIT, on the session that is not sealed. -/
def ackOf (stream : Nat) : List Byte := seg 5 0 (be 1 stream ++ be 1 1 ++ zeros 2 ++ be 4 1 ++ be 4 2 ++ be 4 2)
theorem test_hyp_SegmentsAreTakenSentAndRepeated_ack : (sending.session 0).id.isSealed = false ∧ (sending.session 0).tx.ctl = none ∧
    (sending.session 0).id.st = 2 ∧ bitAt (sending.session 0).id.ports 16 = true ∧ ∀ st ∈ [3, 4], let b := ackOf st
    segSess b = 0 ∧ segId b = (sending.session 0).id.id ∧ segForm b 0x05 4 = true ∧ crc32Ok b = true ∧ byteAt b 16 = st ∧
    byteAt b 17 ≤ 16 ∧ beAt b 18 2 = 0 ∧ segLen b = 8 + 8 * byteAt b 17 := by decide
theorem test_hyp_SegmentsAreTakenSentAndRepeated_credit : let b := seg 6 0 (be 4 99 ++ be 4 0)
    segSess b = 0 ∧ segId b = (sending.session 0).id.id ∧ segForm b 0x06 4 = true ∧ crc32Ok b = true ∧ segLen b = 8 ∧
    beAt b 20 4 = 0 := by decide
theorem test_hyp_SegmentsAreTakenSentAndRepeated_rto : let u := sending.at 100000
    (sending.session 0).tx.segs.find? (fun g => decide (g.seq = 1) && !g.due && decide (g.sentAt + (sending.session 0).id.rto * 1000 ≤ u.tb)) =
      some (sent 1) ∧ (sent 1).retx < (sending.session 0).id.retryMax := by decide
/-- An EVT segment sent; a response, a record or a LINE segment that waits. -/
def withTx (f : SessTx → SessTx) : State := { linked with sessions := modifyNth (fun x => { x with tx := f x.tx }) 0 linked.sessions }
def evt : ESeg := ⟨9, [], 0, 0, false, 16, none⟩
theorem test_hyp_SegmentsAreTakenSentAndRepeated_rtoEvt : let s := withTx (fun x => { x with evts := [evt] })
    (s.session 0).tx.evts.find? (fun g => decide (g.seq = 9) && !g.due && decide (g.sentAt + (s.session 0).id.rto * 1000 ≤ (s.at 100000).tb)) =
      some evt ∧ evt.retx < (s.session 0).id.retryMax := by decide
theorem test_hyp_SegmentsAreTakenSentAndRepeated_send : (linked.port 16).live = some (linked.portCfg 16) ∧ linked.pathOf 0 16 = some host := by
  decide
theorem test_hyp_SegmentsAreTakenSentAndRepeated_rsp : let u := (withTx (fun x => { x with rsps := [⟨0, 16, 3, zeros 32⟩] })).at 5
    ∃ n r, leastOf (fun c => c.1) (u.openSessions.flatMap (fun k => u.ctrlOf k 16)) = some (n, 0, Sum.inl r) := ⟨_, _, rfl⟩
theorem test_hyp_SegmentsAreTakenSentAndRepeated_event : let u := (withTx (fun x => { x with recs := [⟨3, none, zeros 16⟩] })).at 5
    ∃ n, leastOf (fun c => c.1) (u.openSessions.flatMap (fun k => u.ctrlOf k 16)) = some (n, 0, Sum.inr none) := ⟨_, rfl⟩
theorem test_hyp_SegmentsAreTakenSentAndRepeated_line : let u := (withTx (fun x => { x with segs := [{ sent 1 with due := true }], lineSeq := 2 })).at 5
    leastOf (fun c => c.1) (u.openSessions.flatMap (fun k => u.ctrlOf k 16)) = none ∧
    (u.openSessions.filter (fun k => u.lineWaits k 16)).find? (fun k => decide (u.roleOf k = 0)) = some 0 := ⟨rfl, by decide⟩
/-- Session 0 off its PRIMARY, which is back. -/
def offPrimary : State :=
  let s := setF [(F.XPT_FAILBACK_MS, 0, 0), (F.NET_PORT_STATUS_UP, 1, 3)] linked
  { s with sessions := modifyNth (fun x => { x with id := { x.id with ports := 0x10008, sendPort := 3, primarySeen := true, paths := [(16, host)] } }) 0 s.sessions }
theorem test_hyp_SegmentsAreTakenSentAndRepeated_failback : let x := (offPrimary.session 0).id
    offPrimary.Inv ∧ x.st = 2 ∧ x.sendPort ≠ x.primary ∧ x.primary ∈ offPrimary.livePorts 0 ∧ x.primarySeen = true ∧
    (offPrimary.port x.primary).upAt + offPrimary.fld F.XPT_FAILBACK_MS * 1000000 ≤ (offPrimary.at 5).tb := by unfold State.Inv; decide
theorem test_hyp_SegmentsAreTakenSentAndRepeated_thin : let s := { linked with prod := { linked.prod with last := some 2000 } }
    s.Inv ∧ s.sessOpen 0 = true ∧ s.prod.last = some 2000 := by unfold State.Inv; decide

/-- MPORT up with a live configuration. -/
def portLive : State :=
  let s := setF [(F.NET_PORT_CFG_MODE, 5, 16), (F.NET_PORT_STATUS_UP, 1, 16), (F.NET_IPV4_ADDR, 0xC0A80001, 16)] idle
  { s with ports := modifyNth (fun x => { x with live := some (s.portCfg 16) }) 16 s.ports }
theorem test_hyp_PortsGoDownAndUpAndAnswer : let s := setF [(F.NET_PORT_CFG_MODE, 5, 16)] idle
    s.Inv ∧ s.asleep = false ∧ s.ports.length = 17 ∧ s.portUp 16 = false ∧ s.portMode 16 ≠ 0 ∧ s.linkMuted 16 = false ∧ s.controlUp = true ∧
    (s.port 16).upAt ≤ s.tb ∧ portLive.portUp 16 = true ∧ portLive.Inv ∧ (portLive.port 16).live = some (portLive.portCfg 16) ∧
    (portLive.portCfg 16).ip4 = 0xC0A80001 ∧ (portLive.portCfg 16).ip6 = 0 ∧ 5 ≠ linkLocal (portLive.portCfg 16).mac := by
  unfold State.Inv; decide

/-- A packet of 36 bytes. -/
def packet36 : List Byte := be 2 0x0201 ++ be 2 5 ++ be 2 0xFE00 ++ be 2 4 ++ be 4 1 ++ be 4 0 ++ zeros 20
theorem test_hyp_ManagementPortTakesAndGivesBytes : idle.Inv ∧ idle.asleep = false ∧ idle.cmds.length = 10 ∧ idle.banks.length = 10 ∧
    idle.bmp.inb = [] ∧ idle.bmp.skip = false ∧ idle.bmpInReady = true ∧ 16 ≤ packet36.length ∧ pktLen packet36 ≤ 8192 ∧
    packet36.length = 32 + pktLen packet36 ∧ idle.op ≠ .boot ∧ (idle.bank .bmp).sels.length = 7 ∧
    (idle.modCmd .bmp (fun c => { c with run := some {} })).bmpInReady = false := by unfold State.Inv; decide
theorem test_hyp_ManagementPortTakesAndGivesBytes_read : let s := { idle with bmp := { idle.bmp with ptr := 0x20, regAddr := 0xF0014 } }
    s.Inv ∧ s.bmp.ptr = 0x20 ∧ s.op ≠ .boot ∧ s.bmp.regAddr = 0xF0014 ∧
    assocGet (latchKey 0xF0014 0 0) (s.bank .bmp).latches = none ∧ s.fld F.ANA_REF_COL_COL_OFF < 2 ^ 16 := by unfold State.Inv; decide
theorem test_hyp_ManagementPortTakesAndGivesBytes_length : { idle with bmp := { idle.bmp with ptr := 0x01 } }.bmp.ptr = 0x01 := by decide
theorem test_hyp_ManagementPortTakesAndGivesBytes_absent : regAt 0xFFFFC = none := by decide +kernel
theorem test_hyp_ManagementPortTakesAndGivesBytes_part : let s := { idle with bmp := { idle.bmp with inb := [1], ptr := 0x10 } }
    s.Inv ∧ s.bmp.inb ≠ [] ∧ s.bmp.lastByte + s.fld F.MBUS_BMP_CFG_PKT_TIMEOUT_MS * 1000000 ≤ (s.at 10000000000).tb := by
  unfold State.Inv; decide

/-- Session 0 with the TILE window's select at broadcast. -/
def bcast : State := { own with banks := modifyNth (fun b => { b with sels := [0xFFFF, 0, 0, 0, 0, 0, 0] }) 0 own.banks }
theorem test_hyp_BroadcastReadGivesZero_reads : bcast.selOf (.sess 0) (winIdx .tile) = 0xFFFF ∧ pathIdx (.sess 0) < bcast.banks.length ∧
    bcast.takes (.sess 0) 0x0201 (be 4 0x20100) ∧ bcast.recoveryPath (.sess 0) = false ∧
    (chunksOf 4 256 (be 4 0x20100)).map ofBe = [0x20100] ∧ bcast.takes (.sess 0) 0x0203 (be 4 0x20100 ++ zeros 8) ∧
    bcast.writeRole (.sess 0) (freeWrite 0x20100) = stOk ∧ beAt (be 4 0x20100 ++ zeros 8) 0 4 = 0x20100 := by
  unfold State.takes; decide
theorem test_hyp_ModifyKeepsTheBitsOutsideTheMask : own.takes (.sess 0) 0x0203 modifySel ∧
    own.writeRole (.sess 0) (freeWrite (beAt modifySel 0 4)) = stOk ∧
    ∃ r k, regAt (beAt modifySel 0 4) = some (r, k) ∧ r.win = none ∧ ∀ f ∈ r.flds, f.acc ≠ .wo ∧ f.acc ≠ .rc :=
  ⟨by unfold State.takes; decide, by decide, _, _, rfl, rfl, by decide⟩
theorem test_hyp_ModifyKeepsTheBitsOutsideTheMask_refused : own.takes (.sess 0) 0x0203 (be 4 0x30028 ++ zeros 8) ∧
    own.writeRole (.sess 0) (freeWrite (beAt (be 4 0x30028 ++ zeros 8) 0 4)) = stOk ∧
    ∃ r k, regAt (beAt (be 4 0x30028 ++ zeros 8) 0 4) = some (r, k) ∧ r.win = none ∧ ∃ f ∈ r.flds, f.acc = .wo ∨ f.acc = .rc :=
  ⟨by unfold State.takes; decide, by decide, _, _, rfl, rfl, by decide⟩
theorem test_hyp_ModifyKeepsTheBitsOutsideTheMask_written :
    ((own.readAddr (.sess 0) 0x20000).1.writeAddr (.sess 0) 0x20000 0x33 false).2 = stOk := by decide

/-! Values that the spec writes out in its worked examples. -/

/-- 03_triry_link.md R59: GRN photosite 172 is sample 665 and lies in bits 55:44 of payload word 124. -/
theorem test_sample_place :
    bitsOf (nthD 0 (payloadWords 122 (List.replicate 665 0 ++ [2500] ++ List.replicate 1278 0)) 124) 44 12 = 2500 := by decide
/-- 06_engines_shading.md R162, R163: m and OB_r of tile T52's GRN row. -/
theorem test_black : blackEst [64, 66, 65, 63, 70, 64, 65, 61] = 16512 ∧ obOf 16512 = 1032 := by decide
/-- 06_engines_shading.md R166, R168: the native photosite of T52 at raw 2,500, 3,900 and 60. -/
theorem test_shade_native : let x := nativeSlot 19661 20 16 (-52) false false
    (shadeNative x 2500 1032 832 16625).1 = 47270 ∧ (shadeNative x 3900 1032 832 16625).1 = 74474 ∧
    (shadeNative x 60 1032 832 16625).1 = -143 ∧ lampNorm (zeros 18 ++ le 2 44800 ++ le 2 640) 2760 = 16625 := by decide
/-- 06_engines_shading.md R173: the same photosite in the compatibility form. -/
theorem test_shade_compat : rcpOf 57344 1036 48808 = (19667, false) ∧
    shadeCompat (1036 + 48808 * 2 ^ 16 + 19667 * 2 ^ 32) 2500 = 46772 := by decide
/-- 05_illumination.md R136, R146: on-counts of FRONT and NIR, and DIAG_OFFSET. -/
theorem test_light : onTime 0x4000 49231 = 12308 ∧ onTime 0x20 49231 = 24 ∧
    (setF [(F.EXPO_NS_NS, 500000, 0), (F.SCHED_LUM_LEAD_NS, 2000, 0)] idle).diagOffset = 2012 := by decide
/-- 04_position_scheduler.md R116 and 05_illumination.md: T_MIN of two jobs. -/
theorem test_tmin : tMinOf 10000 20 6000 = 33333 ∧ tMinOf 12000 0 21000 = 33333 := by decide
/-- 07_alignment_seams.md R193: the bounds of T17 and T88. -/
theorem test_bounds : let d := [1551, 1032, 515, 0]
    (Geo.mk 627 400 d 0 0 0 0 0 478).bounds 1 true = (2, 2, -4) ∧ (Geo.mk (-333) (-300) d 0 0 0 0 0 478).bounds 1 true = (-2, -2, -8) := by
  decide
/-- 07_alignment_seams.md R205: GRN of joint column 19,680 of joint J40 in direction +2. -/
theorem test_seam : let c := fun (v : Nat) => ([[⟨0, 0⟩, ⟨v, 0⟩, ⟨0, 0⟩, ⟨0, 0⟩]] : List Col)
    let x : Joint := ⟨19678, 19682, 16, 200, 1, [c 0, c 30000, c 36000, c 0, c 0], [c 0, c 0, c 33000, c 41000, c 0]⟩
    nthD 0 ((x.cols 2).map (fun c => (nthD ⟨0, 1⟩ c 1).v)) 1 = 35078 := by decide
/-- 09_output_analytics.md R251 to R254: the streak of column 41,900. -/
theorem test_streak : let c : StreakCfg := ⟨5, 4, 8, 512, 0x100⟩
    streakStats { v := 1600 } 30000 124780 5 = (-9560, 1724) ∧ streakCand c (-127597) 2332 64 = false ∧
    streakCand c (-133170) 2318 64 = true ∧ (Streak.conf { mu := -148864, v := 2259 }) = 149 ∧
    verdict 41000 vStreak (fOnset + fDark) 41900 41900 582 149 =
      [0x00, 0x00, 0xA0, 0x28, 0x01, 0x05, 0x00, 0xA3, 0xAC, 0x00, 0xA3, 0xAC, 0x02, 0x46, 0x95, 0x00] := by decide
/-- 10_motion.md R280: the cruise velocity word of 40,000 steps/s. -/
theorem test_velocity : velWord (40000 * rateUnit) = 56294995342 := by decide
/-- 11_reseam.md R300: the servo's command at 240 lines between the marks 160 and 480. -/
theorem test_servo : (setF [(F.SCAN_CAP_LINES, 640, 0), (F.SCAN_MARK0_PACE_LO, 256, 0), (F.SCAN_MARK0_PACE_HI, 768, 0),
    (F.SCAN_VMAX_PCS, 1260000, 0), (F.SCAN_VMIN_PCS, 200000, 0)] idle).servoSpeed 240 = 995000 := by decide
/-- 18_power_startup.md R466: a CONFIG_STORE passes the hold-up check, a COEF_SAVE of 105 records does not. -/
theorem test_holdup :
    let s := setF [(F.PWR_HOLDUP_C_UF, 100000, 0), (F.PWR_HOLDUP_V_DIV, 0x0C00, 0), (F.PWR_HOLDUP_V_VMIN_MV, 9000, 0),
      (F.PWR_STORE_P_P_MW, 4000, 0), (F.PWR_FLASH_T_T_ER32_MS, 120, 0), (F.PWR_FLASH_T_T_PP_US, 400, 0)]
      { idle with env := { idle.env with holdupCode := 6710886 } }
    let a := s.holdupCheck 2 256 65536 0
    let b := s.holdupCheck 210 19110 4892160 0
    a.1 = true ∧ b.1 = false ∧ a.2.fld F.PWR_HOLDUP_NEED_NEED_MJ = 1370 ∧ b.2.fld F.PWR_HOLDUP_NEED_NEED_MJ = 131424 := by decide
/-- 14_host_network.md R372: the input of P_H is 47 bytes and ends with SESSION_ID and role. -/
theorem test_proof_input : let x : SessId := { (idle.session 0).id with nH := zeros 16, nD := zeros 16, id := 0x2A17, role := 1 }
    (ascii "MOEVO-OPEN" ++ x.proofTail true).length = 47 ∧ (x.proofTail true).drop 32 = [0, 0, 0x2A, 0x17, 1] := by decide
/-- 15_command_set.md R403: pair 2 writes LUM_CFG in RUNNING, so the whole REG_WRITE answers STATE with DETAIL 2. -/
theorem test_reg_write_list :
    let l := [(0x50000, 26), (0x50100, 0x40004000), (0x50004, 12)]
    let s := jobIn 0 .running
    (s.writeList (.sess 0) l).2 = (stState, 2) ∧ (s.writeList (.sess 0) (l.take 2)).2.1 = stOk := by decide
/-- 13_memory_block_mover.md R350: 180 blocks a pass end inside bank A, 181 do not. -/
theorem test_mover_range : let s := fun (len : Nat) => setF [(F.BMV_SRC_LO_ADDR, 0x80, 1), (F.BMV_SRC_STRIDE_BYTES, 0x3000, 1),
      (F.BMV_DST_HI_ADDR, 0x10, 1), (F.BMV_DST_LO_ADDR, 0x1E60, 1), (F.BMV_DST_STRIDE_BYTES, 0x40000, 1), (F.BMV_LEN_BLOCKS, len, 1),
      (F.BMV_CTRL_REPEAT, 104, 1)] (withQdr idle)
    (s 180).bmvCheck 1 = 0 ∧ (s 181).bmvCheck 1 = 3 := by decide
/-- 21_register_map.md R525, R526: the worked example's broadcast write clears LOCK_LOST in the span; the reads after it. -/
theorem test_broadcast_write :
    let s := setF [(F.TILE_LANE_STATUS_LOCK_LOST, 1, 0), (F.TILE_LANE_STATUS_LOCK_LOST, 1, 1), (F.TILE_LANE_STATUS_LOCK_LOST, 1, 2)]
      (job 2 .armed own)
    let w := s.writeList (.sess 0) [(0x20000, 0xFFFF), (0x20144, 0x40)]
    w.2.1 = stOk ∧ w.1.fld F.TILE_LANE_STATUS_LOCK_LOST 0 = 0 ∧ w.1.fld F.TILE_LANE_STATUS_LOCK_LOST 1 = 0 ∧
    w.1.fld F.TILE_LANE_STATUS_LOCK_LOST 2 = 1 ∧ (w.1.readList (.sess 0) [0x20144, 0x1C]).2.1 = [0, 2] := by decide
/-- 21_register_map.md R524: TILE_SEL 600 is stored, and TILE_STATUS then reads 0. -/
theorem test_select_out_of_range :
    let w := own.writeList (.sess 0) [(0x20000, 600)]
    w.2.1 = stOk ∧ w.1.selOf (.sess 0) 0 = 600 ∧ (w.1.bank (.sess 0)).selRange = true ∧
    (w.1.readList (.sess 0) [0x20120, 0x20000]).2.1 = [0, 600] := by decide
/-- 21_register_map.md: SYS_TILE_MAP52 of the worked example. -/
theorem test_tile_map :
    let s := setF [(F.TILE_STATUS_PRESENT, 1, 52), (F.TILE_STATUS_IDENT_OK, 1, 52), (F.TILE_STATUS_IDENT_IN_LIMITS, 1, 52),
      (F.TILE_LANE_STATUS_BLOCK_LOCK, 1, 52), (F.TILE_ENG_STATUS_RUNNING, 1, 52)] ((job 105 .armed own).writeMem (recAddr 52 + 11888) [1])
    (s.readAddr (.sess 0) 0x8D0).2 = some 0x2F := by decide
/-- 16_management_buses.md R423: the STATUS read after the discarded packet. -/
theorem test_bmp_status :
    let s := (exec (.bmpBrokenByte .mbox) { idle with bmp := { idle.bmp with inb := [1], ptr := 0x10 } })
    (match s with
     | .next m => (m.readAddr .bmp F.MBUS_BMP_STATUS_IN_DISCARD.addr).2
     | _ => none) = some 0x09 := by decide

end Sys2Proof.Tests
end

section
/-! SUPPORT. Scope: the register file that reset lists, how a step ends, and the canonical forms at reset and after every step. -/

namespace Sys2Proof.Machine

/-! What reset lists. -/

/-- A key that no entry of the register file bears is unlisted. -/
theorem Regs.get_eq_none {k : Nat} : ∀ {m : List (Nat × Nat)}, (∀ c ∈ m, c.1 ≠ k) → Regs.get k m = none
  | [], _ => rfl
  | (a, v) :: m, h => by
    obtain ⟨ha, hm⟩ := List.forall_mem_cons.mp h
    simp [Regs.get, ha, Regs.get_eq_none hm]

/-- The register file of reset lists two flags of each of the eight axes and nothing else (10_motion.md R291). -/
theorem State.reset_listed {c : Nat × Nat} (hc : c ∈ State.reset.regs) : ∃ ax < 8,
    c.1 = F.MOT_AXIS_STATUS_POSITION_LOST.key 0 ax ∨ c.1 = F.MOT_AXIS_STATUS_MICROSTEP_UNKNOWN.key 0 ax := by
  simp only [State.reset, List.mem_flatMap, List.mem_map, List.mem_range] at hc
  obtain ⟨f, hf, ax, hax, rfl⟩ := hc
  rcases List.mem_cons.mp hf with rfl | hf
  · exact ⟨ax, hax, .inl rfl⟩
  · obtain rfl := List.mem_singleton.mp hf
    exact ⟨ax, hax, .inr rfl⟩

/-- A field other than those flags holds its Reset value after reset (00_scope.md R9). -/
theorem State.reset_fldAt (f : Fld) (k inst : Nat)
    (h : ∀ ax < 8, f.key k inst ≠ F.MOT_AXIS_STATUS_POSITION_LOST.key 0 ax ∧
      f.key k inst ≠ F.MOT_AXIS_STATUS_MICROSTEP_UNKNOWN.key 0 ax) :
    State.reset.fldAt f k inst = f.resetAt k := by
  have hnone : Regs.get (f.key k inst) State.reset.regs = none := by
    refine Regs.get_eq_none fun c hc e => ?_
    obtain ⟨ax, hax, hp | hm⟩ := State.reset_listed hc
    · exact (h ax hax).1 (e.symm.trans hp)
    · exact (h ax hax).2 (e.symm.trans hm)
  simp [State.fldAt, hnone]

/-- Both flags of each of the eight axes stand after reset (10_motion.md R291). -/
theorem State.reset_axisFlags : ∀ ax < 8, State.reset.bit F.MOT_AXIS_STATUS_POSITION_LOST ax = true ∧
    State.reset.bit F.MOT_AXIS_STATUS_MICROSTEP_UNKNOWN ax = true := by decide

theorem State.reset_seasons : State.reset.seasons = List.replicate 145 .winter ++ [.summer] := rfl

/-- The domains before the always-on one start in Winter (assumption log 7). -/
theorem State.reset_season_winter {d : Nat} (hd : d < 145) : State.reset.season d = .winter := by
  rw [State.season, State.reset_seasons, nthD, List.getElem?_append_left (by simpa only [List.length_replicate] using hd),
    List.getElem?_replicate_of_lt hd, Option.getD_some]

/-- The always-on domain starts in Summer. -/
theorem State.reset_season_summer : State.reset.season 145 = .summer := rfl

/-- Settles O2: no memory cell is listed, and the sixteen flags of the axes stand in the order of their keys. -/
theorem resetMeetsInv : Obligations.ResetMeetsInv :=
  ⟨rfl, show Regs.wf State.reset.regs = true by decide⟩

/-- Settles O3: a field reads its Reset value where the register file of reset does not list it, and the listed ones are the
two flags of each axis. -/
theorem resetLeavesEveryFieldAtItsResetValue : Obligations.ResetLeavesEveryFieldAtItsResetValue :=
  ⟨State.reset_fldAt, State.reset_axisFlags, rfl, rfl, rfl, fun _ => State.reset_season_winter, State.reset_season_summer, rfl⟩

/-! How a step ends. -/

/-- Every command but a power-on ends in `done`: whatever its effect is, the queue, the time and the canonical forms are put in order. -/
theorem exec_eq_done {c : Instr} (s : State) (h : c ≠ .powerOn) : ∃ m, exec c s = done s m := by
  cases c with
  | powerOn => exact absurd rfl h
  | _ => exact ⟨_, rfl⟩

/-- A power-on ends in `restarted`, since its timebase starts anew (04_position_scheduler.md R95). -/
theorem exec_powerOn (s : State) : exec .powerOn s = restarted s s.powerOnReset := rfl

theorem inv_of_done {s m t : State} (h : done s m = .next t) : t.Inv := by
  obtain rfl := Host.Outcome.next.inj h
  exact State.finish_inv s m

theorem inv_of_restarted {s m t : State} (h : restarted s m = .next t) : t.Inv := by
  obtain rfl := Host.Outcome.next.inj h
  exact ⟨Memory.wf_tidy m.mem, Regs.wf_tidy m.regs⟩

/-- A command leaves the canonical forms, even from a state that lacks them. -/
theorem inv_of_exec {c : Instr} {s t : State} (h : exec c s = .next t) : t.Inv := by
  by_cases hc : c = .powerOn
  · subst hc
    exact inv_of_restarted (exec_powerOn s ▸ h)
  · obtain ⟨m, hm⟩ := exec_eq_done s hc
    exact inv_of_done (hm ▸ h)

/-- An idle step touches neither memory nor the register file. -/
theorem inv_idleTick {s : State} (h : s.Inv) : (idleTick s).Inv := h

/-- Settles O4, by the two cases of a step: with no command waiting memory and register file stay as they are; else the command
at the front of the queue runs, and it ends in the canonical forms. -/
theorem everyStepKeepsInv : Obligations.EveryStepKeepsInv := by
  intro s t hs hstep
  unfold step at hstep
  split at hstep
  · obtain rfl := Host.Outcome.next.inj hstep
    exact inv_idleTick hs
  · exact inv_of_exec hstep

end Sys2Proof.Machine
end

