-- ==== Sys2Proof/Proofs/HoldView.lean ====
section
/-! What settling cannot reach: the operating state, the elastic buffer and the number of command paths, seen together, and
what a function of the model must leave of them so that a state that settles in FAULT_HOLD had this elastic buffer before. -/

namespace Sys2Proof.Machine

/-- What of a state decides how lines are kept while it settles in FAULT_HOLD. -/
structure HoldView where
  op : Op
  elastic : List OutLine
  paths : Nat

/-- The view of a state. -/
def State.holdView (s : State) : HoldView := ⟨s.op, s.prod.elastic, s.cmds.length⟩

/-- The view in another operating state. -/
def HoldView.withOp (v : HoldView) (o : Op) : HoldView := ⟨o, v.elastic, v.paths⟩

/-- The view with another elastic buffer. -/
def HoldView.withElastic (v : HoldView) (l : List OutLine) : HoldView := ⟨v.op, l, v.paths⟩

@[simp] theorem HoldView.withOp_op (v : HoldView) (o : Op) : (v.withOp o).op = o := rfl
@[simp] theorem HoldView.withOp_paths (v : HoldView) (o : Op) : (v.withOp o).paths = v.paths := rfl
@[simp] theorem HoldView.withElastic_op (v : HoldView) (l : List OutLine) : (v.withElastic l).op = v.op := rfl
@[simp] theorem HoldView.withElastic_paths (v : HoldView) (l : List OutLine) : (v.withElastic l).paths = v.paths := rfl

/-- The view of a record update: it shows three of the fields, whatever the others are. Used as a simp lemma before its
subterms, it drops the others unread. -/
theorem State.holdView_mk (p f o e t op se r m b sc ba c bm j ops la br bc en sch ch dr eg pr an gr ax sca mo ss po bmb sec flt) :
    State.holdView ⟨p, f, o, e, t, op, se, r, m, b, sc, ba, c, bm, j, ops, la, br, bc, en, sch, ch, dr, eg, pr, an, gr, ax,
      sca, mo, ss, po, bmb, sec, flt⟩ = ⟨op, pr.elastic, c.length⟩ := (rfl)

@[simp] theorem State.holdView_fold (s : State) : (⟨s.op, s.prod.elastic, s.cmds.length⟩ : HoldView) = s.holdView := rfl
theorem State.op_eq (s : State) : s.op = s.holdView.op := rfl
theorem State.elastic_eq (s : State) : s.prod.elastic = s.holdView.elastic := rfl
theorem State.cmds_length (s : State) : s.cmds.length = s.holdView.paths := rfl

@[simp] theorem State.setOp_holdView (s : State) (o : Op) : ({ s with op := o } : State).holdView = s.holdView.withOp o :=
  State.holdView_mk ..
@[simp] theorem State.finish_holdView (s m : State) : (State.finish s m).holdView = m.holdView := State.holdView_mk ..
@[simp] theorem State.holdView_ite (c : Prop) [Decidable c] (a b : State) :
    (if c then a else b).holdView = if c then a.holdView else b.holdView := by
  split <;> rfl

/-- A fold whose steps keep `v` keeps it. -/
theorem foldl_keeps {α β γ : Type} (v : β → γ) {f : β → α → β} (h : ∀ b a, v (f b a) = v b) (l : List α) (b : β) :
    v (l.foldl f b) = v b := by
  induction l generalizing b with
  | nil => rfl
  | cons a l ih => exact (ih _).trans (h b a)

@[simp] theorem foldl_holdView {α : Type} {f : State → α → State} (h : ∀ s a, (f s a).holdView = s.holdView) (l : List α)
    (s : State) : (l.foldl f s).holdView = s.holdView := foldl_keeps State.holdView h l s

/-- From `s` to `t` the number of command paths is kept, and where `t` is in FAULT_HOLD so are the operating state and the
elastic buffer. -/
structure State.KeepsHold (s t : State) : Prop where
  paths : t.holdView.paths = s.holdView.paths
  view : t.op = .faultHold → t.holdView = s.holdView

theorem State.KeepsHold.refl (s : State) : s.KeepsHold s := ⟨rfl, fun _ => rfl⟩

theorem State.KeepsHold.of_view {s t : State} (h : t.holdView = s.holdView) : s.KeepsHold t :=
  ⟨congrArg HoldView.paths h, fun _ => h⟩

/-- A function that ends in another operating state may do with the elastic buffer what it likes. -/
theorem State.KeepsHold.of_left {s t : State} (hp : t.holdView.paths = s.holdView.paths) (ho : t.holdView.op ≠ .faultHold) :
    s.KeepsHold t := ⟨hp, fun h => absurd h ho⟩

theorem State.KeepsHold.trans {s t u : State} (h : s.KeepsHold t) (k : t.KeepsHold u) : s.KeepsHold u where
  paths := k.paths.trans h.paths
  view hu := (k.view hu).trans (h.view ((congrArg HoldView.op (k.view hu)).symm.trans hu))

end Sys2Proof.Machine
end
-- ==== Sys2Proof/Proofs/HoldFrame.lean ====
section
/-! The functions of the model that keep the view whole, in the order of the model's files. Most do because what they are made
of does. -/

namespace Sys2Proof.Machine

/-! Memory, register file and the tables of the state; reports (Ops). -/

@[simp] theorem State.writeMem_holdView (s : State) (a : Nat) (l : List Byte) : (s.writeMem a l).holdView = s.holdView := by rfl
@[simp] theorem State.clearMem_holdView (s : State) (a n : Nat) : (s.clearMem a n).holdView = s.holdView := by rfl

@[simp] theorem State.setFld_holdView (s : State) (f : Fld) (v i : Nat) : (s.setFld f v i).holdView = s.holdView := by
  rw [State.setFld_regs_only]
  rfl

@[simp] theorem State.count_holdView (s : State) (f : Fld) (i n : Nat) : (s.count f i n).holdView = s.holdView := by
  rw [State.count_regs_only]
  rfl

@[simp] theorem State.wrapInc_holdView (s : State) (f : Fld) (i : Nat) : (s.wrapInc f i).holdView = s.holdView := by
  simp [State.wrapInc]
@[simp] theorem State.setFlds_holdView (s : State) (l : List (Fld × Nat)) (i : Nat) : (s.setFlds l i).holdView = s.holdView := by
  simp [State.setFlds]
@[simp] theorem State.emit_holdView (s : State) (o : Out) : (s.emit o).holdView = s.holdView := by rfl
@[simp] theorem State.draw_holdView (s : State) : s.draw.2.holdView = s.holdView := by rfl
@[simp] theorem State.modBank_holdView (s : State) (p : Path) (f : Bank → Bank) :
    (s.modBank p f).holdView = s.holdView := by rfl
@[simp] theorem State.modCmd_holdView (s : State) (p : Path) (f : CmdPath → CmdPath) : (s.modCmd p f).holdView = s.holdView := by
  simp [↓State.holdView_mk, State.modCmd]
@[simp] theorem State.modLane_holdView (s : State) (i : Nat) (f : Lane → Lane) : (s.modLane i f).holdView = s.holdView := by rfl
@[simp] theorem State.modBcb_holdView (s : State) (g : Nat) (f : Bcb → Bcb) : (s.modBcb g f).holdView = s.holdView := by rfl
@[simp] theorem State.modEnc_holdView (s : State) (k : Nat) (f : Enc → Enc) : (s.modEnc k f).holdView = s.holdView := by rfl
@[simp] theorem State.modChain_holdView (s : State) (c : Nat) (f : Chain → Chain) : (s.modChain c f).holdView = s.holdView := by
  rfl
@[simp] theorem State.modDriver_holdView (s : State) (d : Nat) (f : Driver → Driver) :
    (s.modDriver d f).holdView = s.holdView := by rfl
@[simp] theorem State.modEng_holdView (s : State) (i : Nat) (f : Eng → Eng) : (s.modEng i f).holdView = s.holdView := by rfl
@[simp] theorem State.modGroup_holdView (s : State) (g : Nat) (f : Group → Group) : (s.modGroup g f).holdView = s.holdView := by
  rfl
@[simp] theorem State.modAxis_holdView (s : State) (x : Nat) (f : Axis → Axis) : (s.modAxis x f).holdView = s.holdView := by rfl
@[simp] theorem State.modSess_holdView (s : State) (k : Nat) (f : Session → Session) : (s.modSess k f).holdView = s.holdView := by
  rfl
@[simp] theorem State.modTx_holdView (s : State) (k : Nat) (f : SessTx → SessTx) : (s.modTx k f).holdView = s.holdView := by
  simp [State.modTx]
@[simp] theorem State.modPort_holdView (s : State) (q : Nat) (f : Port → Port) : (s.modPort q f).holdView = s.holdView := by rfl
@[simp] theorem State.modConv_holdView (s : State) (k : Nat) (f : Conv → Conv) : (s.modConv k f).holdView = s.holdView := by rfl
@[simp] theorem State.setSeason_holdView (s : State) (d : Nat) (v : Season) : (s.setSeason d v).holdView = s.holdView := by rfl
@[simp] theorem State.pulseEv_holdView (s : State) (k : Nat) : (s.pulseEv k).holdView = s.holdView := by simp [State.pulseEv]
@[simp] theorem State.pushBurgee_holdView (s : State) (src cls code idx act recov detail : Nat) :
    (s.pushBurgee src cls code idx act recov detail).holdView = s.holdView := by simp [↓State.holdView_mk, State.pushBurgee]
@[simp] theorem State.closeWindow_holdView (s : State) (w : Supp) : (s.closeWindow w).holdView = s.holdView := by
  simp [↓State.holdView_mk, State.closeWindow]

@[simp] theorem State.burgee_holdView (s : State) (src cls code : Nat) (idx : Nat) (act : Nat) (detail : Nat) (recov : Nat) :
    (s.burgee src cls code idx act detail recov).holdView = s.holdView := by
  unfold State.burgee
  dsimp only
  repeat' split
  all_goals simp [↓State.holdView_mk]

/-! Motion groups and axes (MotionOps). -/

@[simp] theorem State.takeRefs_holdView (s : State) (x : Nat) : (s.takeRefs x).holdView = s.holdView := by simp [State.takeRefs]
@[simp] theorem State.takeEnc_holdView (s : State) (x : Nat) : (s.takeEnc x).holdView = s.holdView := by simp [State.takeEnc]
@[simp] theorem State.restGroup_holdView (s : State) (g : Nat) : (s.restGroup g).holdView = s.holdView := by
  simp [State.restGroup]
@[simp] theorem State.disableAxis_holdView (s : State) (x : Nat) : (s.disableAxis x).holdView = s.holdView := by
  simp [State.disableAxis]

@[simp] theorem State.haltGroup_holdView (s : State) (g : Nat) : (s.haltGroup g).holdView = s.holdView := by
  unfold State.haltGroup
  dsimp only
  repeat' split
  all_goals simp

@[simp] theorem State.setIref_holdView (s : State) (x : Nat) : (s.setIref x).holdView = s.holdView := by simp [State.setIref]
@[simp] theorem State.driveOn_holdView (s : State) (x : Nat) : (s.driveOn x).holdView = s.holdView := by simp [State.driveOn]

@[simp] theorem State.enableAxis_holdView (s : State) (x : Nat) (takeEnc : Bool) :
    (s.enableAxis x takeEnc).1.holdView = s.holdView := by
  unfold State.enableAxis
  repeat' split
  all_goals simp

@[simp] theorem State.turnAxis_holdView (s : State) (x : Nat) (positive : Bool) :
    (s.turnAxis x positive).1.holdView = s.holdView := by
  unfold State.turnAxis
  dsimp only
  repeat' split
  all_goals simp

@[simp] theorem State.turnAxes_holdView (s : State) (d : List Int) : (s.turnAxes d).holdView = s.holdView := by
  simp [State.turnAxes]
@[simp] theorem State.runCurrent_holdView (s : State) (g : Nat) : (s.runCurrent g).holdView = s.holdView := by
  simp [State.runCurrent]
@[simp] theorem State.startRun_holdView (s : State) (g : Nat) (m : Move) (d : List Int) (r0 frac : Nat) :
    (s.startRun g m d r0 frac).holdView = s.holdView := by simp [State.startRun]
@[simp] theorem State.entryDone_holdView (s : State) (g tag : Nat) (counted : Bool) :
    (s.entryDone g tag counted).holdView = s.holdView := by simp [State.entryDone]

@[simp] theorem State.startNext_holdView (s : State) (g : Nat) (start : Option (Nat × Nat)) (fuel : Nat) :
    (s.startNext g start fuel).holdView = s.holdView := by
  induction fuel generalizing s start with
  | zero => rfl
  | succ n ih =>
    unfold State.startNext
    dsimp only
    repeat' split
    all_goals simp [ih]

@[simp] theorem State.startHoming_holdView (s : State) (g x : Nat) : (s.startHoming g x).holdView = s.holdView := by
  simp [State.startHoming]

/-! Calibration records, images and the hold-up check (Flags). -/

@[simp] theorem State.writeRec_holdView (s : State) (i o : Nat) (l : List Byte) : (s.writeRec i o l).holdView = s.holdView := by
  simp [State.writeRec]
@[simp] theorem State.showTMin_holdView (s : State) : s.showTMin.holdView = s.holdView := by simp [State.showTMin]
@[simp] theorem State.keepImage_holdView (s : State) (i b : Nat) (l : List Byte) : (s.keepImage i b l).holdView = s.holdView := by
  simp [State.keepImage]
@[simp] theorem State.flashPut_holdView (s : State) (a n : Nat) (l : List Byte) (whole : Bool) :
    (s.flashPut a n l whole).1.holdView = s.holdView := by simp [↓State.holdView_mk, State.flashPut]
@[simp] theorem State.holdupCheck_holdView (s : State) (nEr nPg nB otpNs : Nat) :
    (s.holdupCheck nEr nPg nB otpNs).2.holdView = s.holdView := by simp [State.holdupCheck]
@[simp] theorem State.bcbPush_holdView (s : State) (g addr op : Nat) (data : List Byte) (src : Origin) (tries : Nat) :
    (s.bcbPush g addr op data src tries).holdView = s.holdView := by simp [State.bcbPush]

/-! Banks, quads, chains and the flash log (Units). -/

@[simp] theorem State.verifyBank_holdView (s : State) (i b : Nat) : (s.verifyBank i b).holdView = s.holdView := by
  simp [State.verifyBank]
@[simp] theorem State.noteVerify_holdView (s : State) : s.noteVerify.holdView = s.holdView := by simp [State.noteVerify]
@[simp] theorem State.swapAt_holdView (s : State) (n : Nat) : (s.swapAt n).holdView = s.holdView := by
  simp [↓State.holdView_mk, State.swapAt]
@[simp] theorem State.swapIdle_holdView (s : State) : s.swapIdle.holdView = s.holdView := by simp [State.swapIdle]
@[simp] theorem State.loadTables_holdView (s : State) (i : Nat) : (s.loadTables i).holdView = s.holdView := by
  simp [State.loadTables]
@[simp] theorem State.loadEngine_holdView (s : State) (i : Nat) : (s.loadEngine i).holdView = s.holdView := by
  simp [State.loadEngine]
@[simp] theorem State.wipeTile_holdView (s : State) (i : Nat) : (s.wipeTile i).holdView = s.holdView := by
  simp [↓State.holdView_mk, State.wipeTile]
@[simp] theorem State.treeSeasons_holdView (s : State) : s.treeSeasons.holdView = s.holdView := by
  simp [↓State.holdView_mk, State.treeSeasons]
@[simp] theorem State.quadSpring_holdView (s : State) (q : Nat) : (s.quadSpring q).holdView = s.holdView := by
  simp [State.quadSpring]
@[simp] theorem State.quadSummer_holdView (s : State) (q : Nat) : (s.quadSummer q).holdView = s.holdView := by
  simp [State.quadSummer]
@[simp] theorem State.dropChecks_holdView (s : State) (q : Nat) : (s.dropChecks q).holdView = s.holdView := by
  simp [↓State.holdView_mk, State.dropChecks]
@[simp] theorem State.quadWinter_holdView (s : State) (q : Nat) : (s.quadWinter q).holdView = s.holdView := by
  simp [State.quadWinter]
@[simp] theorem State.allQuadsWinter_holdView (s : State) : s.allQuadsWinter.holdView = s.holdView := by
  simp [State.allQuadsWinter]
@[simp] theorem State.quadsAutumn_holdView (s : State) : s.quadsAutumn.holdView = s.holdView := by simp [State.quadsAutumn]
@[simp] theorem State.chainRest_holdView (s : State) (c : Nat) : (s.chainRest c).holdView = s.holdView := by
  simp [State.chainRest]
@[simp] theorem State.chainsRest_holdView (s : State) : s.chainsRest.holdView = s.holdView := by simp [State.chainsRest]
@[simp] theorem State.broadcastMode_holdView (s : State) (g mode : Nat) : (s.broadcastMode g mode).holdView = s.holdView := by
  simp [State.broadcastMode]
@[simp] theorem State.tilesIdle_holdView (s : State) : s.tilesIdle.holdView = s.holdView := by simp [State.tilesIdle]
@[simp] theorem State.otpBlow_holdView (s : State) : s.otpBlow.holdView = s.holdView := by
  simp [↓State.holdView_mk, State.otpBlow]
@[simp] theorem State.logPut_holdView (s : State) (k n : Nat) (r : List Byte) : (s.logPut k n r).holdView = s.holdView := by
  simp [State.logPut]

@[simp] theorem State.logCopy_holdView (s : State) : s.logCopy.1.holdView = s.holdView := by
  have put (a : Nat × Nat × State) (rs : List (List Byte)) :
      (rs.foldl (fun acc x => (acc.1 + 1, (acc.2.1 + 1) % 65536, acc.2.2.logPut acc.1 acc.2.1 x)) a).2.2.holdView
        = a.2.2.holdView :=
    foldl_keeps (fun acc => acc.2.2.holdView) (fun acc x => by simp) rs a
  unfold State.logCopy
  dsimp only
  repeat' split
  all_goals simp [↓State.holdView_mk, put]

@[simp] theorem State.alignBad_holdView (s : State) (why : Nat) : (s.alignBad why).holdView = s.holdView := by
  simp [↓State.holdView_mk, State.alignBad]

/-! Replies (Reply). -/

@[simp] theorem State.carry_holdView (s : State) (p : Path) (port : Nat) (cs : List (List Byte)) :
    (s.carry p port cs).holdView = s.holdView := by
  unfold State.carry
  split <;> simp [↓State.holdView_mk]

@[simp] theorem State.sendReply_holdView (s : State) (p : Path) (r : Rsp) : (s.sendReply p r).holdView = s.holdView := by
  unfold State.sendReply
  split <;> simp

/-! What ends an operation (Stops). -/

@[simp] theorem State.pinOff_holdView (s : State) (k : Nat) : (s.pinOff k).holdView = s.holdView := by simp [State.pinOff]
@[simp] theorem State.pinsRelease_holdView (s : State) : s.pinsRelease.holdView = s.holdView := by
  simp [↓State.holdView_mk, State.pinsRelease]
@[simp] theorem State.dropCommit_holdView (s : State) : s.dropCommit.holdView = s.holdView := by
  simp [↓State.holdView_mk, State.dropCommit]
@[simp] theorem State.stopPlacing_holdView (s : State) : s.stopPlacing.holdView = s.holdView := by
  simp [↓State.holdView_mk, State.stopPlacing]
@[simp] theorem State.timeEnter_holdView (s : State) : s.timeEnter.holdView = s.holdView := by
  simp [↓State.holdView_mk, State.timeEnter]
@[simp] theorem State.timeLeave_holdView (s : State) : s.timeLeave.holdView = s.holdView := by
  simp [↓State.holdView_mk, State.timeLeave]
@[simp] theorem State.strobeLow_holdView (s : State) : s.strobeLow.holdView = s.holdView := by simp [State.strobeLow]
@[simp] theorem State.coldEngines_holdView (s : State) : s.coldEngines.holdView = s.holdView := by simp [State.coldEngines]

/-! Illumination chains (LumOps). -/

@[simp] theorem State.ringFrame_holdView (s : State) (c : Nat) (slots : List CSlot) (flips : List Nat) :
    (s.ringFrame c slots flips).holdView = s.holdView := by simp [State.ringFrame]
@[simp] theorem State.ringStatus_holdView (s : State) (c : Nat) (l : List DriverSense) :
    (s.ringStatus c l).2.holdView = s.holdView := by simp [State.ringStatus]
@[simp] theorem State.countChain_holdView (s : State) (c : Nat) : (s.countChain c).holdView = s.holdView := by
  simp [State.countChain]
@[simp] theorem State.countChains_holdView (s : State) : s.countChains.holdView = s.holdView := by simp [State.countChains]

/-! Engines (ShadeOps). -/

@[simp] theorem State.clearDrift_holdView (s : State) : s.clearDrift.holdView = s.holdView := by simp [State.clearDrift]

/-! The scheduler (SchedOps). -/

@[simp] theorem State.trackRestart_holdView (s : State) : s.trackRestart.holdView = s.holdView := by
  simp [↓State.holdView_mk, State.trackRestart]
@[simp] theorem State.masterAnew_holdView (s : State) : s.masterAnew.holdView = s.holdView := by rfl
@[simp] theorem State.replan_holdView (s : State) : s.replan.holdView = s.holdView := by rfl
@[simp] theorem State.startPlacing_holdView (s : State) : s.startPlacing.holdView = s.holdView := by rfl
@[simp] theorem State.timeModeOn_holdView (s : State) : s.timeModeOn.holdView = s.holdView := by simp [State.timeModeOn]
@[simp] theorem State.timeModeOff_holdView (s : State) : s.timeModeOff.holdView = s.holdView := by simp [State.timeModeOff]

/-! The tile link and discovery (LinkOps). -/

@[simp] theorem State.pushSite_holdView (s : State) (i : Nat) : (s.pushSite i).holdView = s.holdView := by simp [State.pushSite]
@[simp] theorem State.runTiles_holdView (s : State) : s.runTiles.holdView = s.holdView := by simp [State.runTiles]
@[simp] theorem State.trainStart_holdView (s : State) (i : Nat) : (s.trainStart i).holdView = s.holdView := by
  simp [State.trainStart]

@[simp] theorem State.showSaved_holdView (s : State) (i : Nat) : (s.showSaved i).holdView = s.holdView := by
  unfold State.showSaved
  split <;> simp

@[simp] theorem State.discover_holdView (s : State) : s.discover.holdView = s.holdView := by simp [State.discover]
@[simp] theorem State.keepSite_holdView (s : State) (i : Nat) (d : List Byte) : (s.keepSite i d).holdView = s.holdView := by
  simp [State.keepSite]
@[simp] theorem State.setTest_holdView (s : State) (i loop code : Nat) : (s.setTest i loop code).holdView = s.holdView := by
  simp [State.setTest]
@[simp] theorem State.injectLane_holdView (s : State) (i : Nat) : (s.injectLane i).holdView = s.holdView := by
  simp [State.injectLane]
@[simp] theorem State.linkTestsOff_holdView (s : State) : s.linkTestsOff.holdView = s.holdView := by simp [State.linkTestsOff]

/-! Alignment (AlignOps). -/

@[simp] theorem State.loadGeo_holdView (s : State) (i : Nat) : (s.loadGeo i).holdView = s.holdView := by simp [State.loadGeo]

theorem State.alignCheck_holdView {s t : State} {st : Nat} (h : s.alignCheck = some (st, t)) : t.holdView = s.holdView := by
  unfold State.alignCheck at h
  dsimp only at h
  repeat' split at h
  all_goals simp at h
  all_goals
    obtain ⟨-, rfl⟩ := h
    simp

@[simp] theorem State.alignClear_holdView (s : State) : s.alignClear.holdView = s.holdView := by simp [State.alignClear]
@[simp] theorem State.showLat_holdView (s : State) : s.showLat.holdView = s.holdView := by simp [State.showLat]
@[simp] theorem State.showGeo_holdView (s : State) (i : Nat) : (s.showGeo i).holdView = s.holdView := by simp [State.showGeo]

/-! Analytics (AnaOps). -/

@[simp] theorem State.loadKernelIn_holdView (s : State) (i : Nat) : (s.loadKernelIn i).holdView = s.holdView := by
  simp [State.loadKernelIn]
@[simp] theorem State.anaReset_holdView (s : State) : s.anaReset.holdView = s.holdView := by
  simp [↓State.holdView_mk, State.anaReset]

/-! Records of sessions (OutOps). -/

@[simp] theorem State.pushRec_holdView (s : State) (k : Nat) (r : List Byte) : (s.pushRec k r).holdView = s.holdView := by
  simp [State.pushRec]
@[simp] theorem State.tellOthers_holdView (s : State) (k : Nat) (r : List Byte) : (s.tellOthers k r).holdView = s.holdView := by
  simp [State.tellOthers]
@[simp] theorem State.leaveJob_holdView (s : State) (k : Nat) : (s.leaveJob k).holdView = s.holdView := by
  simp [↓State.holdView_mk, State.leaveJob]
@[simp] theorem State.orphan_holdView (s : State) (k : Nat) : (s.orphan k).holdView = s.holdView := by
  simp [↓State.holdView_mk, State.orphan]

/-! The EQUINOX run (EquinoxOps). -/

@[simp] theorem State.firmMove_holdView (s : State) (x : Nat) (p : Int) : (s.firmMove x p).holdView = s.holdView := by
  simp [State.firmMove]
@[simp] theorem State.stripFree_holdView (s : State) : s.stripFree.holdView = s.holdView := by simp [State.stripFree]
@[simp] theorem State.setEqx_holdView (s : State) (e : Option Eqx) : (s.setEqx e).holdView = s.holdView := by rfl
@[simp] theorem State.clearInactive_holdView (s : State) (i : Nat) : (s.clearInactive i).holdView = s.holdView := by
  simp [State.clearInactive]
@[simp] theorem State.eqxStart_holdView (s : State) (src : Nat) (path : Path) : (s.eqxStart src path).holdView = s.holdView := by
  simp [State.eqxStart]

@[simp] theorem State.targetMove_holdView (s : State) (g pcs : Nat) : (s.targetMove g pcs).holdView = s.holdView := by
  unfold State.targetMove
  split <;> simp

@[simp] theorem State.alignBegin_holdView (s : State) : s.alignBegin.holdView = s.holdView := by
  unfold State.alignBegin
  dsimp only
  repeat' split
  all_goals simp [↓State.holdView_mk]

@[simp] theorem State.eqxReply_holdView (s : State) (e : Eqx) (ok : Bool) : (s.eqxReply e ok).holdView = s.holdView := by
  simp [State.eqxReply]

/-! Paced motion (ScanOps). -/

@[simp] theorem State.queuePaced_holdView (s : State) : s.queuePaced.holdView = s.holdView := by simp [State.queuePaced]

/-! Converters and sensors (MonOps). -/

@[simp] theorem State.resettle_holdView (s : State) (x : Nat) : (s.resettle x).holdView = s.holdView := by simp [State.resettle]
@[simp] theorem State.switchEx_holdView (s : State) (x : Nat) (on rev : Bool) : (s.switchEx x on rev).holdView = s.holdView := by
  simp [State.switchEx]
@[simp] theorem State.releaseEx_holdView (s : State) (x : Nat) : (s.releaseEx x).holdView = s.holdView := by
  simp [State.releaseEx]
@[simp] theorem State.writeHoldOn_holdView (s : State) (x v : Nat) : (s.writeHoldOn x v).holdView = s.holdView := by
  simp [State.writeHoldOn]
@[simp] theorem State.convSettle_holdView (s : State) (k : Nat) : (s.convSettle k).holdView = s.holdView := by
  simp [State.convSettle]
@[simp] theorem State.convExcite_holdView (s : State) (k : Nat) : (s.convExcite k).holdView = s.holdView := by
  simp [State.convExcite]
@[simp] theorem State.convStart_holdView (s : State) (k : Nat) : (s.convStart k).holdView = s.holdView := by
  simp [State.convStart]
@[simp] theorem State.wakeWaiters_holdView (s : State) : s.wakeWaiters.holdView = s.holdView := by simp [State.wakeWaiters]
@[simp] theorem State.convRun_holdView (s : State) (k : Nat) : (s.convRun k).holdView = s.holdView := by simp [State.convRun]
@[simp] theorem State.urgentBegin_holdView (s : State) (k : Nat) : (s.urgentBegin k).holdView = s.holdView := by
  simp [State.urgentBegin]
@[simp] theorem State.urgentAsk_holdView (s : State) (k kind chain : Nat) : (s.urgentAsk k kind chain).holdView = s.holdView := by
  simp [State.urgentAsk]
@[simp] theorem State.modRtd_holdView (s : State) (r : Nat) (f : Rtd → Rtd) : (s.modRtd r f).holdView = s.holdView := by rfl
@[simp] theorem State.rtdsCheck_holdView (s : State) : s.rtdsCheck.holdView = s.holdView := by simp [State.rtdsCheck]
@[simp] theorem State.monStop_holdView (s : State) : s.monStop.holdView = s.holdView := by
  simp [↓State.holdView_mk, State.monStop]

/-! Coefficient records and BMV0 (QdrOps). -/

@[simp] theorem State.takeRecord_holdView (s : State) (i : Nat) : (s.takeRecord i).1.holdView = s.holdView := by
  unfold State.takeRecord
  dsimp only
  repeat' split
  all_goals simp

@[simp] theorem State.bmvGo_holdView (s : State) (c : Nat) : (s.bmvGo c).holdView = s.holdView := by simp [State.bmvGo]
@[simp] theorem State.bmvDescr_holdView (s : State) (c v : Nat) : (s.bmvDescr c v).holdView = s.holdView := by
  simp [State.bmvDescr]
@[simp] theorem State.bmvFree_holdView (s : State) (c : Nat) : (s.bmvFree c).holdView = s.holdView := by simp [State.bmvFree]

@[simp] theorem State.bmvAbort_holdView (s : State) (c : Nat) : (s.bmvAbort c).holdView = s.holdView := by
  unfold State.bmvAbort
  split <;> simp

/-! Keys, packages and attestation (SecOps). -/

@[simp] theorem State.loadKernel_holdView (s : State) : s.loadKernel.holdView = s.holdView := by
  unfold State.loadKernel
  split <;> simp [↓State.holdView_mk]

@[simp] theorem State.storeConfig_holdView (s : State) : s.storeConfig.1.holdView = s.holdView := by
  unfold State.storeConfig
  dsimp only
  repeat' split
  all_goals simp

@[simp] theorem State.showKeys_holdView (s : State) : s.showKeys.holdView = s.holdView := by simp [State.showKeys]

@[simp] theorem State.commitKey_holdView (s : State) (k : Nat) (l : List Byte) : (s.commitKey k l).1.holdView = s.holdView := by
  unfold State.commitKey
  dsimp only
  repeat' split
  all_goals simp [↓State.holdView_mk]

@[simp] theorem State.commitOtp_holdView (s : State) (k : Nat) (l : List Byte) : (s.commitOtp k l).1.holdView = s.holdView := by
  unfold State.commitOtp
  dsimp only
  repeat' split
  all_goals simp [↓State.holdView_mk]

@[simp] theorem State.commitKernel_holdView (s : State) (l : List Byte) : (s.commitKernel l).1.holdView = s.holdView := by
  unfold State.commitKernel
  dsimp only
  repeat' split
  all_goals simp

@[simp] theorem State.commitFw_holdView (s : State) (l : List Byte) : (s.commitFw l).1.holdView = s.holdView := by
  unfold State.commitFw
  dsimp only
  repeat' split
  all_goals simp

@[simp] theorem State.attest_holdView (s : State) (nonce : List Byte) : (s.attest nonce).1.holdView = s.holdView := by
  unfold State.attest
  dsimp only
  repeat' split
  all_goals simp

/-! Register reads (RegRead). -/

@[simp] theorem State.noteSel_holdView (s : State) (p : Path) (bcast : Bool) (j : Nat) :
    (s.noteSel p bcast j).holdView = s.holdView := by simp [State.noteSel]

@[simp] theorem State.takeLatch_holdView (s : State) (p : Path) (r : Reg) (k i : Nat) :
    (s.takeLatch p r k i).holdView = s.holdView := by
  refine foldl_holdView (fun s a => ?_) _ _
  split <;> rfl

@[simp] theorem State.readOne_holdView (s : State) (p : Path) (r : Reg) (k i : Nat) :
    (s.readOne p r k i).1.holdView = s.holdView := by
  have rc (t : State) : (r.flds.foldl (fun t f => if f.acc = .rc then t.setFldAt f k i 0 else t) t).holdView = t.holdView :=
    foldl_holdView (fun t f => by split <;> rfl) _ _
  unfold State.readOne
  dsimp only
  repeat' split
  all_goals simp [rc]

@[simp] theorem State.readAddr_holdView (s : State) (p : Path) (addr : Nat) : (s.readAddr p addr).1.holdView = s.holdView := by
  unfold State.readAddr
  dsimp only
  repeat' split
  all_goals simp

/-! Register writes (RegWrite). -/

@[simp] theorem State.storeFlds_holdView (s : State) (r : Reg) (k i v : Nat) (ro : Bool) :
    (s.storeFlds r k i v ro).holdView = s.holdView := by
  refine foldl_holdView (fun s f => ?_) _ _
  dsimp only
  repeat' split
  all_goals rfl

@[simp] theorem State.testRest_holdView (s : State) (q : Nat) : (s.testRest q).holdView = s.holdView := by simp [State.testRest]
@[simp] theorem State.laneCtrl_holdView (s : State) (i v : Nat) : (s.laneCtrl i v).holdView = s.holdView := by
  simp [State.laneCtrl]
@[simp] theorem State.laneEq_holdView (s : State) (i v : Nat) : (s.laneEq i v).holdView = s.holdView := by simp [State.laneEq]
@[simp] theorem State.verifyAll_holdView (s : State) (b : Nat) : (s.verifyAll b).holdView = s.holdView := by rfl
@[simp] theorem State.unmarkSwap_holdView (s : State) : s.unmarkSwap.holdView = s.holdView := by rfl

@[simp] theorem State.swapArm_holdView (s : State) : s.swapArm.holdView = s.holdView := by
  unfold State.swapArm
  split <;> simp

@[simp] theorem State.swapDisarm_holdView (s : State) : s.swapDisarm.holdView = s.holdView := by simp [State.swapDisarm]
@[simp] theorem State.bankCtrl_holdView (s : State) (v : Nat) : (s.bankCtrl v).holdView = s.holdView := by simp [State.bankCtrl]
@[simp] theorem State.lutData_holdView (s : State) (v : Nat) : (s.lutData v).holdView = s.holdView := by
  simp [↓State.holdView_mk, State.lutData]
@[simp] theorem State.holdHi_holdView (s : State) (p : Path) (key v : Nat) : (s.holdHi p key v).holdView = s.holdView := by
  simp [State.holdHi]
@[simp] theorem State.joinHi_holdView (s : State) (p : Path) (key v : Nat) (now : Int) :
    (s.joinHi p key v now).1.holdView = s.holdView := by simp [State.joinHi]
@[simp] theorem State.encPosLo_holdView (s : State) (p : Path) (k v : Nat) : (s.encPosLo p k v).holdView = s.holdView := by
  simp [State.encPosLo]
@[simp] theorem State.axisPosLo_holdView (s : State) (p : Path) (i v : Nat) : (s.axisPosLo p i v).holdView = s.holdView := by
  simp [State.axisPosLo]

@[simp] theorem State.shortCleared_holdView (s : State) (was : Nat) : (s.shortCleared was).holdView = s.holdView := by
  refine foldl_holdView (fun s x => ?_) _ _
  split <;> simp

@[simp] theorem State.urgCtrl_holdView (s : State) (v : Nat) : (s.urgCtrl v).holdView = s.holdView := by simp [State.urgCtrl]
@[simp] theorem State.bmvCtrl_holdView (s : State) (c v : Nat) : (s.bmvCtrl c v).holdView = s.holdView := by simp [State.bmvCtrl]
@[simp] theorem State.clkCfg_holdView (s : State) (v : Nat) : (s.clkCfg v).holdView = s.holdView := by simp [State.clkCfg]
@[simp] theorem State.portTest_holdView (s : State) (q v : Nat) : (s.portTest q v).holdView = s.holdView := by
  simp [State.portTest]

@[simp] theorem State.writeOne_holdView (s : State) (p : Path) (r : Reg) (k i v : Nat) (cfg : Bool) :
    (s.writeOne p r k i v cfg).holdView = s.holdView := by
  unfold State.writeOne
  dsimp only
  repeat' split
  all_goals simp [↓State.holdView_mk]

@[simp] theorem State.writeInst_holdView (s : State) (p : Path) (r : Reg) (k i v : Nat) (cfg : Bool) :
    (s.writeInst p r k i v cfg).1.holdView = s.holdView := by
  unfold State.writeInst
  dsimp only
  repeat' split
  all_goals simp

@[simp] theorem State.writeSel_holdView (s : State) (p : Path) (j v : Nat) : (s.writeSel p j v).holdView = s.holdView := by
  simp [State.writeSel]
@[simp] theorem State.writeErr_holdView (s : State) (p : Path) (v : Nat) : (s.writeErr p v).holdView = s.holdView := by
  simp [State.writeErr]

@[simp] theorem State.writeAll_holdView (s : State) (p : Path) (r : Reg) (v : Nat) (cfg : Bool) :
    (s.writeAll p r v cfg).1.holdView = s.holdView := by
  unfold State.writeAll
  dsimp only
  split
  · refine foldl_keeps (fun acc : State × Nat => acc.1.holdView) (fun acc i => ?_) _ (s, stOk)
    split <;> simp
  · rfl

@[simp] theorem State.writeAddr_holdView (s : State) (p : Path) (addr v : Nat) (cfg : Bool) :
    (s.writeAddr p addr v cfg).1.holdView = s.holdView := by
  unfold State.writeAddr
  dsimp only
  repeat' split
  all_goals simp

@[simp] theorem State.writeList_holdView (s : State) (p : Path) (es : List (Nat × Nat)) :
    (s.writeList p es).1.holdView = s.holdView := by
  unfold State.writeList
  dsimp only
  split
  · refine foldl_keeps (fun acc => acc.1.holdView) (fun acc e => ?_) es (s, stOk, 0)
    repeat' split
    all_goals simp
  · rfl

@[simp] theorem State.readList_holdView (s : State) (p : Path) (as : List Nat) :
    (s.readList p as).1.holdView = s.holdView := by
  unfold State.readList
  split
  · rfl
  · refine foldl_keeps (fun acc : State × List Nat => acc.1.holdView) (fun acc a => ?_) as (s, [])
    simp

@[simp] theorem State.modify_holdView (s : State) (p : Path) (addr mask v : Nat) :
    (s.modify p addr mask v).1.holdView = s.holdView := by
  unfold State.modify
  dsimp only
  repeat' split
  all_goals simp

/-! Power (PowerOps). -/

@[simp] theorem State.showCause_holdView (s : State) (cause : Nat) : (s.showCause cause).holdView = s.holdView := by
  simp [State.showCause]
@[simp] theorem State.portsUp_holdView (s : State) : s.portsUp.holdView = s.holdView := by rfl

/-! Faults (FaultOps). -/

@[simp] theorem State.abandonOps_holdView (s : State) : s.abandonOps.holdView = s.holdView := by
  refine (foldl_holdView (fun t p => State.sendReply_holdView t p _) _ _).trans ?_
  simp [↓State.holdView_mk]

/-! Job commands (JobOps). -/

@[simp] theorem State.ok_holdView (s : State) (pl : List Byte) : (s.ok pl).1.holdView = s.holdView := by simp [State.ok]
@[simp] theorem State.no_holdView (s : State) (st : Nat) (detail : Nat) : (s.no st detail).1.holdView = s.holdView := by
  simp [State.no]
@[simp] theorem State.noQdr_holdView (s : State) : s.noQdr.1.holdView = s.holdView := by simp [State.noQdr]
@[simp] theorem State.showAdmit_holdView (s : State) : s.showAdmit.holdView = s.holdView := by simp [State.showAdmit]

@[simp] theorem State.jobPair_holdView (s : State) (e : Nat × Nat) : (s.jobPair e).holdView = s.holdView := by
  unfold State.jobPair
  split <;> simp

@[simp] theorem State.jobTrial_holdView (s : State) (pl : List Byte) (es : List (Nat × Nat)) :
    (s.jobTrial pl es).holdView = s.holdView := by simp [↓State.holdView_mk, State.jobTrial]
@[simp] theorem State.lostRecords_holdView (s : State) : s.lostRecords.holdView = s.holdView := by simp [State.lostRecords]
@[simp] theorem State.mediaHalt_holdView (s : State) : s.mediaHalt.holdView = s.holdView := by simp [State.mediaHalt]

@[simp] theorem State.jobArm_holdView (s : State) (p : Path) : (s.jobArm p).1.holdView = s.holdView := by
  unfold State.jobArm
  repeat' split
  all_goals simp [↓State.holdView_mk]

@[simp] theorem State.armNo_holdView (s : State) (a : ArmOp) (st detail : Nat) : (s.armNo a st detail).holdView = s.holdView := by
  simp [↓State.holdView_mk, State.armNo]

theorem State.armCheck_holdView {s t : State} {st d : Nat} (h : s.armCheck = some (st, d, t)) : t.holdView = s.holdView := by
  unfold State.armCheck at h
  dsimp only at h
  repeat' split at h
  all_goals simp only [reduceCtorEq, Option.some.injEq, Prod.mk.injEq] at h
  all_goals obtain ⟨-, -, rfl⟩ := h
  case h_1 e => exact State.alignCheck_holdView e
  all_goals rfl

@[simp] theorem State.compatImages_holdView (s : State) : s.compatImages.holdView = s.holdView := by
  unfold State.compatImages
  split
  · rfl
  · refine foldl_holdView (fun s i => ?_) _ _
    have h := State.takeRecord_holdView s i
    split
    all_goals
      rename_i e
      rw [e] at h
      simpa using h

@[simp] theorem State.restoreLane_holdView (s : State) (i : Nat) : (s.restoreLane i).holdView = s.holdView := by
  unfold State.restoreLane
  split <;> simp

@[simp] theorem State.chainsUp_holdView (s : State) : s.chainsUp.holdView = s.holdView := by simp [State.chainsUp]

@[simp] theorem State.abortProgress_holdView (s : State) : s.abortProgress.holdView = s.holdView := by
  unfold State.abortProgress
  split <;> simp [↓State.holdView_mk]

/-! Motion and light commands (BarCmds). -/

@[simp] theorem State.moveQueue_holdView (s : State) (pl : List Byte) : (s.moveQueue pl).1.holdView = s.holdView := by
  unfold State.moveQueue
  dsimp only
  repeat' split
  all_goals simp

@[simp] theorem State.homeCmd_holdView (s : State) (pl : List Byte) : (s.homeCmd pl).1.holdView = s.holdView := by
  unfold State.homeCmd
  dsimp only
  repeat' split
  all_goals simp

@[simp] theorem State.axisEnable_holdView (s : State) (pl : List Byte) : (s.axisEnable pl).1.holdView = s.holdView := by
  unfold State.axisEnable
  dsimp only
  repeat' split
  all_goals simp

@[simp] theorem State.lumSet_holdView (s : State) (pl : List Byte) : (s.lumSet pl).1.holdView = s.holdView := by
  unfold State.lumSet
  dsimp only
  repeat' split
  all_goals simp

@[simp] theorem State.lumDiag_holdView (s : State) (p : Path) (pl : List Byte) : (s.lumDiag p pl).1.holdView = s.holdView := by
  unfold State.lumDiag
  dsimp only
  repeat' split
  all_goals simp [↓State.holdView_mk]

@[simp] theorem State.diagReply_holdView (s : State) : s.diagReply.holdView = s.holdView := by
  unfold State.diagReply
  split <;> simp [↓State.holdView_mk]

@[simp] theorem State.diagProgress_holdView (s : State) : s.diagProgress.holdView = s.holdView := by simp [State.diagProgress]

@[simp] theorem State.tileBroadcast_holdView (s : State) (p : Path) (pl : List Byte) :
    (s.tileBroadcast p pl).1.holdView = s.holdView := by
  unfold State.tileBroadcast
  dsimp only
  repeat' split
  all_goals simp [↓State.holdView_mk]

/-! Store commands (StoreCmds). -/

@[simp] theorem State.coefWrite_holdView (s : State) (x : Stage) : (s.coefWrite x).holdView = s.holdView := by
  unfold State.coefWrite
  split <;> simp [↓State.holdView_mk]

@[simp] theorem State.coefLoad_holdView (s : State) (p : Path) (pl : List Byte) : (s.coefLoad p pl).1.holdView = s.holdView := by
  unfold State.coefLoad
  dsimp only
  repeat' split
  all_goals simp

@[simp] theorem State.promote_holdView (s : State) : s.promote.holdView = s.holdView := by simp [State.promote]

@[simp] theorem State.saveRecord_holdView (s : State) (i : Nat) : (s.saveRecord i).1.holdView = s.holdView := by
  unfold State.saveRecord
  dsimp only
  generalize List.take 60 _ ++ _ ++ _ = l
  repeat' split
  all_goals simp [↓State.holdView_mk]

@[simp] theorem State.coefSave_holdView (s : State) (pl : List Byte) : (s.coefSave pl).1.holdView = s.holdView := by
  have save (l : List Nat) (x : State × Bool) :
      (l.foldl (fun (x : State × Bool) i => if x.2 then x.1.saveRecord i else x) x).1.holdView = x.1.holdView :=
    foldl_keeps (fun x => x.1.holdView) (fun x i => by split <;> simp) l x
  unfold State.coefSave
  dsimp only
  repeat' split
  all_goals simp [save]

@[simp] theorem State.refRasterPut_holdView (s : State) (p : Path) (pl : List Byte) :
    (s.refRasterPut p pl).1.holdView = s.holdView := by
  unfold State.refRasterPut
  dsimp only
  repeat' split
  all_goals simp [↓State.holdView_mk]

@[simp] theorem State.verdictConfig_holdView (s : State) (p : Path) (pl : List Byte) :
    (s.verdictConfig p pl).1.holdView = s.holdView := by
  unfold State.verdictConfig
  dsimp only
  repeat' split
  all_goals simp

@[simp] theorem State.statsRead_holdView (s : State) (p : Path) : (s.statsRead p).1.holdView = s.holdView := by
  unfold State.statsRead
  split <;> simp [↓State.holdView_mk]

@[simp] theorem State.configStore_holdView (s : State) : s.configStore.1.holdView = s.holdView := by simp [State.configStore]
@[simp] theorem State.fwPut_holdView (s : State) (off : Nat) (l : List Byte) : (s.fwPut off l).holdView = s.holdView := by
  simp [State.fwPut]

@[simp] theorem State.commitPack_holdView (s : State) (u : Update) (k : Nat) : (s.commitPack u k).1.holdView = s.holdView := by
  unfold State.commitPack
  split <;> simp

@[simp] theorem State.dumpRead_holdView (s : State) (pl : List Byte) : (s.dumpRead pl).1.holdView = s.holdView := by
  unfold State.dumpRead
  dsimp only
  repeat' split
  all_goals simp

@[simp] theorem State.faultLogRead_holdView (s : State) (pl : List Byte) : (s.faultLogRead pl).1.holdView = s.holdView := by
  unfold State.faultLogRead
  dsimp only
  repeat' split
  all_goals simp

@[simp] theorem State.bmvSubmit_holdView (s : State) (pl : List Byte) : (s.bmvSubmit pl).1.holdView = s.holdView := by
  unfold State.bmvSubmit
  dsimp only
  repeat' split
  all_goals simp

@[simp] theorem State.testsOff_holdView (s : State) : s.testsOff.holdView = s.holdView := by simp [State.testsOff]

@[simp] theorem State.seasonSet_holdView (s : State) (pl : List Byte) : (s.seasonSet pl).1.holdView = s.holdView := by
  unfold State.seasonSet
  repeat' split
  all_goals simp

/-! Transport (TransOps). -/

@[simp] theorem State.sendTo_holdView (s : State) (q : Nat) (dst : HostAddr) (cls : Nat) (bytes : List Byte) :
    (s.sendTo q dst cls bytes).holdView = s.holdView := by
  unfold State.sendTo
  split <;> simp

@[simp] theorem State.sendRsp_holdView (s : State) (k q : Nat) (r : RspOut) : (s.sendRsp k q r).holdView = s.holdView := by
  unfold State.sendRsp
  dsimp only
  repeat' split
  all_goals simp

/-! Session commands (SessCmds). -/

@[simp] theorem State.closeCheck_holdView (s : State) (p : Path) (pl : List Byte) :
    (s.closeCheck p pl).1.holdView = s.holdView := by
  unfold State.closeCheck
  repeat' split
  all_goals simp

/-! Command packets (Commands). -/

@[simp] theorem State.regReadCmd_holdView (s : State) (p : Path) (pl : List Byte) :
    (s.regReadCmd p pl).1.holdView = s.holdView := by
  have h := State.readList_holdView s p ((chunksOf 4 256 pl).map ofBe)
  unfold State.regReadCmd
  dsimp only
  split
  · simp
  · split
    · rename_i e
      rw [e] at h
      simpa using h
    · simp

@[simp] theorem State.regWriteCmd_holdView (s : State) (p : Path) (pl : List Byte) :
    (s.regWriteCmd p pl).1.holdView = s.holdView := by
  unfold State.regWriteCmd
  dsimp only
  repeat' split
  all_goals simp

@[simp] theorem State.regModifyCmd_holdView (s : State) (p : Path) (pl : List Byte) :
    (s.regModifyCmd p pl).1.holdView = s.holdView := by
  unfold State.regModifyCmd
  dsimp only
  repeat' split
  all_goals simp

@[simp] theorem State.attestCmd_holdView (s : State) (pl : List Byte) : (s.attestCmd pl).1.holdView = s.holdView := by
  have h := State.attest_holdView s pl
  unfold State.attestCmd
  split
  · rename_i e
    rw [e] at h
    simpa using h
  · simp

@[simp] theorem State.flushRsps_holdView (s : State) (k : Nat) : (s.flushRsps k).holdView = s.holdView := by
  simp [State.flushRsps]

@[simp] theorem State.replyNow_holdView (s : State) (p : Path) (h : Hdr) (key : Option (List Byte)) (r : Rsp) :
    (s.replyNow p h key r).holdView = s.holdView := by simp [State.replyNow]
@[simp] theorem State.replyKept_holdView (s : State) (p : Path) (b : List Byte) (port : Nat) (x : Kept) :
    (s.replyKept p b port x).holdView = s.holdView := by simp [State.replyKept]

end Sys2Proof.Machine
end
-- ==== Sys2Proof/Proofs/HoldProgress.lean ====
section
/-! The operations in progress (15_command_set.md R400) neither enter FAULT_HOLD nor take lines from the elastic buffer within
it: each keeps the view, or ends in an operating state of its own. -/

namespace Sys2Proof.Machine

/-! How an operation leaves its state, seen through the view. -/

@[simp] theorem State.enterIdle_holdView (s : State) : s.enterIdle.holdView = s.holdView.withOp .idle := by
  simp [↓State.holdView_mk, State.enterIdle]
  rfl

@[simp] theorem State.enterDraining_holdView (s : State) : s.enterDraining.holdView = s.holdView.withOp .draining := by
  unfold State.enterDraining
  dsimp only
  split <;> simp

@[simp] theorem State.dropLines_holdView (s : State) (drop : Nat → Bool) :
    (s.dropLines drop).holdView = s.holdView.withElastic (s.prod.elastic.filter (fun l => !drop l.n)) := by
  simp [↓State.holdView_mk, State.dropLines]
  rfl

/-- A seal drops lines and nothing else of the view. -/
theorem State.sealAt_leaves (s : State) (bit ls1 : Nat) (cold fresh : Bool) :
    (s.sealAt bit ls1 cold fresh).holdView.op = s.holdView.op ∧
      (s.sealAt bit ls1 cold fresh).holdView.paths = s.holdView.paths := by
  unfold State.sealAt
  extract_lets _ _ ls1 _ causes marked dropped kept
  have hk : kept.holdView = dropped.holdView := by unfold kept; split <;> simp
  have hd : dropped.holdView = marked.holdView.withElastic _ := State.dropLines_holdView ..
  have hm : marked.holdView = s.holdView := by
    clear_value ls1 causes
    exact State.setFlds_holdView ..
  clear_value kept dropped marked
  simp [↓State.holdView_mk, State.op_eq, State.cmds_length, hk, hd, hm]

@[simp] theorem State.startNow_holdView (s : State) : s.startNow.holdView = s.holdView.withOp .running := by
  unfold State.startNow
  dsimp only
  split <;> simp [↓State.holdView_mk]
  all_goals rfl

@[simp] theorem State.opDone_holdView (s : State) (result reason : Nat) :
    (s.opDone result reason).holdView = s.holdView.withOp .idle := by
  unfold State.opDone
  extract_lets shown halted idle
  have hs : shown.holdView = s.holdView := by simp [shown]
  have hh : halted.holdView = shown.holdView := by
    unfold halted
    repeat' split
    all_goals simp
  have hi : idle.holdView = s.holdView := by simp [idle, hs, hh]
  clear_value idle
  simp [↓State.holdView_mk, hi]

@[simp] theorem State.jobReset_holdView (s : State) : s.jobReset.holdView = s.holdView.withElastic [] := by
  simp [↓State.holdView_mk, State.jobReset, State.op_eq, State.cmds_length]
  rfl

@[simp] theorem State.armLeave_holdView (s : State) (a : ArmOp) :
    (s.armLeave a).holdView = (s.holdView.withElastic []).withOp .calibrating := by
  simp [↓State.holdView_mk, State.armLeave, State.op_eq, State.elastic_eq, State.cmds_length]
  rfl

/-- Only a running or holding job is sealed and held (11_reseam.md R299), so FAULT_HOLD is not entered here. -/
theorem State.hold_keeps (s : State) (bit ls1 : Nat) (cold : Bool) : s.KeepsHold (s.hold bit ls1 cold) := by
  unfold State.hold
  split
  · exact .refl s
  rename_i h
  have hs : s.holdView.op ≠ .faultHold := by
    rw [← State.op_eq]
    intro e
    simp [e] at h
  have sealed (b l : Nat) (c f : Bool) : (s.sealAt b l c f).holdView.op ≠ .faultHold := by rwa [(s.sealAt_leaves b l c f).1]
  have paths (b l : Nat) (c f : Bool) := (s.sealAt_leaves b l c f).2
  dsimp only
  repeat' split
  · exact .refl s
  · exact .refl s
  · exact .of_left (by simp [paths]) (by simp [sealed])
  · exact .of_left (by simp [paths]) (by simp [sealed])
  · exact .of_left (by simp) (by simp)
  · exact .of_left (by simp [↓State.holdView_mk, State.cmds_length, paths]) (by simp [↓State.holdView_mk])

@[simp] theorem State.hold_paths (s : State) (bit ls1 : Nat) (cold : Bool) :
    (s.hold bit ls1 cold).holdView.paths = s.holdView.paths :=
  (s.hold_keeps bit ls1 cold).paths

/-! The operations in progress. -/

theorem State.skipLines_keeps (s : State) (n k : Nat) : s.KeepsHold (s.skipLines n k) := by
  unfold State.skipLines
  split
  · exact .refl s
  dsimp only
  split
  · exact .of_view (by simp [↓State.holdView_mk])
  · split
    · exact .of_view (by simp [↓State.holdView_mk])
    · split
      · exact .trans (.of_view (by simp [↓State.holdView_mk])) (State.hold_keeps ..)
      · split
        · exact .of_left (by simp [↓State.holdView_mk]) (by simp)
        · exact .of_view (by simp [↓State.holdView_mk])

theorem State.resumePlacing_keeps (s : State) : s.KeepsHold s.resumePlacing := by
  unfold State.resumePlacing
  extract_lets tracked nr n _ active
  have ha : active.holdView = s.holdView := by simp [active, ↓State.holdView_mk, tracked]
  exact .trans (.of_view ha) (.trans (State.skipLines_keeps active nr (n - nr)) (.of_view (State.replan_holdView _)))

/-- A run that is over leaves CALIBRATING for the state of what began it, or goes on in the one it is in. -/
theorem State.eqxEnd_keeps (s : State) (e : Eqx) : s.KeepsHold (s.eqxEnd e) := by
  unfold State.eqxEnd
  extract_lets ok shown placing freed resumed
  have hf : s.KeepsHold freed := .of_view (by
    have hs : shown.holdView = s.holdView := by unfold shown; split <;> simp
    have hp : placing.holdView = shown.holdView := by unfold placing; split <;> simp
    simp [freed, hs, hp])
  clear_value freed
  refine .trans hf ?_
  split
  · split <;> exact .of_left (by simp) (by simp)
  · split <;> exact .of_left (by simp) (by simp)
  · have hr : freed.KeepsHold resumed := .trans (.of_left (by simp) (by simp)) (State.resumePlacing_keeps _)
    split
    · exact hr
    · exact hr.trans (.of_view (by simp))
  · split
    · exact .of_view (by simp)
    · exact .of_left (by simp) (by simp)
  · split
    · exact .refl _
    · exact .of_left (by simp) (by simp)

theorem State.eqxPark_keeps (s : State) (e : Eqx) : s.KeepsHold (s.eqxPark e) := by
  unfold State.eqxPark
  extract_lets parking
  have hp : s.KeepsHold parking := .of_view (by unfold parking; split <;> simp)
  split
  · exact hp.trans (State.eqxEnd_keeps parking e)
  · exact hp.trans (.of_view (by simp))

theorem State.eqxFail_keeps (s : State) (e : Eqx) : s.KeepsHold (s.eqxFail e) := by
  unfold State.eqxFail
  extract_lets dark e' cleared failed
  refine .trans (.of_view ?_) (State.eqxPark_keeps failed e')
  unfold failed cleared dark
  split <;> simp

theorem State.eqxProgress_keeps (s : State) : s.KeepsHold s.eqxProgress := by
  unfold State.eqxProgress
  split
  · exact .refl s
  rename_i e _
  split
  · split
    · exact State.eqxEnd_keeps s e
    · split
      · exact .refl s
      · exact .of_view (State.firmMove_holdView ..)
  split
  · exact State.eqxFail_keeps s e
  split
  · exact State.eqxFail_keeps s _
  split
  · split
    · exact .of_view (by simp)
    · split
      · exact .of_view (State.firmMove_holdView ..)
      · exact .refl s
  split
  · exact .of_view (State.firmMove_holdView ..)
  · exact .refl s

theorem State.alignProgress_keeps (s : State) : s.KeepsHold s.alignProgress := by
  unfold State.alignProgress
  split
  · split
    · exact .of_left (by simp) (by simp)
    · exact .refl s
  · exact .refl s

theorem State.startProgress_keeps (s : State) : s.KeepsHold s.startProgress := by
  unfold State.startProgress
  split
  · exact .refl s
  · dsimp only
    split
    · exact .of_view (by simp [↓State.holdView_mk])
    · split
      · exact .refl s
      · exact .of_left (by simp [↓State.holdView_mk, State.cmds_length]) (by simp)

theorem State.bootProgress_keeps (s : State) : s.KeepsHold s.bootProgress := by
  unfold State.bootProgress
  split
  · exact .refl s
  · split
    · split
      · exact .refl s
      · exact .of_view (by simp [↓State.holdView_mk])
    · split
      · exact .refl s
      · exact .of_left (by simp [↓State.holdView_mk, State.cmds_length]) (by simp)

theorem State.serviceLost_keeps (s : State) : s.KeepsHold s.serviceLost := by
  unfold State.serviceLost
  extract_lets aborted halted abandoned shown _ closed
  have ha : aborted.holdView = s.holdView := by unfold aborted; split <;> simp
  split
  · have hh : halted.holdView = aborted.holdView := by
      unfold halted
      repeat' split
      all_goals simp
    have hs : shown.holdView = abandoned.holdView := by unfold shown; split <;> simp
    exact .of_left (by simp [closed, ↓State.holdView_mk, State.cmds_length, hs, abandoned, hh, ha]) (by simp)
  · exact .of_view ha

theorem State.emitBin_leaves (s : State) (b : Bin) :
    (s.emitBin b).holdView.op = s.holdView.op ∧ (s.emitBin b).holdView.paths = s.holdView.paths := by
  unfold State.emitBin
  extract_lets _ taken
  have ht : taken.holdView = s.holdView := State.holdView_mk ..
  clear_value taken
  split
  · simp [ht]
  · dsimp only
    simp [↓State.holdView_mk, State.op_eq, State.cmds_length, ht]

theorem State.flushBins_leaves (s : State) :
    s.flushBins.holdView.op = s.holdView.op ∧ s.flushBins.holdView.paths = s.holdView.paths :=
  ⟨foldl_keeps (fun s => s.holdView.op) (fun s b => (s.emitBin_leaves b).1) _ s,
    foldl_keeps (fun s => s.holdView.paths) (fun s b => (s.emitBin_leaves b).2) _ s⟩

theorem State.pruneElastic_leaves (s : State) :
    s.pruneElastic.holdView.op = s.holdView.op ∧ s.pruneElastic.holdView.paths = s.holdView.paths := by
  simp [State.pruneElastic, ↓State.holdView_mk, State.op_eq, State.cmds_length]

theorem State.drainCheck_keeps (s : State) : s.KeepsHold s.drainCheck := by
  unfold State.drainCheck
  split
  · rename_i h
    have ho : s.holdView.op = .draining := h.1
    dsimp only
    split
    · exact .of_left (by simp [State.pruneElastic_leaves, State.flushBins_leaves]) (by simp)
    · exact .of_left (by simp [State.pruneElastic_leaves, State.flushBins_leaves])
        (by simp [State.pruneElastic_leaves, State.flushBins_leaves, ho])
  · exact .refl s

/-- JOB_ARM either fails, or goes on in CALIBRATING. -/
theorem State.armProgress_keeps (s : State) : s.KeepsHold s.armProgress := by
  unfold State.armProgress
  split
  · exact .refl s
  split
  · split
    · exact .refl s
    · split
      · rename_i h
        exact .of_view (by simp [State.armCheck_holdView h])
      · exact .of_left (by simp) (by simp)
  · split
    · exact .refl s
    · extract_lets _ restored
      split
      · exact .of_left (by simp [restored, ↓State.holdView_mk, State.cmds_length]) (by simp)
      · exact .of_view (by simp [restored, ↓State.holdView_mk])

theorem State.pollOps_keeps (s : State) : s.KeepsHold s.pollOps := by
  unfold State.pollOps
  refine .trans (State.armProgress_keeps _) ?_
  refine .trans (State.eqxProgress_keeps _) ?_
  refine .trans (State.alignProgress_keeps _) ?_
  refine .trans (.of_view (State.abortProgress_holdView _)) ?_
  refine .trans (State.startProgress_keeps _) ?_
  refine .trans (.of_view (State.diagProgress_holdView _)) ?_
  refine .trans (State.bootProgress_keeps _) ?_
  refine .trans (State.serviceLost_keeps _) ?_
  exact State.drainCheck_keeps _

end Sys2Proof.Machine
end
-- ==== Sys2Proof/Proofs/HoldCommands.lean ====
section
/-! No command takes a command path away: where none is left, none was there, and no queued command has run. Most commands
keep the number of paths; those that end in a reset or in Winter leave ten. -/

namespace Sys2Proof.Machine

@[simp] theorem State.pruneElastic_paths (s : State) : s.pruneElastic.holdView.paths = s.holdView.paths := s.pruneElastic_leaves.2

@[simp] theorem State.dropAllLines_paths (s : State) : s.dropAllLines.holdView.paths = s.holdView.paths := by
  simp [↓State.holdView_mk, State.dropAllLines, State.cmds_length]

@[simp] theorem State.closeWindows_paths (s : State) : s.closeWindows.holdView.paths = s.holdView.paths := by
  simp [State.closeWindows]

@[simp] theorem State.holdLast_paths (s : State) (bit : Nat) : (s.holdLast bit).holdView.paths = s.holdView.paths := by
  simp [State.holdLast]

@[simp] theorem State.stopJob_paths (s : State) : s.stopJob.holdView.paths = s.holdView.paths := by
  unfold State.stopJob
  split <;> simp

@[simp] theorem State.endSession_paths (s : State) (k what : Nat) : (s.endSession k what).holdView.paths = s.holdView.paths := by
  unfold State.endSession
  extract_lets x left closed told
  have hl : left.holdView.paths = s.holdView.paths := by
    unfold left
    split <;> simp
  repeat' split
  all_goals simp [hl, closed, told]

@[simp] theorem State.reserveBw_paths (s : State) (p : Path) (pl : List Byte) :
    (s.reserveBw p pl).1.holdView.paths = s.holdView.paths := by
  unfold State.reserveBw
  split
  · dsimp only
    repeat' split
    all_goals simp
  · simp

@[simp] theorem State.jobInstall_paths (s : State) (n : Nat) : (s.jobInstall n).holdView.paths = s.holdView.paths := by
  unfold State.jobInstall
  extract_lets warned shown resent _ _ fresh unset
  have hw : warned.holdView = s.holdView := by
    unfold warned
    split <;> simp
  simp [↓State.holdView_mk, State.cmds_length, unset, fresh, resent, shown, hw]

@[simp] theorem State.jobDefine_paths (s : State) (pl : List Byte) : (s.jobDefine pl).1.holdView.paths = s.holdView.paths := by
  unfold State.jobDefine
  dsimp only
  repeat' split
  all_goals simp

@[simp] theorem State.jobStart_paths (s : State) (p : Path) : (s.jobStart p).1.holdView.paths = s.holdView.paths := by
  unfold State.jobStart
  split <;> simp [↓State.holdView_mk, State.cmds_length]

@[simp] theorem State.jobStop_paths (s : State) : s.jobStop.1.holdView.paths = s.holdView.paths := by
  simp [State.jobStop]

@[simp] theorem State.eqxFail_paths (s : State) (e : Eqx) :
    (s.eqxFail e).holdView.paths = s.holdView.paths := (s.eqxFail_keeps e).paths

@[simp] theorem State.jobAbort_paths (s : State) (p : Path) : (s.jobAbort p).1.holdView.paths = s.holdView.paths := by
  unfold State.jobAbort
  extract_lets halted closed
  have hh : halted.holdView = s.holdView := by
    unfold halted
    split <;> simp
  have hc : closed.holdView.paths = s.holdView.paths := by simp [closed, hh]
  clear_value closed
  split
  · simp [hc]
  · dsimp only
    repeat' split
    all_goals simp +zetaDelta [↓State.holdView_mk, State.cmds_length, hc]
  · simp [hc]

@[simp] theorem State.calEquinox_paths (s : State) (p : Path) : (s.calEquinox p).1.holdView.paths = s.holdView.paths := by
  unfold State.calEquinox
  dsimp only
  repeat' split
  all_goals simp

@[simp] theorem State.enterService_paths (s : State) : s.enterService.holdView.paths = s.holdView.paths := by
  simp [State.enterService]

@[simp] theorem State.calBegin_paths (s : State) (op : Nat) : (s.calBegin op).holdView.paths = s.holdView.paths := by
  simp [State.calBegin]

@[simp] theorem State.calAlign_paths (s : State) (p : Path) (pl : List Byte) :
    (s.calAlign p pl).1.holdView.paths = s.holdView.paths := by
  unfold State.calAlign
  dsimp only
  repeat' split
  all_goals simp [↓State.holdView_mk, State.cmds_length]

@[simp] theorem State.calThermal_paths (s : State) (p : Path) (pl : List Byte) :
    (s.calThermal p pl).1.holdView.paths = s.holdView.paths := by
  unfold State.calThermal
  dsimp only
  repeat' split
  all_goals simp [↓State.holdView_mk, State.cmds_length]

@[simp] theorem State.moveHalt_paths (s : State) (pl : List Byte) : (s.moveHalt pl).1.holdView.paths = s.holdView.paths := by
  unfold State.moveHalt
  dsimp only
  repeat' split
  all_goals simp

@[simp] theorem State.serviceBegin_paths (s : State) : s.serviceBegin.1.holdView.paths = s.holdView.paths := by
  unfold State.serviceBegin
  split <;> simp

@[simp] theorem State.serviceEnd_paths (s : State) : s.serviceEnd.1.holdView.paths = s.holdView.paths := by
  unfold State.serviceEnd
  split <;> simp

@[simp] theorem State.updateEnd_paths (s : State) : s.updateEnd.holdView.paths = s.holdView.paths := by
  unfold State.updateEnd
  dsimp only
  split <;> simp [↓State.holdView_mk, State.cmds_length]

@[simp] theorem State.fwBegin_paths (s : State) (p : Path) (pl : List Byte) :
    (s.fwBegin p pl).1.holdView.paths = s.holdView.paths := by
  unfold State.fwBegin
  dsimp only
  repeat' split
  all_goals simp [↓State.holdView_mk, State.cmds_length]

@[simp] theorem State.fwChunk_paths (s : State) (p : Path) (pl : List Byte) :
    (s.fwChunk p pl).1.holdView.paths = s.holdView.paths := by
  unfold State.fwChunk
  dsimp only
  repeat' split
  all_goals simp [↓State.holdView_mk, State.cmds_length]

@[simp] theorem State.fwCommit_paths (s : State) (p : Path) : (s.fwCommit p).1.holdView.paths = s.holdView.paths := by
  unfold State.fwCommit
  dsimp only
  repeat' split
  all_goals simp

theorem State.runOp_paths (s : State) (p : Path) (op : Nat) (pl : List Byte) :
    (s.runOp p op pl).1.holdView.paths = s.holdView.paths := by
  unfold State.runOp
  split <;> simp

theorem State.resetBut_paths (s : State) (cause : Nat) : (s.resetBut cause).holdView.paths = 10 := by
  have reset : State.reset.holdView.paths = 10 := rfl
  simp [State.resetBut, ↓State.holdView_mk, State.cmds_length, reset]

theorem State.resetKeep_paths (s : State) : s.resetKeep.holdView.paths = 10 := by
  simp [State.resetKeep, State.resetBut_paths]

theorem State.enterWinter_paths (s : State) : s.enterWinter.holdView.paths = 10 := by
  simp [State.enterWinter, ↓State.holdView_mk, State.cmds_length]

theorem State.no_paths_of_afterReply {s : State} {p : Path} {op : Nat} {pl : List Byte} {r : Rsp}
    (h : (s.afterReply p op pl r).holdView.paths = 0) : s.holdView.paths = 0 := by
  unfold State.afterReply at h
  split at h
  · exact h
  · split at h
    · split at h
      · simpa using h
      · exact h
    · split at h
      · simp [State.enterWinter_paths] at h
      · split at h
        · simp [State.resetKeep_paths] at h
        · exact h

theorem State.no_paths_of_execOp {s : State} {p : Path} {op : Nat} {pl : List Byte} (h : (s.execOp p op pl).holdView.paths = 0) :
    s.holdView.paths = 0 := by
  unfold State.execOp at h
  dsimp only at h
  have hr := s.runOp_paths p op pl
  split at h
  · simpa using h
  · split at h
    · simpa using h
    · split at h
      · rename_i e
        rw [e] at hr
        simpa [← hr] using State.no_paths_of_afterReply h
      · rename_i e
        rw [e] at hr
        exact hr.symm.trans h

theorem State.no_paths_of_beginCmd {s : State} {p : Path} {x : Hdr} {pl : List Byte} (h : (s.beginCmd p x pl).holdView.paths = 0) :
    s.holdView.paths = 0 := by
  simpa using State.no_paths_of_execOp h

theorem State.no_paths_of_runSegment {s : State} {k : Nat} {c : QCmd} (h : (s.runSegment k c).holdView.paths = 0) :
    s.holdView.paths = 0 := by
  unfold State.runSegment at h
  dsimp only at h
  split at h
  · exact h
  · split at h
    · simpa using h
    · split at h
      · simpa using h
      · exact State.no_paths_of_beginCmd h

theorem State.no_paths_of_runPacket {s : State} {b : List Byte} (h : (s.runPacket b).holdView.paths = 0) :
    s.holdView.paths = 0 := by
  unfold State.runPacket at h
  dsimp only at h
  split at h
  · simpa using h
  · split at h
    · simpa using h
    · split at h
      · simpa using State.no_paths_of_beginCmd h
      · simpa using h

theorem State.no_paths_of_runHead {s : State} {p : Path} {q : QCmd} (h : (s.runHead p q).holdView.paths = 0) :
    s.holdView.paths = 0 := by
  unfold State.runHead at h
  dsimp only at h
  split at h
  · simpa using State.no_paths_of_runSegment h
  · simpa using State.no_paths_of_runPacket h

/-- With no command path no queued command is ready to run. -/
theorem State.readyPath_of_no_paths {s : State} (h : s.holdView.paths = 0) : s.readyPath = none := by
  have hc : s.cmds = [] := List.eq_nil_of_length_eq_zero h
  have head (p : Path) : s.headOf p = none := by
    unfold State.headOf State.cmd
    cases p <;> simp [hc, nthD]
  simp [State.readyPath, head]

/-- Queued commands that end with no command path have not run: no command takes the last path away. -/
theorem State.runQueues_of_no_paths {n : Nat} {s : State} (h : (State.runQueues n s).holdView.paths = 0) :
    State.runQueues n s = s := by
  induction n generalizing s with
  | zero => rfl
  | succ n ih =>
    unfold State.runQueues at h ⊢
    split at h
    · rfl
    · rename_i p q e
      rw [ih h] at h
      have h0 : s.holdView.paths = 0 := State.no_paths_of_runHead h
      simp [State.readyPath_of_no_paths h0] at e

/-- What settles in FAULT_HOLD with no command path had this operating state and this elastic buffer before. -/
theorem settle_keeps_hold {m : State} (hp : (settle m).holdView.paths = 0) (ho : (settle m).op = .faultHold) :
    (settle m).holdView = m.holdView := by
  unfold settle at hp ho ⊢
  split
  · rfl
  · rename_i hq
    rw [if_neg hq] at hp ho
    rw [(State.pollOps_keeps _).paths] at hp
    rw [State.runQueues_of_no_paths hp] at ho ⊢
    exact ((State.pollOps_keeps m).trans (State.pollOps_keeps m.pollOps)).view ho

end Sys2Proof.Machine
end
-- ==== Sys2Proof/Proofs/VerdictRing.lean ====
section
/-! The verdict unit against the elastic buffer (09_output_analytics.md R263): a verdict record that would overwrite a
session's oldest unacknowledged one ends that session. -/

namespace Sys2Proof.Machine

/-- A packet of line 3 with one verdict record. -/
def judgedPacket : Tree := ⟨3, 0, 0, 0, 0, 0, 0, 0, 0, 0, [], [[]], false, false, ⟨false, 0, 0, 0, 0⟩, none⟩

/-- The ring of verdict records is full and the one open session has not acknowledged its oldest record; the elastic buffer
keeps a line. In FAULT_HOLD, with no command path and so no queued command, nothing but the verdict can take that line away. -/
def ringFull : State :=
  { State.reset with
    op := .faultHold
    seasons := List.replicate 146 .summer
    regs := []
    cmds := []
    prod := { tree := [judgedPacket], elastic := [⟨0, 0, 0, 0, 0, [], false⟩] }
    ana := { nextRec := 16384 }
    sessions := [{ id := { st := 2, role := 1 }, tx := { recs := [⟨0, some 0, []⟩] } }] }

theorem ringFull_inv : ringFull.Inv := by
  unfold State.Inv
  decide

/-- What VERDICT_UNIT_LINE makes of `ringFull`: the session has ended, and no line is kept. -/
def ringOverrun : State := (ringFull.at 0).verdictLine

theorem ringOverrun_quiet : ringOverrun.quiet = true := by decide

theorem ringOverrun_holdView : ringOverrun.holdView = ⟨.faultHold, [], 0⟩ := by
  have ho : ringOverrun.op = .faultHold := by decide
  have he : ringOverrun.prod.elastic = [] := by decide
  have hc : ringOverrun.cmds = [] := by decide
  rw [State.holdView, ho, he, hc, List.length_nil]

theorem exec_verdictUnitLine_ringFull : exec (.verdictUnitLine 0) ringFull = .next (ringFull.rest ringOverrun) := rfl

/-- What comes to rest where VERDICT_UNIT_LINE leaves `ringFull` keeps no line. -/
theorem elastic_of_rest {m : State} (h : ringFull.rest ringOverrun = ringFull.rest m) : m.prod.elastic = [] := by
  have rests : settle ringOverrun = ringOverrun := settle_of_quiet ringOverrun_quiet
  have view : (settle m).holdView = ⟨.faultHold, [], 0⟩ := by
    have same : (ringFull.rest m).holdView = (ringFull.rest ringOverrun).holdView := congrArg State.holdView h.symm
    rw [State.rest, State.rest, State.finish_holdView, State.finish_holdView, rests, ringOverrun_holdView] at same
    exact same
  have kept : (settle m).holdView = m.holdView := settle_keeps_hold (congrArg HoldView.paths view) (congrArg HoldView.op view)
  exact congrArg HoldView.elastic (kept.symm.trans view)

/-- Refutes O33: VERDICT_UNIT_LINE writes the verdict records of its line to the ring, and a record that would overwrite a
session's oldest unacknowledged one ends that session (09_output_analytics.md R263); the lines that only it awaited leave the
elastic buffer, whose length therefore is not kept (`ringFull`: one line before, none after). -/
theorem not_linesGoThroughTheTree : ¬ Obligations.LinesGoThroughTheTree := by
  unfold Obligations.LinesGoThroughTheTree
  intro h
  obtain ⟨-, judged, -, -⟩ := h ringFull 0 ringFull_inv (by decide)
  obtain ⟨m, hm, -, -, -, length, -⟩ := judged judgedPacket [] rfl
  rw [exec_verdictUnitLine_ringFull] at hm
  rw [elastic_of_rest (Host.Outcome.next.inj hm)] at length
  exact absurd length (by decide)

end Sys2Proof.Machine
end
